-- ==== Sys2Proof/Word.lean ====
section
/-! DEFINITION. The words of the part: cue memory words, word addresses, published 32-bit values, pixel codes. -/

namespace Sys2Proof

/-- A cue memory word, bit 0 the least significant (R181). -/
abbrev Word := BitVec 16

/-- A 32-bit value: two words, the high word at the lower address (R181). -/
abbrev DWord := BitVec 32

/-- A word address of cue memory, 0x00000…0x1FFFF (R172). -/
abbrev Addr := BitVec 17

/-- A 10-bit channel code of a pixel (R86). -/
abbrev Code := BitVec 10

end Sys2Proof
end

