-- ==== Sys2Proof/Syntax.lean ====
section
/-! DEFINITION. The commands of the part, one constructor per row of spec/opcode_table.json. -/

namespace Sys2Proof

/-- The identity of a field as REF gives it: field 1 or field 2 of the video frame (R21). -/
inductive FieldIdentity where
  | field1
  | field2
  deriving DecidableEq, Repr

/-- Where in the handling of an ACTIVE START a reset takes effect (R99, R131; log 33): once the split pending is
executed and at most so many entries are taken, or once the scan is over and at most so many visits of the ripple are
made. -/
inductive ResetMoment where
  | scan (takings : Fin 5)
  | visits (made : Fin 33)
  deriving DecidableEq, Repr

/-- The register of a host write that the table files under REGISTER_WRITE_OTHER (R173, R177): IDENT, whose writes are
ignored, or CONTROL, whose write may find nothing to change in the run state it meets. DEDUCED (log 11). A CONTROL write
with RESET set that arrives while an open ACTIVE START is being handled is `resetWithin`: the ACTIVE START, as far as it
comes, and the reset are one command (R99; log 33). -/
inductive OtherWrite where
  | ident (value : Word)
  | control (value : Word)
  | resetWithin (moment : ResetMoment)
  deriving DecidableEq, Repr

/-- The registers that REGISTER_READ names (R173, R175). -/
inductive ReadRegister where
  | control
  | attention
  | attentionEnable
  | pointerLow
  | pointerHigh
  | reportRelease
  deriving DecidableEq, Repr

/-- A command: an access of the host, an event of an external line, or an expiry of one of the part's timers. -/
inductive Instr where
  /-- POWER_ON_RESET (R180): with the levels found on the lines (R1, R162) and what the RAM powers up holding, which
  the manual calls undefined (log 1). -/
  | powerOnReset (perfA perfB : Bool) (gpi : BitVec 4) (ram : List (Addr × Word))
  /-- PORT_RESET (R180): a CONTROL write with RESET set, taken between two other events. -/
  | portReset
  /-- RUN_START (R178): a CONTROL write of RUN 1, RESET clear. -/
  | runStart
  /-- HALT (R179): a CONTROL write of RUN 0, RESET clear. -/
  | halt
  /-- RESUME (R179): a CONTROL write of RUN 1, RESET clear. -/
  | resume
  /-- IDENT_READ (R177). -/
  | identRead
  /-- ATTENTION_WRITE (R176). -/
  | attentionWrite (value : Word)
  /-- ATTENTION_ENABLE_WRITE (R176). -/
  | attentionEnableWrite (value : Word)
  /-- POINTER_LOW_WRITE (R173). -/
  | pointerLowWrite (value : Word)
  /-- POINTER_HIGH_WRITE (R173). -/
  | pointerHighWrite (value : Word)
  /-- REGISTER_WRITE_OTHER (R173, R177). -/
  | registerWriteOther (write : OtherWrite)
  /-- DATA_READ (R175). -/
  | dataRead
  /-- DATA_WRITE (R174). -/
  | dataWrite (value : Word)
  /-- REPORT_RELEASE_WRITE (R169). -/
  | reportReleaseWrite (value : Word)
  /-- PERF_LINE_CHANGE (R2): the levels of PERF A and PERF B after the change. -/
  | perfLineChange (perfA perfB : Bool)
  /-- STILLNESS_TIMER_EXPIRY (R5). -/
  | stillnessTimerExpiry
  /-- EDGE_READING (R9): a value 0…16,777,215 and the reader-valid flag. -/
  | edgeReading (value : BitVec 24) (valid : Bool)
  /-- FIELD_START (R21). -/
  | fieldStart (identity : FieldIdentity)
  /-- REFERENCE_TIMER_EXPIRY (R29). -/
  | referenceTimerExpiry
  /-- ACTIVE_START (R22, R99). -/
  | activeStart
  /-- GPI_LINE_CHANGE (R162): the line and its level after the change. -/
  | gpiLineChange (line : Fin 4) (level : Bool)
  /-- LINE_HOLD_END (R156): the GPO line whose hold ends. -/
  | lineHoldEnd (line : Fin 6)
  /-- PIXEL (R86). -/
  | pixel (red green blue : Code)
  /-- REGISTER_READ (R173, R175). -/
  | registerRead (register : ReadRegister)
  /-- LIVE_RECORD_WORD_READ (R78). -/
  | liveRecordWordRead
  deriving DecidableEq, Repr

end Sys2Proof
end

