-- ==== Sys2Proof/Config.lean ====
section
/-! DEFINITION. The free values: what the manual leaves open although the part goes on. -/

namespace Sys2Proof

/-- DESIGN CHOICE, safe (log 29). The free value of the n-th draw. It has no body: nothing can be proved of it, so a
claim about the machine holds whatever it is. It stands wherever the manual states no value (logs 5, 7, 8, 10). -/
opaque Config.freeWord : Nat → Word

end Sys2Proof
end

