-- ==== Sys2Proof/Machine/State.lean ====
section
/-! DEFINITION. The state of the part, block by block, as plain data, and the state right after power-on reset. -/

namespace Sys2Proof.Machine

/-! ### Why a step can stop -/

/-- Nothing in the manual stops the part: every command has an effect or is ignored, in every state. Nobody raises a
fault, so the type has no constructor, which is safe. -/
inductive Fault where
  deriving DecidableEq, Repr

/-- Why a command has no meaning. -/
inductive Refusal where
  /-- Raised by an arm of exec whose command has no meaning yet, under the command's mnemonic. Safe: nothing can be
  proved of a step that does not happen. No arm raises it any more. -/
  | notModelled (mnemonic : String)
  deriving DecidableEq, Repr

/-! ### The cue memory -/

/-- Cue memory: the words that are not 0, by word address, addresses strictly rising (log 1, log 24). -/
abbrev Memory := List (Nat × Word)

/-- A slot of the scene table, 0…1023 (R36). -/
abbrev Slot := Fin 1024

/-- Ten grade parameters or ten deltas, in the order LIFT R, G, B, GAIN R, G, B, BEND R, G, B, SAT (R104). -/
abbrev Grade := Vector Int 10

/-! ### The set-up in force (R172, R182) -/

/-- GAUGE: perforations per frame (R182). -/
inductive Gauge where
  | one
  | three
  | four
  deriving DecidableEq, Repr

/-- VIDEO MODE (R182). -/
inductive VideoMode where
  | m60_32
  | m50_22
  | m60_22
  deriving DecidableEq, Repr

/-- EDGE MODE (R182). -/
inductive EdgeMode where
  | off
  | follow
  | watch
  deriving DecidableEq, Repr

/-- The fifteen generators of the cue event matrix, numbered from 1 in this order (R151 and the table of 9.2). -/
inductive Generator where
  | fieldStart
  | frameReference
  | cadenceA
  | locked
  | sceneChange
  | dissolve
  | passGate
  | trackerLag
  | requestNotify
  | filmFrame
  | slip
  | gpi0
  | gpi1
  | gpi2
  | gpi3
  deriving DecidableEq, Repr

/-- A GPO mode word: ALIGNED or DIRECT, normal or inverted polarity (R182). -/
structure GpoMode where
  direct : Bool
  inverted : Bool
  deriving DecidableEq, Repr

/-- The set-up in force. A channel selection of 0 and a user selection of 0 are `none` (R182). -/
structure Setup where
  gauge : Gauge
  videoMode : VideoMode
  negative : Bool
  edgeMode : EdgeMode
  edgeBase : Int
  readerOffset : Int
  edgeTolerance : Nat
  walkLimit : Nat
  rippleStep : Nat
  clipLow : Nat
  clipHigh : Nat
  splitBakesTrim : Bool
  freezeTrimInRecord : Bool
  reportThreshold : Nat
  sceneEnable : Bool
  holdEnable : Bool
  liveStaleLimit : Nat
  channelSelection : Vector (Option Generator) 8
  userSelection : Vector (Option (Fin 8)) 11
  gpoMode : Vector GpoMode 6
  deriving DecidableEq, Repr

/-- The defaults of R182, in force after power-on reset and port reset. -/
def Setup.default : Setup where
  gauge := .four
  videoMode := .m60_32
  negative := false
  edgeMode := .off
  edgeBase := 0
  readerOffset := 0
  edgeTolerance := 1
  walkLimit := 16
  rippleStep := 8
  clipLow := 64
  clipHigh := 940
  splitBakesTrim := false
  freezeTrimInRecord := true
  reportThreshold := 64
  sceneEnable := true
  holdEnable := true
  liveStaleLimit := 8
  channelSelection := #v[none, none, none, none, none, none, none, none]
  userSelection := #v[none, none, none, none, none, none, none, none, none, none, none]
  gpoMode := #v[⟨false, false⟩, ⟨false, false⟩, ⟨false, false⟩, ⟨false, false⟩, ⟨false, false⟩, ⟨false, false⟩]

/-! ### The position counter (R1) -/

/-- A timer of the part. The model has no clock; a running timer holds the video mode whose nominal period it was given
(R5, R29), and its expiry is a command (log 13). -/
inductive Timer where
  | stopped
  | running (period : VideoMode)
  deriving DecidableEq, Repr

/-- Which way the film last moved (R5). -/
inductive Direction where
  | stopped
  | forward
  | reverse
  deriving DecidableEq, Repr

/-- An end of the position range (R6). -/
inductive RangeEnd where
  | low
  | high
  deriving DecidableEq, Repr

/-- The position state: SUSPECT holds the suspect difference (R11), LIMIT the end at which a step was refused, which
R7 needs to tell the opposite direction (DEDUCED, log 18). -/
inductive PositionState where
  | good
  | suspect (difference : Int)
  | fault
  | limit (reached : RangeEnd)
  deriving DecidableEq, Repr

/-- The position counter. The current frame and the perf phase are derived from the count and the gauge (R3). -/
structure Position where
  count : Int
  gauge : Gauge
  direction : Direction
  state : PositionState
  stillness : Timer
  perfA : Bool
  perfB : Bool
  deriving DecidableEq, Repr

/-! ### The field sequencer (R20) -/

/-- The reference state (R29, R30). -/
inductive Reference where
  | present
  | lost
  deriving DecidableEq, Repr

/-- The field sequencer. `phase` is `none` when unphased; `cadenceA` is the level of the CADENCE A generator (R32). -/
structure Sequencer where
  fieldCount : DWord
  fieldFrame : Int
  phase : Option Nat
  alignPending : Bool
  locked : Bool
  goodCount : Nat
  firstFieldFrame : Option Int
  lastIdentity : Option FieldIdentity
  activeStartTaken : Bool
  timer : Timer
  reference : Reference
  cadenceA : Bool
  deriving DecidableEq, Repr

/-! ### The scene tracker (R56) -/

/-- The outcome of a resolution (R59, R60). -/
inductive ResolutionOutcome where
  | resolved
  | held
  deriving DecidableEq, Repr

/-- The tracker's answer for one field (R59, R60). A held record has the one reason the manual gives, LAGGING. -/
structure Resolution where
  outcome : ResolutionOutcome
  fieldCount : DWord
  fieldFrame : Int
  slot : Slot
  serial : Word
  steps : Nat
  dissolving : Bool
  predecessor : Option Slot
  n : Nat
  dEff : Nat
  deriving DecidableEq, Repr

/-- The scene tracker. The last resolved slot and serial are present or absent together; `lagging` is the tracker state
LAGGING and the level of TRACKER LAG; `dissolveLevel` is the level of DISSOLVE (R67). -/
structure Tracker where
  current : Slot
  lagging : Bool
  latest : Option Resolution
  lastResolved : Option (Slot × Word)
  heldCount : Nat
  dissolveLevel : Bool
  deriving DecidableEq, Repr

/-! ### The grade engine (R75) -/

/-- Whether the field's trim was read whole (R78). -/
inductive LiveState where
  | current
  | held
  deriving DecidableEq, Repr

/-- The status words other blocks own that may move between a FIELD START and the end of its live read, as they stood
at the FIELD START (R19, R164; log 6). -/
structure FieldMoment where
  perfCount : Int
  positionState : PositionState
  direction : Direction
  writeCount : Word
  releaseCount : Word
  deriving DecidableEq, Repr

/-- A read of the live trim record in progress: the words read so far, in the order of R78 (CLOSE first). -/
structure LiveRead where
  words : List Word
  moment : FieldMoment
  deriving DecidableEq, Repr

/-- The grade engine (R75), with the live read in progress (R78, R94). -/
structure Engine where
  deltas : Grade
  enable : Bool
  revision : Option Word
  liveState : LiveState
  tornCount : Nat
  stale : Bool
  coefficients : Grade
  read : Option LiveRead
  deriving DecidableEq, Repr

/-! ### The request processor (R98, R123) -/

/-- The record of the ripple in flight (R123). -/
structure Ripple where
  entry : Fin 32
  number : Word
  next : Slot
  last : Slot
  step : Nat
  mask : Vector Bool 10
  deltas : Grade
  done : Nat
  clamped : Nat
  deriving DecidableEq, Repr

/-- The request processor. `setupFault` is `none` for 0xFFFF. `notifyDue` is the model's own: an entry with NOTIFY
finished in the handling in progress (R103). -/
structure Requests where
  takeIndex : Fin 32
  ripple : Option Ripple
  rippleCounter : Word
  splitPending : Option Int
  setupFault : Option Nat
  freeStack : List Slot
  notifyDue : Bool
  deriving DecidableEq, Repr

/-! ### The pass controller (R136) -/

/-- The pass states. -/
inductive PassState where
  | idle
  | cued
  | recording
  | paused
  | complete
  | faulted
  deriving DecidableEq, Repr

/-- The pass conditions. -/
inductive Condition where
  | none
  | completed
  | stopped
  | abandoned
  | missedCue
  | frameSkip
  | reversed
  | lockLost
  | referenceLost
  | positionFault
  | halted
  deriving DecidableEq, Repr

/-- The pass controller. -/
structure Pass where
  state : PassState
  condition : Condition
  inFrame : Int
  requested : Nat
  recorded : Nat
  remaining : Nat
  openEnded : Bool
  stopPending : Bool
  startFieldCount : DWord
  expected : Int
  deriving DecidableEq, Repr

/-- The pass controller after a reset and at run-start initialisation (R136). -/
def Pass.initial : Pass where
  state := .idle
  condition := .none
  inFrame := 0
  requested := 0
  recorded := 0
  remaining := 0
  openEnded := false
  stopPending := false
  startFieldCount := 0
  expected := 0

/-! ### The cue event matrix (R151) -/

/-- The inversion state of a channel (R160). -/
inductive Inversion where
  | none
  | pending
  | inProgress
  deriving DecidableEq, Repr

/-- The hold of a blip on a DIRECT GPO line: the value held, and the video mode whose line period it runs for (R156). -/
structure Hold where
  value : Bool
  period : VideoMode
  deriving DecidableEq, Repr

/-- The video-domain pulses that occupy the field (R152). -/
structure Pulses where
  fieldStart : Bool
  frameReference : Bool
  sceneChange : Bool
  requestNotify : Bool
  deriving DecidableEq, Repr

/-- The cue event matrix. Its selections and modes are those of the set-up in force. `notifyWaiting` is a REQUEST
NOTIFY pulse waiting for its FIELD START (R152). -/
structure Matrix where
  inversion : Vector Inversion 8
  edgeSeen : Vector Bool 11
  presented : Vector Bool 11
  hold : Vector (Option Hold) 6
  pulses : Pulses
  notifyWaiting : Bool
  gpi : Vector Bool 4
  deriving DecidableEq, Repr

/-! ### The report writer (R164) -/

/-- The report kinds (R164, R186). -/
inductive ReportKind where
  | scene
  | hold
  | slip
  | badRead
  | lock
  | reference
  | limit
  | pass
  | split
  | mark
  | live
  | gap
  deriving DecidableEq, Repr

/-- A gap outstanding (R164, R167). `kinds` has bit k − 1 set for each kind coded k that was dropped (R186). -/
structure Gap where
  dropped : Nat
  firstFieldCount : DWord
  firstFrame : Int
  lastFieldCount : DWord
  lastFrame : Int
  kinds : Word
  deriving DecidableEq, Repr

/-- The report writer. -/
structure Writer where
  writeCount : Word
  releaseCount : Word
  sequence : Word
  gap : Option Gap
  deriving DecidableEq, Repr

/-- The report writer after a reset and at run-start initialisation (R164). -/
def Writer.initial : Writer where
  writeCount := 0
  releaseCount := 0
  sequence := 0
  gap := none

/-! ### The host port (R172) -/

/-- The run state. -/
inductive RunState where
  | uninitialised
  | halted
  | running
  deriving DecidableEq, Repr

/-- What the next IDENT read returns (R177). -/
inductive IdentNext where
  | code
  | revision
  deriving DecidableEq, Repr

/-- The host port. Causes and enables are held by their register bits: 0 REQUEST, 1 REPORT, 2 PASS, 3 FAULT, 4 DISCARD,
5 STALE, 6 SETUP (R173). -/
structure Port where
  pointer : Addr
  latch : Option (Addr × Word)
  causes : BitVec 7
  enables : BitVec 7
  run : RunState
  ident : IdentNext
  deriving DecidableEq, Repr

/-! ### The whole part -/

/-- Three channel codes of a pixel. -/
structure Pixel where
  red : Code
  green : Code
  blue : Code
  deriving DecidableEq, Repr

/-- The state of the part, with the model's own fields: the value the latest host read returned, the latest pixel
delivered (log 12), the number of free values drawn (log 29) and the queue of waiting commands. -/
structure State where
  position : Position
  sequencer : Sequencer
  tracker : Tracker
  engine : Engine
  requests : Requests
  pass : Pass
  matrix : Matrix
  writer : Writer
  port : Port
  setup : Setup
  cue : Memory
  busData : Word
  pixOut : Pixel
  draws : Nat
  pending : List Instr
  deriving DecidableEq, Repr

/-- The part right after power-on reset (R1, R20, R56, R75, R98, R136, R151, R164, R172). DESIGN CHOICE, unsafe: line
levels low (log 15), cue memory all 0 (log 1), bus data and PIX OUT 0 (log 12), no value drawn (log 29). -/
def State.reset : State where
  position :=
    { count := 0, gauge := .four, direction := .stopped, state := .good, stillness := .stopped,
      perfA := false, perfB := false }
  sequencer :=
    { fieldCount := 0, fieldFrame := 0, phase := none, alignPending := false, locked := false, goodCount := 0,
      firstFieldFrame := none, lastIdentity := none, activeStartTaken := true, timer := .running .m60_32,
      reference := .present, cadenceA := false }
  tracker :=
    { current := 0, lagging := false, latest := none, lastResolved := none, heldCount := 0, dissolveLevel := false }
  engine :=
    { deltas := #v[0, 0, 0, 0, 0, 0, 0, 0, 0, 0], enable := false, revision := none, liveState := .held,
      tornCount := 0, stale := false, coefficients := #v[0, 0, 0, 1024, 1024, 1024, 0, 0, 0, 256], read := none }
  requests :=
    { takeIndex := 0, ripple := none, rippleCounter := 0, splitPending := none, setupFault := none, freeStack := [],
      notifyDue := false }
  pass := Pass.initial
  matrix :=
    { inversion := #v[.none, .none, .none, .none, .none, .none, .none, .none]
      edgeSeen := #v[false, false, false, false, false, false, false, false, false, false, false]
      presented := #v[false, false, false, false, false, false, false, false, false, false, false]
      hold := #v[none, none, none, none, none, none]
      pulses := { fieldStart := false, frameReference := false, sceneChange := false, requestNotify := false }
      notifyWaiting := false
      gpi := #v[false, false, false, false] }
  writer := Writer.initial
  port :=
    { pointer := 0, latch := none, causes := 0, enables := 0, run := .uninitialised, ident := .code }
  setup := Setup.default
  cue := []
  busData := 0
  pixOut := { red := 0, green := 0, blue := 0 }
  draws := 0
  pending := []

end Sys2Proof.Machine
end

