-- ==== Sys2Proof/Machine/Ops.lean ====
section
/-! DEFINITION. The named operations over cue memory and numbers: reading and writing words, 32-bit values and slots,
clamping, nearest rounding, drawing a free value. -/

namespace Sys2Proof.Machine

/-! ### Cue memory -/

/-- What an address that is not listed reads as. DESIGN CHOICE, unsafe (log 1): the manual calls the contents after
power-on undefined. -/
def Memory.unlisted : Word := 0

/-- Cue memory has 131,072 words (R172). -/
def cueSize : Nat := 131072

/-- The word at an address. -/
def Memory.read : Memory → Nat → Word
  | [], _ => Memory.unlisted
  | (k, w) :: rest, a => if k = a then w else Memory.read rest a

/-- A memory with a cell put in its place among rising addresses. -/
def Memory.insertCell (a : Nat) (w : Word) : Memory → Memory
  | [] => [(a, w)]
  | (k, v) :: rest => if a < k then (a, w) :: (k, v) :: rest else (k, v) :: Memory.insertCell a w rest

/-- A memory with every cell of an address dropped. -/
def Memory.dropCell (a : Nat) : Memory → Memory
  | [] => []
  | (k, v) :: rest => if k = a then Memory.dropCell a rest else (k, v) :: Memory.dropCell a rest

/-- One word written. Writing what an unlisted address reads as removes the cell. -/
def Memory.write (m : Memory) (a : Nat) (w : Word) : Memory :=
  if w = Memory.unlisted then Memory.dropCell a m else Memory.insertCell a w (Memory.dropCell a m)

/-- Words written one after another. -/
def Memory.writeAll : Memory → List (Nat × Word) → Memory
  | m, [] => m
  | m, (a, w) :: rest => Memory.writeAll (Memory.write m a w) rest

/-- Every word from `first` up to but not including `past` written as 0. -/
def Memory.clearRange (m : Memory) (first past : Nat) : Memory :=
  m.filter fun c => decide (c.1 < first ∨ past ≤ c.1)

/-- The canonical form: addresses strictly rising and below the size, and no word that an unlisted address reads as. -/
def Memory.wf : Memory → Bool
  | [] => true
  | [(a, w)] => decide (a < cueSize) && (w != Memory.unlisted)
  | (a, w) :: (b, v) :: rest => decide (a < b) && (w != Memory.unlisted) && Memory.wf ((b, v) :: rest)

/-! ### Values in words (R181) -/

/-- The high word of a 32-bit value. -/
def highWord (v : DWord) : Word := v.extractLsb' 16 16

/-- The low word of a 32-bit value. -/
def lowWord (v : DWord) : Word := v.extractLsb' 0 16

/-- A signed number as a word, two's complement. -/
def signedWord (i : Int) : Word := BitVec.ofInt 16 i

/-- A signed number as a 32-bit value, two's complement. -/
def signedDWord (i : Int) : DWord := BitVec.ofInt 32 i

/-- An unsigned number as a word. -/
def natWord (n : Nat) : Word := BitVec.ofNat 16 n

/-- An unsigned number as a 32-bit value. -/
def natDWord (n : Nat) : DWord := BitVec.ofNat 32 n

/-- A word zero-extended to a 32-bit value (R184). -/
def wordDWord (w : Word) : DWord := w.zeroExtend 32

/-- The two words of a 32-bit value, the high word first. -/
def bothWords (v : DWord) : List Word := [highWord v, lowWord v]

/-- A yes-or-no item: 1 for yes, 0 otherwise. -/
def boolWord (b : Bool) : Word := if b then 1 else 0

/-- A slot as a word; NONE is 0xFFFF. -/
def slotWord : Option Slot → Word
  | some x => natWord x.val
  | none => 0xFFFF

/-- The slot a word names; a word above 1023 names none. -/
def slotOfWord (w : Word) : Option Slot := if h : w.toNat < 1024 then some ⟨w.toNat, h⟩ else none

/-- The 32-bit value at an address: high word at the lower address. -/
def Memory.readPair (m : Memory) (a : Nat) : DWord := Memory.read m a ++ Memory.read m (a + 1)

/-- The two cells of a 32-bit value at an address. -/
def pairCells (a : Nat) (v : DWord) : List (Nat × Word) := [(a, highWord v), (a + 1, lowWord v)]

/-- Cells at consecutive addresses. -/
def cellsFrom : Nat → List Word → List (Nat × Word)
  | _, [] => []
  | a, w :: rest => (a, w) :: cellsFrom (a + 1) rest

/-! ### Numbers -/

/-- A value clamped to a range (00 "Conventions"). -/
def clampInt (low high x : Int) : Int := max low (min high x)

/-- Nearest rounding of a ÷ b for positive b, halves away from zero (R74). -/
def roundDiv (a : Int) (b : Nat) : Int :=
  if 0 ≤ a then (2 * a + b) / (2 * b) else -((2 * (-a) + b) / (2 * b))

/-- The lowest frame of the position range (R3). -/
def frameLow : Int := -65536

/-- The highest frame of the position range (R3). -/
def frameHigh : Int := 1048575

/-- A frame is inside the position range. -/
def frameInRange (p : Int) : Bool := decide (frameLow ≤ p ∧ p ≤ frameHigh)

/-- A value clamped to the signed 32-bit range (R15). -/
def clampSigned32 (d : Int) : Int := clampInt (-2147483648) 2147483647 d

/-! ### Periods of the timers, which the model holds but does not count (R5, R29, R156; log 13) -/

/-- Eight nominal field periods, in units of 1/120,000 s (R5). -/
def VideoMode.stillnessPeriod : VideoMode → Nat
  | .m60_32 => 16016
  | .m50_22 => 19200
  | .m60_22 => 16016

/-- Two and a half nominal field periods, in units of 1/120,000 s (R29). -/
def VideoMode.referencePeriod : VideoMode → Nat
  | .m60_32 => 5005
  | .m50_22 => 6000
  | .m60_22 => 5005

/-- One nominal line period, in units of 10 ns (R156). -/
def VideoMode.linePeriod : VideoMode → Nat
  | .m60_32 => 6356
  | .m50_22 => 6400
  | .m60_22 => 6356

/-! ### Free values (log 29) -/

/-- A free word, and the state with one more value drawn. -/
def State.drawWord (s : State) : Word × State := (Config.freeWord s.draws, { s with draws := s.draws + 1 })

/-- A free 32-bit value: two free words. -/
def State.drawDWord (s : State) : DWord × State :=
  (Config.freeWord s.draws ++ Config.freeWord (s.draws + 1), { s with draws := s.draws + 2 })

/-- A 32-bit value that may be absent, as it is carried where the manual states no value for an absent one. -/
def State.orFree (s : State) : Option DWord → DWord × State
  | some v => (v, s)
  | none => s.drawDWord

end Sys2Proof.Machine
end

