-- ==== Sys2Proof/Machine/Matrix.lean ====
section
/-! DEFINITION. The cue event matrix: generators, channels, edges, blips, users and the GPO lines (R151 to R163). -/

namespace Sys2Proof.Machine

/-- The number of a generator (9.2). -/
def Generator.number : Generator → Nat
  | .fieldStart => 1
  | .frameReference => 2
  | .cadenceA => 3
  | .locked => 4
  | .sceneChange => 5
  | .dissolve => 6
  | .passGate => 7
  | .trackerLag => 8
  | .requestNotify => 9
  | .filmFrame => 10
  | .slip => 11
  | .gpi0 => 12
  | .gpi1 => 13
  | .gpi2 => 14
  | .gpi3 => 15

/-- The generator a number names; 0 names none. -/
def Generator.ofNumber : Nat → Option Generator
  | 1 => some .fieldStart
  | 2 => some .frameReference
  | 3 => some .cadenceA
  | 4 => some .locked
  | 5 => some .sceneChange
  | 6 => some .dissolve
  | 7 => some .passGate
  | 8 => some .trackerLag
  | 9 => some .requestNotify
  | 10 => some .filmFrame
  | 11 => some .slip
  | 12 => some .gpi0
  | 13 => some .gpi1
  | 14 => some .gpi2
  | 15 => some .gpi3
  | _ => none

/-- The level of a generator between blips: a film-domain pulse has none (R152). -/
def State.generatorLevel (s : State) : Generator → Bool
  | .fieldStart => s.matrix.pulses.fieldStart
  | .frameReference => s.matrix.pulses.frameReference
  | .cadenceA => s.sequencer.cadenceA
  | .locked => s.sequencer.locked
  | .sceneChange => s.matrix.pulses.sceneChange
  | .dissolve => s.tracker.dissolveLevel
  | .passGate => s.pass.state == .recording
  | .trackerLag => s.tracker.lagging
  | .requestNotify => s.matrix.pulses.requestNotify
  | .filmFrame => false
  | .slip => false
  | .gpi0 => s.matrix.gpi[0]
  | .gpi1 => s.matrix.gpi[1]
  | .gpi2 => s.matrix.gpi[2]
  | .gpi3 => s.matrix.gpi[3]

/-- The signal a channel would carry under a selection: low where nothing is selected (R152). -/
def State.signal (s : State) : Option Generator → Bool
  | some g => s.generatorLevel g
  | none => false

/-- A channel is inverted while an inversion is in progress on it (R160). -/
def State.inverted (s : State) (c : Fin 8) : Bool := s.matrix.inversion[c] == .inProgress

/-- The level a channel carries (R152). -/
def State.channel (s : State) (c : Fin 8) : Bool :=
  Bool.xor (s.signal s.setup.channelSelection[c]) (s.inverted c)

/-! ### Users -/

/-- User 6, SPLIT. -/
def userSplit : Fin 11 := 6
/-- User 7, MARK. -/
def userMark : Fin 11 := 7
/-- User 8, TRIM HOLD. -/
def userTrimHold : Fin 11 := 8
/-- User 9, PASS STOP. -/
def userPassStop : Fin 11 := 9
/-- User 10, CADENCE ALIGN. -/
def userCadenceAlign : Fin 11 := 10

/-- The user number of a GPO line. -/
def gpoUser (g : Fin 6) : Fin 11 := ⟨g.val, by omega⟩

/-- A user is one of the five internal ones (9.3). -/
def internalUser (u : Fin 11) : Bool := decide (6 ≤ u.val)

/-- A user is ALIGNED: an internal user, or a GPO line whose mode says so (9.3). -/
def Setup.aligned (st : Setup) (u : Fin 11) : Bool := if h : u.val < 6 then !st.gpoMode[u.val].direct else true

/-- A user is ignored: an internal user while HALTED (R163). -/
def State.ignores (s : State) (u : Fin 11) : Bool := internalUser u && s.port.run == .halted

/-- A rising edge of the user's channel sets its edge-seen flag: it is ALIGNED and not ignored (R155, R163). -/
def State.counts (s : State) (u : Fin 11) : Bool := s.setup.aligned u && !s.ignores u

/-- A change of generators is carried to the channels: rising edges set the flags of the ALIGNED users, and a change of
a channel's level ends the hold of the DIRECT lines on it (R155, R156). `before` is the part before the change. -/
def State.settle (before after : State) : State :=
  { after with
    matrix :=
      { after.matrix with
        edgeSeen := Vector.ofFn fun u =>
          match after.setup.userSelection[u] with
          | some c => after.matrix.edgeSeen[u] || (after.counts u && !before.channel c && after.channel c)
          | none => after.matrix.edgeSeen[u]
        hold := Vector.ofFn fun g =>
          match after.setup.userSelection[gpoUser g] with
          | some c => if before.channel c = after.channel c then after.matrix.hold[g] else none
          | none => after.matrix.hold[g] } }

/-- A blip of a generator: one rising edge for each ALIGNED user on a channel that selects it, and a hold of the value
the channel departed to on each DIRECT line (R153, R155, R156). -/
def State.blip (s : State) (gen : Generator) : State :=
  { s with
    matrix :=
      { s.matrix with
        edgeSeen := Vector.ofFn fun u =>
          match s.setup.userSelection[u] with
          | some c => s.matrix.edgeSeen[u] || (s.counts u && s.setup.channelSelection[c] == some gen)
          | none => s.matrix.edgeSeen[u]
        hold := Vector.ofFn fun g =>
          match s.setup.userSelection[gpoUser g] with
          | some c =>
            if s.setup.channelSelection[c] = some gen ∧ s.setup.aligned (gpoUser g) = false then
              some { value := !s.channel c, period := s.setup.videoMode }
            else s.matrix.hold[g]
          | none => s.matrix.hold[g] } }

/-- A blip where a condition calls for it. -/
def State.blipIf (s : State) (called : Bool) (gen : Generator) : State := if called then s.blip gen else s

/-- The value a connected GPO line follows before polarity: its channel or hold when DIRECT, its presented value when
ALIGNED (R155, R156). -/
def State.gpoValue (s : State) (g : Fin 6) (c : Fin 8) : Bool :=
  if s.setup.gpoMode[g].direct then
    match s.matrix.hold[g] with
    | some h => h.value
    | none => s.channel c
  else s.matrix.presented[gpoUser g]

/-- The level a GPO line drives: low when it is off, its value under its polarity otherwise (R154, R157). -/
def State.gpo (s : State) (g : Fin 6) : Bool :=
  match s.setup.userSelection[gpoUser g] with
  | none => false
  | some c => Bool.xor (s.gpoValue g c) s.setup.gpoMode[g].inverted

/-! ### FIELD START -/

/-- Where an inversion stands after a FIELD START (R160). -/
def Inversion.atField : Inversion → Inversion
  | .none => .none
  | .pending => .inProgress
  | .inProgress => .none

/-- Where an inversion stands after a PULSE CHANNEL that names its channel (R160). -/
def Inversion.pulsed : Inversion → Inversion
  | .none => .pending
  | .pending => .pending
  | .inProgress => .inProgress

/-- Inversions end and start at a FIELD START, and the channels change accordingly (R155). -/
def State.turnInversions (s : State) : State :=
  s.settle { s with matrix := { s.matrix with inversion := Vector.ofFn fun c => (s.matrix.inversion[c]).atField } }

/-- The value a user presents for the field. A connected ALIGNED user presents its channel or its edge; an internal
user that is off or ignored presents low; any other user's value stands (R154, R155, R163; logs 17, 28). -/
def State.presentedValue (s : State) (u : Fin 11) : Bool :=
  if s.ignores u then false
  else if s.setup.aligned u then
    match s.setup.userSelection[u] with
    | some c => s.channel c || s.matrix.edgeSeen[u]
    | none => if internalUser u then false else s.matrix.presented[u]
  else s.matrix.presented[u]

/-- A user presents a pulse for the field: connected, ALIGNED, not ignored, its edge seen (R155). -/
def State.presentsPulse (s : State) (u : Fin 11) : Bool :=
  s.counts u && s.setup.userSelection[u].isSome && s.matrix.edgeSeen[u]

/-- The presentation of every user, after the inversions: values formed and edge-seen flags cleared (R155). -/
def State.formPresentation (s : State) : State :=
  { s with
    matrix :=
      { s.matrix with
        presented := Vector.ofFn fun u => s.presentedValue u
        edgeSeen := Vector.ofFn fun _ => false } }

/-- The video-domain pulses of the field take over from those of the field before; one raised for both falls and rises
again (R152, R153). A REQUEST NOTIFY that waited begins. -/
def State.rollPulses (s : State) (now : Pulses) : State :=
  let old := s.matrix.pulses
  let s' := s.settle { s with matrix := { s.matrix with pulses := now, notifyWaiting := false } }
  (((s'.blipIf (old.fieldStart && now.fieldStart) .fieldStart).blipIf
      (old.frameReference && now.frameReference) .frameReference).blipIf
      (old.sceneChange && now.sceneChange) .sceneChange).blipIf
      (old.requestNotify && now.requestNotify) .requestNotify

/-- The internal users' edge-seen flags cleared, as a halt does (R163). -/
def State.clearInternalEdges (s : State) : State :=
  { s with
    matrix := { s.matrix with edgeSeen := Vector.ofFn fun u => if internalUser u then false else s.matrix.edgeSeen[u] } }

/-- An inversion made pending on each channel of a mask (R117, R160). -/
def State.pulseChannels (s : State) (mask : Vector Bool 8) : State :=
  { s with
    matrix :=
      { s.matrix with
        inversion := Vector.ofFn fun c =>
          if mask[c] then (s.matrix.inversion[c]).pulsed else s.matrix.inversion[c] } }

/-! ### A set-up taken into force -/

/-- What the matrix does when a set-up is taken (R153, R154, R157): no edge is counted; an edge-seen flag is cleared
where the user's selection or the line's mode changes; a line that becomes ALIGNED keeps the value it drove, one that
becomes DIRECT loses its presented value; a hold ends where the selection or the line's mode changes or its channel's
level changes. The value a line keeps is the one before polarity. A DIRECT line that was off drove low whatever its
polarity; connected and made ALIGNED with inverted polarity in one taking, it keeps low before polarity, and so drives
high until the next FIELD START, which R154 and R157 leave open (DESIGN CHOICE, log 36). -/
def State.takeSelections (s : State) (st : Setup) : State :=
  let next := { s with setup := st }
  { next with
    matrix :=
      { s.matrix with
        edgeSeen := Vector.ofFn fun u =>
          if s.setup.userSelection[u] = st.userSelection[u] ∧ s.setup.aligned u = st.aligned u then
            s.matrix.edgeSeen[u]
          else false
        presented := Vector.ofFn fun u =>
          if h : u.val < 6 then
            match s.setup.gpoMode[u.val].direct, st.gpoMode[u.val].direct with
            | true, false =>
              match s.setup.userSelection[u] with
              | some c => s.gpoValue ⟨u.val, h⟩ c
              | none => false
            | false, true => false
            | _, _ => s.matrix.presented[u]
          else s.matrix.presented[u]
        hold := Vector.ofFn fun g =>
          if s.setup.userSelection[gpoUser g] ≠ st.userSelection[gpoUser g] ∨ s.setup.gpoMode[g].direct = false ∨
              st.gpoMode[g].direct = false then none
          else
            match st.userSelection[gpoUser g] with
            | some c => if s.channel c = next.channel c then s.matrix.hold[g] else none
            | none => s.matrix.hold[g] } }

end Sys2Proof.Machine
end

