-- ==== Sys2Proof/Machine/Flags.lean ====
section
/-! DEFINITION. The flags the host sees: attention causes, the ATTN line and the register views of R173. -/

namespace Sys2Proof.Machine

/-- The seven attention causes (R173). -/
inductive Cause where
  | request
  | report
  | pass
  | fault
  | discard
  | stale
  | setup
  deriving DecidableEq, Repr

/-- The register bit of a cause (R173). -/
def Cause.mask : Cause → BitVec 7
  | .request => 0x01
  | .report => 0x02
  | .pass => 0x04
  | .fault => 0x08
  | .discard => 0x10
  | .stale => 0x20
  | .setup => 0x40

/-- A cause is set; setting one already set leaves it set (R176). -/
def State.setCause (s : State) (c : Cause) : State :=
  { s with port := { s.port with causes := s.port.causes ||| c.mask } }

/-- A cause is set where a condition calls for it. -/
def State.setCauseIf (s : State) (called : Bool) (c : Cause) : State := if called then s.setCause c else s

/-- A cause stands set. -/
def State.causeSet (s : State) (c : Cause) : Bool := s.port.causes &&& c.mask != 0

/-- The ATTN line: asserted while a cause is both set and enabled (R176). -/
def State.attn (s : State) : Bool := s.port.causes &&& s.port.enables != 0

/-- The part has been initialised since the latest reset (R177, R183). -/
def State.initialised (s : State) : Bool := s.port.run != .uninitialised

/-- CONTROL as the host reads it (R173, R177). -/
def State.controlRegister (s : State) : Word :=
  boolWord (s.port.run == .running) ||| (boolWord s.initialised <<< 1) |||
    match s.requests.setupFault with
    | some offset => 0x4 ||| (natWord offset <<< 8)
    | none => 0

/-- A register as REGISTER_READ returns it (R173). -/
def State.registerValue (s : State) : ReadRegister → Word
  | .control => s.controlRegister
  | .attention => s.port.causes.zeroExtend 16
  | .attentionEnable => s.port.enables.zeroExtend 16
  | .pointerLow => s.port.pointer.extractLsb' 0 16
  | .pointerHigh => (s.port.pointer.extractLsb' 16 1).zeroExtend 16
  | .reportRelease => s.writer.releaseCount

/-- The pair latch emptied, as every access but a DATA read leaves it (R175). -/
def State.emptyLatch (s : State) : State := { s with port := { s.port with latch := none } }

end Sys2Proof.Machine
end

