-- ==== Sys2Proof/Machine/Reports.lean ====
section
/-! DEFINITION. The report writer: records, the ring, the gap, releases and the REPORT cause (R164 to R171, R186). -/

namespace Sys2Proof.Machine

/-- The code of a report kind (R186). -/
def ReportKind.code : ReportKind → Nat
  | .scene => 1
  | .hold => 2
  | .slip => 3
  | .badRead => 4
  | .lock => 5
  | .reference => 6
  | .limit => 7
  | .pass => 8
  | .split => 9
  | .mark => 10
  | .live => 11
  | .gap => 12

/-- A record as a block hands it: the heading fields the block gives, and its detail from word 8 on. Detail words not
given are written 0 (R181, R186; log 9). -/
structure Record where
  kind : ReportKind
  frame : Int
  slot : Option Slot
  serial : Word
  detail : List Word
  deriving DecidableEq, Repr

/-- The first word of the report ring, and its number of places (R166). -/
def ringBase : Nat := 0x9000
/-- The number of places of the report ring (R166). -/
def ringPlaces : Nat := 512

/-- The first word of a place of the ring (R166). -/
def ringPlace (i : Nat) : Nat := ringBase + 16 * (i % ringPlaces)

/-- The eight detail words of a record, those not given being 0 (R186). -/
def padDetail (d : List Word) : List Word := (d ++ [0, 0, 0, 0, 0, 0, 0, 0]).take 8

/-- Words 1 to 15 of a record (R186). -/
def recordWords (r : Record) (fieldCount : DWord) : List Word :=
  [natWord r.kind.code] ++ bothWords fieldCount ++ bothWords (signedDWord r.frame) ++ [slotWord r.slot, r.serial] ++
    padDetail r.detail

/-- The number of unreleased records, modulo 65,536 (R164). -/
def Writer.unreleased (w : Writer) : Nat := (w.writeCount - w.releaseCount).toNat

/-- One record written into the ring, SEQUENCE last, and the REPORT cause where it is called for (R166, R170). -/
def State.appendRecord (s : State) (r : Record) (fieldCount : DWord) : State :=
  let place := ringPlace s.writer.writeCount.toNat
  let cue := Memory.write (Memory.writeAll s.cue (cellsFrom (place + 1) (recordWords r fieldCount))) place s.writer.sequence
  let writer :=
    { s.writer with writeCount := s.writer.writeCount + 1, sequence := s.writer.sequence + 1 }
  { s with cue := cue, writer := writer }.setCauseIf (decide (writer.unreleased = s.setup.reportThreshold)) .report

/-- The highest dropped count (R167). -/
def droppedMax : Nat := 4294967295

/-- The bit of a kind in the kinds dropped (R186). -/
def ReportKind.bit (k : ReportKind) : Word := (1 : Word) <<< (k.code - 1)

/-- A record dropped into the gap (R167). -/
def State.dropRecord (s : State) (r : Record) : State :=
  let fc := s.sequencer.fieldCount
  let gap :=
    match s.writer.gap with
    | none =>
      { dropped := 1, firstFieldCount := fc, firstFrame := r.frame, lastFieldCount := fc, lastFrame := r.frame,
        kinds := r.kind.bit : Gap }
    | some g =>
      { g with dropped := min droppedMax (g.dropped + 1), lastFieldCount := fc, lastFrame := r.frame,
               kinds := g.kinds ||| r.kind.bit }
  { s with writer := { s.writer with gap := some gap } }

/-- The GAP record of a gap (R168, R186). -/
def Gap.record (g : Gap) : Record where
  kind := .gap
  frame := g.firstFrame
  slot := none
  serial := 0
  detail := bothWords (natDWord g.dropped) ++ bothWords g.lastFieldCount ++ bothWords (signedDWord g.lastFrame) ++ [g.kinds]

/-- A record written if the ring has room, dropped otherwise (R165). -/
def State.writeOrDrop (s : State) (r : Record) : State :=
  if s.writer.unreleased < ringPlaces then s.appendRecord r s.sequencer.fieldCount else s.dropRecord r

/-- An outstanding gap reported with one GAP record and closed (R168). -/
def State.closeGap (s : State) (g : Gap) : State :=
  let s' := s.appendRecord g.record g.firstFieldCount
  { s' with writer := { s'.writer with gap := none } }

/-- The writer writes or drops a record of a kind, rather than discarding it (R165). -/
def State.takes (s : State) (k : ReportKind) : Bool :=
  s.port.run == .running && !(k == .scene && !s.setup.sceneEnable) && !(k == .hold && !s.setup.holdEnable)

/-- A record handed to the writer (R165, R168). -/
def State.hand (s : State) (r : Record) : State :=
  if s.takes r.kind then
    match s.writer.gap with
    | none => s.writeOrDrop r
    | some g => if s.writer.unreleased < ringPlaces then (s.closeGap g).writeOrDrop r else s.dropRecord r
  else s

/-- Records handed one after another. -/
def State.handEach : State → List Record → State
  | s, [] => s
  | s, r :: rest => (s.hand r).handEach rest

/-- One record taken from the head of a chosen queue: the queues after it, and the record. -/
def takeHead : List (List Record) → Nat → Option (Record × List (List Record))
  | [], _ => none
  | [] :: _, 0 => none
  | (r :: rest) :: qs, 0 => some (r, rest :: qs)
  | q :: qs, i + 1 => (takeHead qs i).map fun p => (p.1, q :: p.2)

/-- The queues that still hold a record. -/
def waiting (qs : List (List Record)) : List (List Record) := qs.filter fun q => !q.isEmpty

/-- Records handed together by different blocks: those of one block keep their order, and which block's record is taken
next is a free choice wherever more than one block has one (R165; DESIGN CHOICE, safe, log 5). -/
def State.handMixed : Nat → State → List (List Record) → State
  | 0, s, _ => s
  | fuel + 1, s, qs =>
    match waiting qs with
    | [] => s
    | [q] => s.handEach q
    | many =>
      let (w, s') := s.drawWord
      match takeHead many (w.toNat % many.length) with
      | some (r, rest) => State.handMixed fuel (s'.hand r) rest
      | none => s'

/-- The records of one event, a queue for each block that handed any. Those the writer discards play no part. -/
def State.handTogether (s : State) (qs : List (List Record)) : State :=
  let taken := qs.map fun q => q.filter fun r => s.takes r.kind
  s.handMixed (taken.flatten.length + 1) taken

/-- A release value given to the writer (R169). -/
def State.release (s : State) (value : Word) : State :=
  let w := s.writer
  if (value - w.releaseCount).toNat ≤ w.unreleased then
    { s with writer := { w with releaseCount := value } }
  else { s with writer := { w with releaseCount := w.writeCount } }.setCause .discard

/-- The SEQUENCE words as run-start initialisation writes them: 65,024 + i at place i (R171). -/
def ringSequenceCells : List (Nat × Word) :=
  (List.range ringPlaces).map fun i => (ringPlace i, natWord (65024 + i))

/-- The writer at run-start initialisation (R164, R171). -/
def State.startWriter (s : State) : State :=
  { s with writer := Writer.initial, cue := Memory.writeAll s.cue ringSequenceCells }

end Sys2Proof.Machine
end

