-- ==== Sys2Proof/Machine/Pass.lean ====
section
/-! DEFINITION. The pass controller: the pass block, changes of the pass, faults and the requests (R136 to R150). -/

namespace Sys2Proof.Machine

/-- The code of a pass state (R183). -/
def PassState.code : PassState → Nat
  | .idle => 0
  | .cued => 1
  | .recording => 2
  | .paused => 3
  | .complete => 4
  | .faulted => 5

/-- The code of a condition (R183). -/
def Condition.code : Condition → Nat
  | .none => 0
  | .completed => 1
  | .stopped => 2
  | .abandoned => 3
  | .missedCue => 4
  | .frameSkip => 5
  | .reversed => 6
  | .lockLost => 7
  | .referenceLost => 8
  | .positionFault => 9
  | .halted => 10

/-- The first word of the pass block (R183). -/
def passBase : Nat := 0x300

/-- The words of the pass block, all but STATE first, then STATE (R137, R183). -/
def passCells (p : Pass) : List (Nat × Word) :=
  [(passBase + 1, natWord p.condition.code)] ++ pairCells (passBase + 2) (signedDWord p.inFrame) ++
    pairCells (passBase + 4) (natDWord p.requested) ++ pairCells (passBase + 6) (natDWord p.recorded) ++
    pairCells (passBase + 8) (natDWord p.remaining) ++ [(passBase + 10, boolWord p.openEnded)] ++
    pairCells (passBase + 11) p.startFieldCount ++ [(passBase + 13, boolWord p.stopPending)] ++
    pairCells (passBase + 14) (signedDWord p.expected) ++ [(passBase, natWord p.state.code)]

/-- The pass controller takes new values: PASS GATE follows, and the pass block is written once the part has been
initialised (R137, R149). -/
def State.setPass (s : State) (p : Pass) : State :=
  let changed := s.settle { s with pass := p }
  if s.initialised then { changed with cue := Memory.writeAll changed.cue (passCells p) } else changed

/-- A count carried in the 24 bits of a PASS record: one above 16,777,215 is carried as 16,777,215 (R186). -/
def count24 (n : Nat) : BitVec 24 := BitVec.ofNat 24 (min n 16777215)

/-- The eight detail words of a PASS record (R150, R186). -/
def passDetail (before : PassState) (p : Pass) : List Word :=
  let inf : BitVec 24 := BitVec.ofInt 24 p.inFrame
  let exp : BitVec 24 := BitVec.ofInt 24 p.expected
  let rec_ := count24 p.recorded
  let rem := count24 p.remaining
  [ BitVec.ofNat 4 before.code ++ BitVec.ofNat 4 p.state.code ++ (BitVec.ofBool p.openEnded ++ (0 : BitVec 3)) ++
      BitVec.ofNat 4 p.condition.code,
    inf.extractLsb' 8 16,
    inf.extractLsb' 0 8 ++ exp.extractLsb' 16 8,
    exp.extractLsb' 0 16,
    rec_.extractLsb' 8 16,
    rec_.extractLsb' 0 8 ++ rem.extractLsb' 16 8,
    rem.extractLsb' 0 16,
    p.startFieldCount.extractLsb' 0 16 ]

/-- The PASS record of a change of pass state (R150). -/
def passRecord (s : State) (before : PassState) (p : Pass) : Record where
  kind := .pass
  frame := s.sequencer.fieldFrame
  slot := none
  serial := 0
  detail := passDetail before p

/-- The PASS cause is set at each entry into PAUSED, COMPLETE or FAULTED (R150). -/
def PassState.setsCause : PassState → Bool
  | .paused => true
  | .complete => true
  | .faulted => true
  | _ => false

/-- A change of pass state: the gate, the pass block, the PASS cause, and the PASS report to hand (R137, R149, R150). -/
def State.changePass (s : State) (p : Pass) : State × List Record :=
  ((s.setPass p).setCauseIf p.state.setsCause .pass, [passRecord s s.pass.state p])

/-- The values a fault leaves (R145). -/
def Pass.faultedWith (p : Pass) (c : Condition) : Pass :=
  { p with
    state := .faulted
    condition := c
    stopPending := false
    expected := if p.state = .recording then p.expected - 1 else p.expected }

/-- A pass is faulted with a condition (R145). -/
def State.faultPass (s : State) (c : Condition) : State × List Record := s.changePass (s.pass.faultedWith c)

/-- A fault that reaches a pass only where a test of its state holds (R146, R148). -/
def State.faultPassIf (s : State) (reached : Bool) (c : Condition) : State × List Record :=
  if reached then s.faultPass c else (s, [])

/-- CUED or RECORDING: the states a fault may find (R145). -/
def PassState.live : PassState → Bool
  | .cued => true
  | .recording => true
  | _ => false

/-- CUED, RECORDING or PAUSED: the states that refuse CLEAR LIST and APPLY SET-UP and admit ABANDON PASS (R105, R119).
-/
def PassState.underWay : PassState → Bool
  | .cued => true
  | .recording => true
  | .paused => true
  | _ => false

/-! ### The cadence, as far as a field's judgement needs it (R23) -/

/-- The cycle length of a video mode (R23). -/
def VideoMode.cycleLength : VideoMode → Nat
  | .m60_32 => 10
  | .m50_22 => 2
  | .m60_22 => 2

/-- A phase is a frame-start phase (R23). -/
def VideoMode.frameStart : VideoMode → Nat → Bool
  | .m60_32, p => p == 0 || p == 2 || p == 5 || p == 7
  | .m50_22, p => p == 0
  | .m60_22, p => p == 0

/-- A phase belongs to a cadence frame lettered A (R23). -/
def VideoMode.letterA : VideoMode → Nat → Bool
  | .m60_32, p => p == 0 || p == 1
  | .m50_22, p => p == 0 || p == 1
  | .m60_22, p => p == 0 || p == 1

/-- The field is a cadence-frame start (R23); an unphased field is none. -/
def State.atFrameStart (s : State) : Bool :=
  match s.sequencer.phase with
  | some p => s.setup.videoMode.frameStart p
  | none => false

/-! ### The judgement of a field (R139 to R142) -/

/-- RECORDED after one more frame: past 32 bits the manual states no value (DESIGN CHOICE, safe, log 10). -/
def State.countFrame (s : State) : Nat × State :=
  if s.pass.recorded + 1 ≤ 4294967295 then (s.pass.recorded + 1, s)
  else (s.drawDWord.1.toNat, s.drawDWord.2)

/-- The pass after the frame of the cadence frame just ended has been counted (R140). -/
def Pass.counted (p : Pass) (recorded : Nat) : Pass :=
  let remaining := if p.openEnded then p.remaining else p.remaining - 1
  let q := { p with recorded := recorded, remaining := remaining }
  if p.openEnded = false ∧ remaining = 0 then
    { q with state := .complete, condition := .completed, stopPending := false }
  else if p.stopPending then { q with state := .paused, condition := .stopped, stopPending := false }
  else { q with expected := p.expected + 1 }

/-- A cadence-frame start whose frame is the expected one (R140). -/
def State.countPass (s : State) : State × List Record :=
  let (recorded, s') := s.countFrame
  let p := s'.pass.counted recorded
  if p.state = .recording then (s'.setPass p, []) else s'.changePass p

/-- The judgement of a field while CUED (R139). -/
def State.judgeCued (s : State) : State × List Record :=
  let f := s.sequencer.fieldFrame
  let p := s.pass
  if f = p.inFrame ∧ s.sequencer.phase = some 0 ∧ s.sequencer.locked = true then
    s.changePass { p with state := .recording, expected := p.inFrame + 1, startFieldCount := s.sequencer.fieldCount }
  else if p.inFrame < f ∧ s.position.direction = .forward then s.faultPass .missedCue
  else (s, [])

/-- The judgement of a field while RECORDING (R140, R141). -/
def State.judgeRecording (s : State) : State × List Record :=
  let f := s.sequencer.fieldFrame
  let e := s.pass.expected
  if s.atFrameStart then
    if f = e then s.countPass else if f < e then s.faultPass .reversed else s.faultPass .frameSkip
  else if s.sequencer.phase = none ∨ f ≠ e - 1 then s.faultPass .lockLost
  else (s, [])

/-- The pass controller's judgement of a field (R139 to R141). -/
def State.judgePass (s : State) : State × List Record :=
  match s.pass.state with
  | .cued => s.judgeCued
  | .recording => s.judgeRecording
  | _ => (s, [])

/-- Stop pending set (R142). -/
def State.setStopPending (s : State) : State := s.setPass { s.pass with stopPending := true }

/-- A PASS STOP pulse, taken after the field's judgement (R142). -/
def State.passStopPulse (s : State) (pulse : Bool) : State :=
  if pulse ∧ s.pass.state = .recording then s.setStopPending else s

end Sys2Proof.Machine
end

