-- ==== Sys2Proof/Machine/Position.lean ====
section
/-! DEFINITION. The position counter: steps, limits, direction and edge readings (R1 to R17). -/

namespace Sys2Proof.Machine

/-- Perforations per frame (R1). -/
def Gauge.perfs : Gauge → Int
  | .one => 1
  | .three => 3
  | .four => 4

/-- The current frame: P ÷ k rounded toward minus infinity (R3). -/
def Position.frame (p : Position) : Int := p.count / p.gauge.perfs

/-- The perf phase (R3). -/
def Position.phase (p : Position) : Int := p.count % p.gauge.perfs

/-- The lowest P of a gauge (R3). -/
def Gauge.lowest (k : Gauge) : Int := k.perfs * frameLow

/-- The highest P of a gauge (R3). -/
def Gauge.highest (k : Gauge) : Int := k.perfs * frameHigh + (k.perfs - 1)

/-- Which way a perforation step goes (R2). -/
inductive StepDirection where
  | forward
  | reverse
  deriving DecidableEq, Repr

/-- The direction a step sets (R5). -/
def StepDirection.direction : StepDirection → Direction
  | .forward => .forward
  | .reverse => .reverse

/-- The step recognised between two pairs of levels: B falling or rising while A stays low (R2). -/
def recogniseStep (oldA oldB newA newB : Bool) : Option StepDirection :=
  if oldA = false ∧ newA = false then
    match oldB, newB with
    | true, false => some .forward
    | false, true => some .reverse
    | _, _ => none
  else none

/-- A step would take the frame outside the position range (R3). -/
def Position.refuses (p : Position) : StepDirection → Bool
  | .forward => decide (p.gauge.highest ≤ p.count)
  | .reverse => decide (p.count ≤ p.gauge.lowest)

/-- The end of the range at which a step is refused (R6). -/
def StepDirection.rangeEnd : StepDirection → RangeEnd
  | .forward => .high
  | .reverse => .low

/-- The frame at an end of the range (R6). -/
def RangeEnd.frame : RangeEnd → Int
  | .low => frameLow
  | .high => frameHigh

/-- The code of an end in a LIMIT record (R186). -/
def RangeEnd.code : RangeEnd → Word
  | .low => 1
  | .high => 2

/-- The code of a direction (R183). -/
def Direction.code : Direction → Word
  | .stopped => 0
  | .forward => 1
  | .reverse => 2

/-- The code of a position state (R183). -/
def PositionState.code : PositionState → Word
  | .good => 0
  | .suspect _ => 1
  | .fault => 2
  | .limit _ => 3

/-- The position state is LIMIT. -/
def PositionState.isLimit : PositionState → Bool
  | .limit _ => true
  | _ => false

/-- The position state after a counted step: LIMIT is left by a step away from the end (R7). -/
def PositionState.afterStep (st : PositionState) (d : StepDirection) : PositionState :=
  match st, d with
  | .limit .high, .reverse => .good
  | .limit .low, .forward => .good
  | other, _ => other

/-- P after a counted step (R3). -/
def StepDirection.applied (d : StepDirection) (p : Int) : Int :=
  match d with
  | .forward => p + 1
  | .reverse => p - 1

/-- A record of the position counter (R15). -/
def positionRecord (kind : ReportKind) (frame : Int) (detail : List Word) : Record where
  kind := kind
  frame := frame
  slot := none
  serial := 0
  detail := detail

/-- The LIMIT record (R15, R186). -/
def limitRecord (frame : Int) (d : StepDirection) : Record :=
  positionRecord .limit frame
    ([d.rangeEnd.code] ++ bothWords (signedDWord d.rangeEnd.frame) ++ [d.direction.code])

/-- What every recognised step does: the direction, and the stillness timer restarted (R5). -/
def State.noteStep (s : State) (d : StepDirection) : State :=
  { s with position := { s.position with direction := d.direction, stillness := .running s.setup.videoMode } }

/-- A step refused at the limit (R6). -/
def State.refuseStep (s : State) (d : StepDirection) : State × List Record :=
  if s.position.state.isLimit then (s, [])
  else
    ({ s with position := { s.position with state := .limit d.rangeEnd } }.setCause .fault,
      [limitRecord s.position.frame d])

/-- A step counted (R3, R4, R7). -/
def State.countStep (s : State) (d : StepDirection) : State :=
  let p := { s.position with count := d.applied s.position.count, state := s.position.state.afterStep d }
  { s with position := p }.blipIf (decide (p.frame ≠ s.position.frame)) .filmFrame

/-- A recognised perforation step (R3 to R7). -/
def State.perfStep (s : State) (d : StepDirection) : State × List Record :=
  let noted := s.noteStep d
  if s.position.refuses d then noted.refuseStep d else (noted.countStep d, [])

/-! ### Edge readings (R9 to R14) -/

/-- The implied gate frame G of a reading (R10). -/
def Setup.gateFrame (st : Setup) (value : BitVec 24) : Int := value.toNat - st.edgeBase - st.readerOffset

/-- A difference agrees with the count (R10). -/
def Setup.agrees (st : Setup) (d : Int) : Bool := decide (d.natAbs ≤ st.edgeTolerance)

/-- A frame clamped to the position range. -/
def clampFrame (g : Int) : Int := clampInt frameLow frameHigh g

/-- The mode word of a SLIP record (R186). -/
def slipMode : EdgeMode → Word
  | .off => 0
  | .follow => 1
  | .watch => 2

/-- The SLIP record: the frame after is the heading's FRAME (R15, R186). -/
def slipRecord (before after g d : Int) (mode : EdgeMode) : Record :=
  positionRecord .slip after
    (bothWords (signedDWord before) ++ bothWords (signedDWord (clampFrame g)) ++
      bothWords (signedDWord (clampSigned32 d)) ++ [slipMode mode])

/-- The BAD READ record (R12, R186). -/
def badReadRecord (frame suspect d g : Int) : Record :=
  positionRecord .badRead frame
    (bothWords (signedDWord (clampSigned32 suspect)) ++ [signedWord d] ++ bothWords (signedDWord (clampFrame g)))

/-- The position state replaced. -/
def State.setPositionState (s : State) (st : PositionState) : State :=
  { s with position := { s.position with state := st } }

/-- A confirmed slip re-synchronises the count (R13). -/
def State.resynchronise (s : State) (g d : Int) : State × List Record :=
  let before := s.position.frame
  let after := clampFrame g
  let p := { s.position with count := s.position.gauge.perfs * after + s.position.phase, state := .good }
  (((({ s with position := p }.blipIf (decide (after ≠ before)) .filmFrame).blip .slip).setCause .fault),
    [slipRecord before after g d .follow])

/-- A compared reading in FOLLOW mode (R11, R12). A FAULT state, which FOLLOW never makes, is left alone (log 19). -/
def State.followReading (s : State) (g d : Int) : State × List Record :=
  match s.position.state with
  | .good => if s.setup.agrees d then (s, []) else (s.setPositionState (.suspect d), [])
  | .suspect held =>
    if s.setup.agrees d then (s.setPositionState .good, [badReadRecord s.position.frame held d g])
    else if d = held then s.resynchronise g d
    else (s.setPositionState (.suspect d), [])
  | .fault => (s, [])
  | .limit _ => (s, [])

/-- A compared reading in WATCH mode (R14): the state, and the counter's records. A SUSPECT state, which WATCH never
makes, is left alone (log 19). -/
def State.watchReading (s : State) (g d : Int) : State × List Record :=
  match s.position.state with
  | .good =>
    if s.setup.agrees d then (s, [])
    else
      (((s.setPositionState .fault).blip .slip).setCause .fault,
        [slipRecord s.position.frame s.position.frame g d .watch])
  | .fault => if s.setup.agrees d then (s.setPositionState .good, []) else (s, [])
  | .suspect _ => (s, [])
  | .limit _ => (s, [])

/-- A reading is ignored (R9). -/
def State.ignoresReading (s : State) (valid : Bool) : Bool :=
  !valid || s.setup.edgeMode == .off || s.position.state.isLimit

/-- The position counter's work at an edge reading (R9 to R14). -/
def State.edgeReading (s : State) (value : BitVec 24) (valid : Bool) : State × List Record :=
  if s.ignoresReading valid then (s, [])
  else
    let g := s.setup.gateFrame value
    let d := g - s.position.frame
    match s.setup.edgeMode with
    | .off => (s, [])
    | .follow => s.followReading g d
    | .watch => s.watchReading g d

/-- The position state has just become FAULT, which faults a RECORDING pass (R146). -/
def State.positionFaultReaches (before after : State) : Bool :=
  decide (before.position.state ≠ .fault ∧ after.position.state = .fault) && after.pass.state == .recording

/-- The position counter takes a set-up: a changed gauge keeps the frame at phase 0, and the state becomes GOOD (R8). -/
def Position.takeSetup (p : Position) (k : Gauge) : Position :=
  { p with
    gauge := k
    count := if k = p.gauge then p.count else k.perfs * p.frame
    state := .good }

end Sys2Proof.Machine
end

