-- ==== Sys2Proof/Machine/Film.lean ====
section
/-! DEFINITION. The commands of the film transport: PERF A and PERF B, the stillness timer, EDGE (R2, R5, R9). -/

namespace Sys2Proof.Machine

/-- The decoder takes the levels of the lines (R2). -/
def State.takeLevels (s : State) (perfA perfB : Bool) : State :=
  { s with position := { s.position with perfA := perfA, perfB := perfB } }

/-- PERF_LINE_CHANGE (R2 to R7). -/
def execPerfLineChange (perfA perfB : Bool) (s : State) : Host.Outcome State Fault Refusal :=
  let seen := s.takeLevels perfA perfB
  match recogniseStep s.position.perfA s.position.perfB perfA perfB with
  | none => .next seen
  | some d =>
    let (stepped, records) := seen.perfStep d
    .next (stepped.handTogether [records])

/-- STILLNESS_TIMER_EXPIRY: the direction becomes STOPPED and the timer stops (R5). A timer that is stopped does not
expire (log 13). -/
def execStillnessTimerExpiry (s : State) : Host.Outcome State Fault Refusal :=
  match s.position.stillness with
  | .stopped => .next s
  | .running _ => .next { s with position := { s.position with direction := .stopped, stillness := .stopped } }

/-- EDGE_READING: the counter's comparison, and the fault of a RECORDING pass where the position state becomes FAULT (R9
to R14, R146). -/
def execEdgeReading (value : BitVec 24) (valid : Bool) (s : State) : Host.Outcome State Fault Refusal :=
  let (compared, counter) := s.edgeReading value valid
  let (faulted, controller) := compared.faultPassIf (s.positionFaultReaches compared) .positionFault
  .next (faulted.handTogether [counter, controller])

end Sys2Proof.Machine
end

