-- ==== Sys2Proof/Machine/Sequencer.lean ====
section
/-! DEFINITION. The field sequencer: placing a field in the cadence, judging lock, losing the reference (R20 to R35). -/

namespace Sys2Proof.Machine

/-- The judgement of a field (R27). -/
inductive Judgement where
  | goodStart
  | good
  | unjudged
  | bad
  deriving DecidableEq, Repr

/-- A re-phase falls due at this FIELD START (R25). -/
def Sequencer.rephaseDue (q : Sequencer) (id : FieldIdentity) (alignPulse : Bool) : Bool :=
  q.alignPending || q.reference == .lost || q.lastIdentity == some id || alignPulse

/-- The phase of the field: re-phased, advanced, or found from an unphased field (R24, R26). -/
def placeField (mode : VideoMode) (rephase : Bool) (before : Option Nat) (id : FieldIdentity) : Option Nat :=
  let fresh := if id = .field1 then some 0 else none
  if rephase then fresh
  else
    match before with
    | some p => some ((p + 1) % mode.cycleLength)
    | none => fresh

/-- The judgement of a field against the first-field frame (R27). A phased field inside a cadence frame that finds no
first-field frame, which R27 excludes, is judged bad (log 19). -/
def judgeField (mode : VideoMode) (phase : Option Nat) (frame : Int) (first : Option Int) : Judgement :=
  match phase with
  | none => .bad
  | some p =>
    match mode.frameStart p, first with
    | true, none => .unjudged
    | true, some f => if frame = f + 1 then .goodStart else .bad
    | false, some f => if frame = f then .good else .bad
    | false, none => .bad

/-- The first-field frame after the field (R27). -/
def firstAfter (mode : VideoMode) (phase : Option Nat) (frame : Int) (first : Option Int) : Option Int :=
  match phase with
  | none => none
  | some p => if mode.frameStart p then some frame else first

/-- The good count after a judgement (R28). -/
def goodAfter (count : Nat) : Judgement → Nat
  | .goodStart => min 4 (count + 1)
  | .good => count
  | .unjudged => count
  | .bad => 0

/-- The lock state after a judgement (R28). -/
def lockedAfter (count : Nat) (locked : Bool) (j : Judgement) : Bool :=
  match j with
  | .bad => false
  | other => locked || decide (goodAfter count other = 4)

/-- The cause word of a LOCK record (R186). -/
inductive LockCause where
  | badField
  | unphased
  | reference
  deriving DecidableEq, Repr

/-- The code of a lock cause (R186). -/
def LockCause.code : LockCause → Word
  | .badField => 1
  | .unphased => 2
  | .reference => 3

/-- A phase as status word 4 carries it: 0x00FF for unphased (R183). -/
def phaseWord : Option Nat → Word
  | some p => natWord p
  | none => 0x00FF

/-- A record of the sequencer (R33). -/
def sequencerRecord (s : State) (kind : ReportKind) (detail : List Word) : Record where
  kind := kind
  frame := s.sequencer.fieldFrame
  slot := none
  serial := 0
  detail := detail

/-- The LOCK record (R33, R186). Where no first-field frame is there, its words are a free value (log 8). -/
def State.lockRecord (s : State) (cause : LockCause) (phase : Option Nat) (first : Option Int) : Record × State :=
  let (v, s') := s.orFree (first.map signedDWord)
  (sequencerRecord s .lock
    ([boolWord s.sequencer.locked, cause.code, phaseWord phase] ++ bothWords v ++ [boolWord first.isSome]), s')

/-- The identity of a restoring field in a REFERENCE record (R186). -/
def identityCode : FieldIdentity → Word
  | .field1 => 1
  | .field2 => 2

/-- The sequencer's values for the field, before its records (R21 steps 1 to 7). -/
def State.fieldSequencer (s : State) (id : FieldIdentity) (alignPulse : Bool) : Sequencer :=
  let q := s.sequencer
  let mode := s.setup.videoMode
  let rephase := q.rephaseDue id alignPulse
  let phase := placeField mode rephase q.phase id
  let frame := s.position.frame
  let first := if rephase then none else q.firstFieldFrame
  let j := judgeField mode phase frame first
  { fieldCount := q.fieldCount + 1
    fieldFrame := frame
    phase := phase
    alignPending := if rephase then false else q.alignPending
    locked := lockedAfter q.goodCount q.locked j
    goodCount := goodAfter q.goodCount j
    firstFieldFrame := firstAfter mode phase frame first
    lastIdentity := some id
    activeStartTaken := false
    timer := .running mode
    reference := .present
    cadenceA :=
      match phase with
      | some p => mode.letterA p
      | none => false }

/-- The cause of a lost lock at a field (R28). -/
def lockCauseOf (phase : Option Nat) (locked : Bool) : LockCause :=
  if locked then .badField else if phase = none then .unphased else .badField

/-- The sequencer takes a FIELD START: its values, its level generators, its records and the FAULT cause (R21, R28, R30,
R32, R33). -/
def State.takeField (s : State) (id : FieldIdentity) (alignPulse : Bool) : State × List Record :=
  let q := s.sequencer
  let first := if q.rephaseDue id alignPulse then none else q.firstFieldFrame
  let taken := s.settle { s with sequencer := s.fieldSequencer id alignPulse }
  let restored :=
    if q.reference = .lost then [sequencerRecord taken .reference [2, identityCode id]] else []
  if taken.sequencer.locked = q.locked then (taken, restored)
  else
    let (r, drawn) :=
      taken.lockRecord (lockCauseOf taken.sequencer.phase taken.sequencer.locked) taken.sequencer.phase first
    (drawn.setCauseIf q.locked .fault, restored ++ [r])

/-- The sequencer's values after the reference is lost (R29 steps 1 to 4, R32). -/
def Sequencer.lost (q : Sequencer) : Sequencer :=
  { q with
    reference := .lost
    timer := .stopped
    activeStartTaken := true
    phase := none
    firstFieldFrame := none
    goodCount := 0
    locked := false
    cadenceA := false }

/-- The first word of the status block (R183). -/
def statusBase : Nat := 0x100

/-- The code of a reference state (R183). -/
def Reference.code : Reference → Word
  | .present => 0
  | .lost => 1

/-- The status words rewritten at a reference-timer expiry: 4, 5 and 33 (R29, R183). -/
def lossCells (q : Sequencer) : List (Nat × Word) :=
  [(statusBase + 5, boolWord q.locked), (statusBase + 4, phaseWord q.phase), (statusBase + 33, q.reference.code)]

/-- The sequencer's work at a reference-timer expiry (R29 steps 1 to 8). -/
def State.loseReference (s : State) : State × List Record :=
  let lost := s.settle { s with sequencer := s.sequencer.lost }
  let written := if s.initialised then { lost with cue := Memory.writeAll lost.cue (lossCells lost.sequencer) } else lost
  let r := sequencerRecord written .reference [1]
  let faulted := written.setCause .fault
  if s.sequencer.locked then
    let (l, drawn) := faulted.lockRecord .reference none none
    (drawn, [r, l])
  else (faulted, [r])

end Sys2Proof.Machine
end

