-- ==== Sys2Proof/Machine/Setup.lean ====
section
/-! DEFINITION. The set-up block: validation, reading it into the set-up in force, taking it (R8, R113 to R115, R182). -/

namespace Sys2Proof.Machine

/-- A word of the set-up block. -/
def setupWord (m : Memory) (offset : Nat) : Word := Memory.read m offset

/-- The word at an offset lies in its valid values (R114, R182). -/
def setupWordValid (m : Memory) (offset : Nat) : Bool :=
  let w := setupWord m offset
  let v := w.toNat
  if offset = 0 then v == 1 || v == 3 || v == 4
  else if offset = 1 then decide (v ≤ 2)
  else if offset = 2 then decide (v ≤ 1)
  else if offset = 3 then decide (v ≤ 2)
  else if offset = 4 ∨ offset = 5 then true
  else if offset = 6 then decide (-64 ≤ w.toInt ∧ w.toInt ≤ 64)
  else if offset = 7 then decide (v ≤ 7)
  else if offset = 8 then decide (1 ≤ v ∧ v ≤ 64)
  else if offset = 9 then decide (1 ≤ v ∧ v ≤ 32)
  else if offset = 10 then decide (v ≤ 1023)
  else if offset = 11 then decide (v ≤ 1023 ∧ (setupWord m 10).toNat < v)
  else if offset = 12 ∨ offset = 13 then decide (v ≤ 1)
  else if offset = 14 then decide (1 ≤ v ∧ v ≤ 512)
  else if offset = 15 then decide (v ≤ 3)
  else if offset = 16 then decide (1 ≤ v ∧ v ≤ 255)
  else if offset ≤ 24 then decide (v ≤ 15)
  else if offset ≤ 35 then decide (v ≤ 8)
  else decide (v ≤ 3)

/-- The offset of the first word that fails validation, in increasing order over 0…41 (R114). -/
def setupFirstInvalid (m : Memory) : Option Nat := (List.range 42).find? fun offset => !setupWordValid m offset

/-- The gauge a word names; validation admits 1, 3 and 4. -/
def gaugeOfWord (w : Word) : Gauge := if w = 1 then .one else if w = 3 then .three else .four

/-- The video mode a word names; validation admits 0, 1 and 2. -/
def videoModeOfWord (w : Word) : VideoMode := if w = 0 then .m60_32 else if w = 1 then .m50_22 else .m60_22

/-- The edge mode a word names; validation admits 0, 1 and 2. -/
def edgeModeOfWord (w : Word) : EdgeMode := if w = 0 then .off else if w = 1 then .follow else .watch

/-- The channel a user selection names: n for channel n − 1, 0 for off. -/
def selectionOfWord (w : Word) : Option (Fin 8) := if w = 0 then none else some (Fin.ofNat 8 (w.toNat - 1))

/-- The set-up a block holds, word by word (R182). -/
def readSetup (m : Memory) : Setup where
  gauge := gaugeOfWord (setupWord m 0)
  videoMode := videoModeOfWord (setupWord m 1)
  negative := setupWord m 2 != 0
  edgeMode := edgeModeOfWord (setupWord m 3)
  edgeBase := (Memory.readPair m 4).toInt
  readerOffset := (setupWord m 6).toInt
  edgeTolerance := (setupWord m 7).toNat
  walkLimit := (setupWord m 8).toNat
  rippleStep := (setupWord m 9).toNat
  clipLow := (setupWord m 10).toNat
  clipHigh := (setupWord m 11).toNat
  splitBakesTrim := setupWord m 12 != 0
  freezeTrimInRecord := setupWord m 13 != 0
  reportThreshold := (setupWord m 14).toNat
  sceneEnable := (setupWord m 15).getLsbD 0
  holdEnable := (setupWord m 15).getLsbD 1
  liveStaleLimit := (setupWord m 16).toNat
  channelSelection := Vector.ofFn fun c => Generator.ofNumber (setupWord m (17 + c.val)).toNat
  userSelection := Vector.ofFn fun u => selectionOfWord (setupWord m (25 + u.val))
  gpoMode := Vector.ofFn fun g =>
    { direct := (setupWord m (36 + g.val)).getLsbD 0, inverted := (setupWord m (36 + g.val)).getLsbD 1 }

/-- A set-up taken into force: the position counter (R8), the align-pending flag (R25) and the matrix (R153, R154, R157)
act on it; every other block reads it from then on (R115). -/
def State.takeSetup (s : State) (st : Setup) : State :=
  { s.takeSelections st with
    position := s.position.takeSetup st.gauge
    sequencer :=
      { s.sequencer with alignPending := s.sequencer.alignPending || st.videoMode != s.setup.videoMode } }

/-- The setup fault value set (R98). -/
def State.setSetupFault (s : State) (v : Option Nat) : State :=
  { s with requests := { s.requests with setupFault := v } }

end Sys2Proof.Machine
end

