-- ==== Sys2Proof/Machine/Grades.lean ====
section
/-! DEFINITION. The ten grade parameters, their ranges and sums, and the pixel transform (R74, R83, R86 to R90). -/

namespace Sys2Proof.Machine

/-- The lowest value of the k-th grade parameter (R37). -/
def paramLow (k : Fin 10) : Int := if k.val < 3 then -512 else if k.val < 6 then 0 else if k.val < 9 then -512 else 0

/-- The highest value of the k-th grade parameter (R37). -/
def paramHigh (k : Fin 10) : Int := if 3 ≤ k.val ∧ k.val < 6 then 4095 else 511

/-- The magnitude a trim delta is clamped to on taking (R77). -/
def deltaBound (k : Fin 10) : Int :=
  if k.val < 3 then 1023 else if k.val < 6 then 4095 else if k.val < 9 then 1023 else 511

/-- A value clamped to the range of the k-th grade parameter. -/
def clampParam (k : Fin 10) (v : Int) : Int := clampInt (paramLow k) (paramHigh k) v

/-- Ten values clamped to the parameters' ranges. -/
def clampGrade (g : Grade) : Grade := Vector.ofFn fun k => clampParam k g[k]

/-- Ten sums, not yet clamped. -/
def addGrade (g d : Grade) : Grade := Vector.ofFn fun k => g[k] + d[k]

/-- The parameters of a mask that clamping changes: how many there are (R109, R111, R126, R134). -/
def clampCount (mask : Vector Bool 10) (g : Grade) : Nat :=
  (List.finRange 10).countP fun k => mask[k] && decide (clampParam k g[k] ≠ g[k])

/-- A mask with every flag set. -/
def fullMask : Vector Bool 10 := Vector.ofFn fun _ => true

/-- At least one flag of a mask is set. -/
def anyFlag (mask : Vector Bool 10) : Bool := (List.finRange 10).any fun k => mask[k]

/-- The parameters of `new` where the mask's flag is set, those of `old` elsewhere. -/
def maskGrade (mask : Vector Bool 10) (new old : Grade) : Grade :=
  Vector.ofFn fun k => if mask[k] then new[k] else old[k]

/-- Ten trim deltas clamped on taking (R77). -/
def clampDeltas (d : Grade) : Grade := Vector.ofFn fun k => clampInt (-(deltaBound k)) (deltaBound k) d[k]

/-- The value n ÷ (D_eff + 1) of the way from the predecessor's parameter to the scene's (R82). -/
def blendParam (from_ to_ : Int) (n dEff : Nat) : Int := from_ + roundDiv ((to_ - from_) * n) (dEff + 1)

/-- The blend of two grades at one weight (R82). -/
def blendGrade (from_ to_ : Grade) (n dEff : Nat) : Grade := Vector.ofFn fun k => blendParam from_[k] to_[k] n dEff

/-! ### The pixel transform -/

/-- A channel of a pixel. -/
inductive Channel where
  | red
  | green
  | blue
  deriving DecidableEq, Repr

/-- The LIFT of a channel. -/
def lift (g : Grade) : Channel → Int
  | .red => g[0]
  | .green => g[1]
  | .blue => g[2]

/-- The GAIN of a channel. -/
def gain (g : Grade) : Channel → Int
  | .red => g[3]
  | .green => g[4]
  | .blue => g[5]

/-- The BEND of a channel. -/
def bend (g : Grade) : Channel → Int
  | .red => g[6]
  | .green => g[7]
  | .blue => g[8]

/-- The saturation. -/
def saturation (g : Grade) : Int := g[9]

/-- The input code, turned over when NEGATIVE is on (R86). -/
def inputCode (negative : Bool) (x : Int) : Int := if negative then 1023 - x else x

/-- Stage A, bend (R87). -/
def stageBend (bend x : Int) : Int := x + roundDiv (bend * x * (1023 - x)) 523776

/-- Stage B, gain and lift (R88). -/
def stageGain (lift gain y : Int) : Int := clampInt 0 2047 (lift + roundDiv (gain * y) 1024)

/-- The luma of stage C (R89). -/
def stageLuma (zr zg zb : Int) : Int := roundDiv (306 * zr + 601 * zg + 117 * zb) 1024

/-- Stage C, saturation (R89). -/
def stageSaturation (sat luma z : Int) : Int := luma + roundDiv (sat * (z - luma)) 256

/-- Stage D, clip (R90). -/
def stageClip (low high : Nat) (x : Int) : Int := clampInt low high x

/-- A channel after stages A and B. -/
def channelLevel (g : Grade) (negative : Bool) (c : Channel) (x : Int) : Int :=
  stageGain (lift g c) (gain g c) (stageBend (bend g c) (inputCode negative x))

/-- What the transform gives for one pixel: three output codes, and the luma of stage C that a probe reports (R91). -/
structure Graded where
  red : Int
  green : Int
  blue : Int
  luma : Int
  deriving DecidableEq, Repr

/-- The pixel transform of R86 to R90 under a set of ten parameters and a set-up. -/
def transform (g : Grade) (st : Setup) (red green blue : Int) : Graded :=
  let zr := channelLevel g st.negative .red red
  let zg := channelLevel g st.negative .green green
  let zb := channelLevel g st.negative .blue blue
  let y := stageLuma zr zg zb
  let out := fun z => stageClip st.clipLow st.clipHigh (stageSaturation (saturation g) y z)
  { red := out zr, green := out zg, blue := out zb, luma := y }

end Sys2Proof.Machine
end

