-- ==== Sys2Proof/Machine/Scenes.lean ====
section
/-! DEFINITION. The scene table: the fields of a slot, coverage, linking and unlinking, and the list laid out afresh
(R36 to R54, R185). -/

namespace Sys2Proof.Machine

/-- The first word of the scene table (R36). -/
def sceneBase : Nat := 0x1000

/-- The first word of a slot (R36). -/
def slotBase (x : Slot) : Nat := sceneBase + 32 * x.val

/-- A word of a slot. -/
def slotWordAt (m : Memory) (x : Slot) (k : Nat) : Word := Memory.read m (slotBase x + k)

/-- STATE is LISTED (R38). -/
def listed (m : Memory) (x : Slot) : Bool := slotWordAt m x 0 == 1

/-- NEXT (R37). -/
def sceneNext (m : Memory) (x : Slot) : Option Slot := slotOfWord (slotWordAt m x 1)

/-- PREV (R37). -/
def scenePrev (m : Memory) (x : Slot) : Option Slot := slotOfWord (slotWordAt m x 2)

/-- START (R37). -/
def sceneStart (m : Memory) (x : Slot) : Int := (Memory.readPair m (slotBase x + 3)).toInt

/-- DISSOLVE (R37). -/
def sceneDissolve (m : Memory) (x : Slot) : Nat := (slotWordAt m x 5).toNat

/-- ORIGIN as coded (R185). -/
def sceneOrigin (m : Memory) (x : Slot) : Word := slotWordAt m x 6

/-- EDIT SERIAL (R47). -/
def sceneSerial (m : Memory) (x : Slot) : Word := slotWordAt m x 7

/-- RIPPLE MARK (R48). -/
def sceneMark (m : Memory) (x : Slot) : Word := slotWordAt m x 8

/-- The tag, where TAG PRESENT says there is one (R37). -/
def sceneTag (m : Memory) (x : Slot) : Option DWord :=
  if slotWordAt m x 9 = 0 then none else some (Memory.readPair m (slotBase x + 10))

/-- The ten grade parameters: gains and saturation unsigned, lifts and bends signed (R185). -/
def sceneGrade (m : Memory) (x : Slot) : Grade :=
  Vector.ofFn fun k =>
    let w := slotWordAt m x (12 + k.val)
    if paramLow k = 0 then w.toNat else w.toInt

/-- The ten grade words of a slot, from word 12 on (R185). -/
def gradeCells (x : Slot) (g : Grade) : List (Nat × Word) :=
  (List.finRange 10).map fun k => (slotBase x + 12 + k.val, signedWord g[k])

/-- ORIGIN codes (R185). -/
def originBase : Word := 1
/-- ORIGIN INSERTED (R185). -/
def originInserted : Word := 2
/-- ORIGIN SPLIT (R185). -/
def originSplit : Word := 3

/-! ### Order and coverage -/

/-- A scene covers a frame: from its START to one less than the START of its NEXT (R42). -/
def covers (m : Memory) (x : Slot) (f : Int) : Bool :=
  decide (sceneStart m x ≤ f) &&
    match sceneNext m x with
    | some y => decide (f < sceneStart m y)
    | none => true

/-- The scenes met following NEXT from a slot, itself included, over at most `fuel` scenes. -/
def scenesFrom (m : Memory) : Nat → Slot → List Slot
  | 0, _ => []
  | fuel + 1, x =>
    x ::
      match sceneNext m x with
      | some y => scenesFrom m fuel y
      | none => []

/-- The listed scenes in order, from the base scene (R40). -/
def sceneList (m : Memory) : List Slot := scenesFrom m 1024 0

/-- The run of scenes met following NEXT from one slot to another inclusive (R124). -/
def sceneRun (m : Memory) (last : Slot) : Nat → Slot → List Slot
  | 0, _ => []
  | fuel + 1, x =>
    if x = last then [x]
    else
      x ::
        match sceneNext m x with
        | some y => sceneRun m last fuel y
        | none => []

/-- The listed scene that starts at a frame, if there is one (R41). -/
def startingAt (m : Memory) (f : Int) : Option Slot := (sceneList m).find? fun x => decide (sceneStart m x = f)

/-- The listed scene that covers a frame (R42). The base scene stands in where the links lead to none, which R42
excludes (log 16). -/
def coveringScene (m : Memory) (f : Int) : Slot := ((sceneList m).find? fun x => covers m x f).getD 0

/-- A word of the table is the STATE word of a listed slot. -/
def listedCell (c : Nat × Word) : Bool :=
  decide (sceneBase ≤ c.1 ∧ c.1 < sceneBase + 32768 ∧ (c.1 - sceneBase) % 32 = 0) && c.2 == 1

/-- LISTED COUNT: the number of listed slots (R44). -/
def listedCount (m : Memory) : Nat := m.countP listedCell

/-! ### Edits, in the write order of R51 -/

/-- A scene linked after a predecessor: its fields, PREV, NEXT and the serial one higher, then STATE, then the
neighbours' links (R47, R51). -/
def linkScene (m : Memory) (x pred : Slot) (fields : List (Nat × Word)) : Memory :=
  let succ := sceneNext m pred
  let serial := sceneSerial m x + 1
  let placed :=
    Memory.writeAll m
      (fields ++
        [(slotBase x + 2, slotWord (some pred)), (slotBase x + 1, slotWord succ), (slotBase x + 7, serial),
         (slotBase x, 1), (slotBase pred + 1, slotWord (some x))])
  match succ with
  | some y => Memory.write placed (slotBase y + 2) (slotWord (some x))
  | none => placed

/-- A scene unlinked: the predecessor's NEXT, then the successor's PREV (R51). -/
def unlinkScene (m : Memory) (x : Slot) : Memory :=
  let prev := scenePrev m x
  let next := sceneNext m x
  let joined :=
    match prev with
    | some p => Memory.write m (slotBase p + 1) (slotWord next)
    | none => m
  match next with
  | some y => Memory.write joined (slotBase y + 2) (slotWord prev)
  | none => joined

/-- A slot marked FREE, its other words kept (R38). -/
def freeSlot (m : Memory) (x : Slot) : Memory := Memory.write m (slotBase x) 0

/-- An edit of a scene in place: the new values, then the serial one higher, last (R47, R51). -/
def editScene (m : Memory) (x : Slot) (cells : List (Nat × Word)) : Memory :=
  Memory.writeAll m (cells ++ [(slotBase x + 7, sceneSerial m x + 1)])

/-- Every scene after the base unlinked, in list order, and its slot pushed: the memory, the stack and how many (R43,
R112). -/
def clearScenes : Nat → Memory → List Slot → Nat → Memory × List Slot × Nat
  | 0, m, stack, n => (m, stack, n)
  | fuel + 1, m, stack, n =>
    match sceneNext m 0 with
    | some x => clearScenes fuel (freeSlot (unlinkScene m x) x) (x :: stack) (n + 1)
    | none => (m, stack, n)

/-! ### Run-start initialisation (R39, R54) -/

/-- The thirty-two words of the base scene as initialisation writes it, those not 0 (R185). -/
def baseSceneCells : List (Nat × Word) :=
  [ (sceneBase, 1), (sceneBase + 1, 0xFFFF), (sceneBase + 2, 0xFFFF), (sceneBase + 3, 0xFFFF), (sceneBase + 6, originBase),
    (sceneBase + 15, 1024), (sceneBase + 16, 1024), (sceneBase + 17, 1024), (sceneBase + 21, 256) ]

/-- The scene table laid out afresh: every word of every slot 0, then the base scene (R54). -/
def layOutScenes (m : Memory) : Memory :=
  Memory.writeAll (Memory.clearRange m sceneBase (sceneBase + 32768)) baseSceneCells

/-- The free stack as initialisation fills it: slot 1 on top, slot 1023 at the bottom (R54). -/
def fullFreeStack : List Slot := (List.range 1023).map fun i => Fin.ofNat 1024 (i + 1)

end Sys2Proof.Machine
end

