-- ==== Sys2Proof/Machine/Tracker.lean ====
section
/-! DEFINITION. The scene tracker: the walk, the resolution, the dissolve, scene changes and the on-air set (R56 to R73). -/

namespace Sys2Proof.Machine

/-- One step of the walk from a scene that does not cover the frame (R58). Where the links give no step, which R58
excludes, the walk stays (log 16). -/
def walkStep (m : Memory) (f : Int) (c : Slot) : Slot :=
  if f < sceneStart m c then (scenePrev m c).getD c else (sceneNext m c).getD c

/-- The walk: at most `fuel` steps from a slot. It answers the slot reached and the steps taken (R58). -/
def walk (m : Memory) (f : Int) : Nat → Slot → Nat → Slot × Nat
  | 0, c, steps => (c, steps)
  | fuel + 1, c, steps => if covers m c f then (c, steps) else walk m f fuel (walkStep m f c) (steps + 1)

/-- D_eff of a scene: the smaller of its DISSOLVE and the frames it covers; 0 for the base scene (R62). -/
def effectiveDissolve (m : Memory) (c : Slot) : Nat :=
  if c = 0 then 0
  else
    match sceneNext m c with
    | some y => min (sceneDissolve m c) (sceneStart m y - sceneStart m c).toNat
    | none => sceneDissolve m c

/-- The number of a frame within a scene (R62). -/
def dissolveNumber (m : Memory) (c : Slot) (f : Int) : Int := f - sceneStart m c + 1

/-- A field is dissolving (R62). -/
def isDissolving (m : Memory) (c : Slot) (f : Int) : Bool :=
  decide (1 ≤ dissolveNumber m c f ∧ dissolveNumber m c f ≤ effectiveDissolve m c)

/-- The record of a RESOLVED field (R59, R62). -/
def resolvedRecord (m : Memory) (q : Sequencer) (c : Slot) (steps : Nat) : Resolution :=
  let dissolving := isDissolving m c q.fieldFrame
  { outcome := .resolved
    fieldCount := q.fieldCount
    fieldFrame := q.fieldFrame
    slot := c
    serial := sceneSerial m c
    steps := steps
    dissolving := dissolving
    predecessor := if dissolving then scenePrev m c else none
    n := if dissolving then (dissolveNumber m c q.fieldFrame).toNat else 0
    dEff := effectiveDissolve m c }

/-- The record of a HELD field (R60). -/
def heldRecord (m : Memory) (q : Sequencer) (c : Slot) (steps : Nat) : Resolution where
  outcome := .held
  fieldCount := q.fieldCount
  fieldFrame := q.fieldFrame
  slot := c
  serial := sceneSerial m c
  steps := steps
  dissolving := false
  predecessor := none
  n := 0
  dEff := 0

/-- A RESOLVED field carries a scene change (R66). -/
def Tracker.sceneChange (t : Tracker) (r : Resolution) : Bool := t.lastResolved != some (r.slot, r.serial)

/-- A slot that may be absent, as the records carry it. -/
def lastSlotWord (t : Tracker) : Word := slotWord (t.lastResolved.map Prod.fst)

/-- The SCENE record (R68, R186); where the scene has no tag, the tag words are a free value (log 8). -/
def State.sceneRecord (s : State) (before : Tracker) (r : Resolution) : Record × State :=
  let tag := sceneTag s.cue r.slot
  let (v, s') := s.orFree tag
  ({ kind := .scene
     frame := r.fieldFrame
     slot := some r.slot
     serial := r.serial
     detail :=
       [lastSlotWord before, (before.lastResolved.map Prod.snd).getD 0] ++
         bothWords (signedDWord (sceneStart s.cue r.slot)) ++
         [natWord r.dEff, (sceneOrigin s.cue r.slot &&& 3) ||| (boolWord tag.isSome <<< 15)] ++ bothWords v }, s')

/-- The HOLD record of phase ENTERED (R69, R186). -/
def holdEnteredRecord (before : Tracker) (r : Resolution) (limit : Nat) : Record where
  kind := .hold
  frame := r.fieldFrame
  slot := some r.slot
  serial := r.serial
  detail := [1, 1, lastSlotWord before, natWord limit]

/-- The HOLD record of phase RESUMED (R69, R186). -/
def holdResumedRecord (before : Tracker) (r : Resolution) : Record where
  kind := .hold
  frame := r.fieldFrame
  slot := some r.slot
  serial := r.serial
  detail := [2, 0, 0, 0, natWord before.heldCount, natWord r.steps]

/-- The tracker after a RESOLVED field (R59, R61, R67). -/
def Tracker.afterResolved (t : Tracker) (r : Resolution) : Tracker :=
  { t with
    current := r.slot
    lagging := false
    latest := some r
    lastResolved := some (r.slot, r.serial)
    heldCount := 0
    dissolveLevel := r.dissolving }

/-- The tracker after a HELD field (R60, R67). -/
def Tracker.afterHeld (t : Tracker) (r : Resolution) : Tracker :=
  { t with current := r.slot, lagging := true, latest := some r, heldCount := min 65535 (t.heldCount + 1) }

/-- The result of the tracker's work at a FIELD START: the part, whether SCENE CHANGE is raised, and the records. -/
structure Resolved where
  state : State
  sceneChange : Bool
  records : List Record

/-- A RESOLVED field (R59, R61, R66 to R69). -/
def State.resolveCovered (s : State) (c : Slot) (steps : Nat) : Resolved :=
  let t := s.tracker
  let r := resolvedRecord s.cue s.sequencer c steps
  let change := t.sceneChange r
  let s' := s.settle { s with tracker := t.afterResolved r }
  let resumed := if t.lagging then [holdResumedRecord t r] else []
  if change then
    let (rec_, s'') := s'.sceneRecord t r
    { state := s'', sceneChange := true, records := resumed ++ [rec_] }
  else { state := s', sceneChange := false, records := resumed }

/-- A HELD field (R60, R67, R69). -/
def State.resolveHeld (s : State) (c : Slot) (steps : Nat) : Resolved :=
  let t := s.tracker
  let r := heldRecord s.cue s.sequencer c steps
  let s' := s.settle { s with tracker := t.afterHeld r }
  if t.lagging then { state := s', sceneChange := false, records := [] }
  else
    { state := s'.setCause .fault, sceneChange := false,
      records := [holdEnteredRecord t r s.setup.walkLimit] }

/-- The tracker's work at a FIELD START: a resolution while RUNNING, nothing otherwise (R57, R73). -/
def State.resolve (s : State) : Resolved :=
  if s.port.run = .running then
    let (c, steps) := walk s.cue s.sequencer.fieldFrame s.setup.walkLimit s.tracker.current 0
    if covers s.cue c s.sequencer.fieldFrame then s.resolveCovered c steps else s.resolveHeld c steps
  else { state := s, sceneChange := false, records := [] }

/-! ### The on-air set (R71, R72) -/

/-- The on-air slot: the last resolved slot (R71). -/
def State.onAirSlot (s : State) : Option Slot := s.tracker.lastResolved.map Prod.fst

/-- A slot is in the on-air set (R71). -/
def State.onAirHolds (s : State) (x : Slot) : Bool :=
  match s.onAirSlot with
  | none => false
  | some a =>
    x == a ||
      (listed s.cue a && ((a != 0 && scenePrev s.cue a == some x) || sceneNext s.cue a == some x))

/-- A position is inside the on-air set's interval (R71). -/
def State.onAirInterval (s : State) (f : Int) : Bool :=
  match s.onAirSlot with
  | none => false
  | some a =>
    listed s.cue a && decide (sceneStart s.cue a < f) &&
      match sceneNext s.cue a with
      | some y => decide (f < sceneStart s.cue y)
      | none => decide (f ≤ frameHigh)

/-- The pass state is RECORDING (R105). -/
def State.recording (s : State) : Bool := s.pass.state == .recording

/-- The tracker's current slot set (R64, R65). -/
def State.setCurrent (s : State) (x : Slot) : State := { s with tracker := { s.tracker with current := x } }

/-- The current slot moved off a scene that an edit unlinks, to the predecessor it has at that moment (R65). -/
def State.leaveSlot (s : State) (x : Slot) : State :=
  if s.tracker.current = x then s.setCurrent ((scenePrev s.cue x).getD 0) else s

/-- The tracker after a reset and at run-start initialisation (R56, R67). -/
def Tracker.initial : Tracker where
  current := 0
  lagging := false
  latest := none
  lastResolved := none
  heldCount := 0
  dissolveLevel := false

end Sys2Proof.Machine
end

