-- ==== Sys2Proof/Machine/Engine.lean ====
section
/-! DEFINITION. The grade engine's work of a field: the live trim record, the coefficient set, the status block
(R75 to R85, R92, R183). -/

namespace Sys2Proof.Machine

/-! ### The status block (R183) -/

/-- The status values that may move before the field's live read ends, as they stand now (log 6). -/
def State.moment (s : State) : FieldMoment where
  perfCount := s.position.count
  positionState := s.position.state
  direction := s.position.direction
  writeCount := s.writer.writeCount
  releaseCount := s.writer.releaseCount

/-- The code of a live state (R183). -/
def LiveState.code : LiveState → Word
  | .current => 0
  | .held => 1

/-- The tracker's five words of the status block (R70). -/
def trackerWords (t : Tracker) : List Word :=
  match t.latest with
  | some r => [boolWord t.lagging, slotWord (some r.slot), slotWord r.predecessor, natWord r.n, natWord r.dEff]
  | none => [boolWord t.lagging, slotWord (some 0), slotWord none, 0, 0]

/-- RIPPLE ENTRY: the entry index plus 1, or 0 (R98). -/
def rippleEntryWord (q : Requests) : Word :=
  match q.ripple with
  | some r => natWord (r.entry.val + 1)
  | none => 0

/-- SETUP FAULT WORD: the offset, or 0xFFFF (R98). -/
def setupFaultWord (q : Requests) : Word :=
  match q.setupFault with
  | some offset => natWord offset
  | none => 0xFFFF

/-- Ten parameters as ten words. -/
def gradeWords (g : Grade) : List Word := (List.finRange 10).map fun k => signedWord g[k]

/-- Words 2 to 33 of the status block (R183). -/
def State.statusWords (s : State) (f : FieldMoment) : List Word :=
  bothWords (signedDWord s.sequencer.fieldFrame) ++
    [phaseWord s.sequencer.phase, boolWord s.sequencer.locked, f.positionState.code, f.direction.code] ++
    trackerWords s.tracker ++
    [natWord s.requests.freeStack.length, natWord (listedCount s.cue), f.writeCount, f.releaseCount,
      rippleEntryWord s.requests, s.engine.liveState.code] ++
    gradeWords s.engine.coefficients ++
    [natWord s.requests.takeIndex.val, setupFaultWord s.requests] ++ bothWords (signedDWord f.perfCount) ++
    [s.sequencer.reference.code]

/-- The status block written: words 2 to 33 in increasing order, then the FIELD COUNT pair (R183). -/
def State.writeStatus (s : State) (f : FieldMoment) : State :=
  { s with
    cue :=
      Memory.writeAll s.cue
        (cellsFrom (statusBase + 2) (s.statusWords f) ++ pairCells statusBase s.sequencer.fieldCount) }

/-! ### The coefficient set (R82 to R84) -/

/-- The effective parameters of a RESOLVED field (R82). -/
def effectiveGrade (m : Memory) (r : Resolution) : Grade :=
  match r.dissolving, r.predecessor with
  | true, some p => blendGrade (sceneGrade m p) (sceneGrade m r.slot) r.n r.dEff
  | _, _ => sceneGrade m r.slot

/-- The coefficient set from the effective parameters and the trim in force (R83). -/
def Engine.trimmed (e : Engine) (g : Grade) : Grade := if e.enable then clampGrade (addGrade g e.deltas) else g

/-- The coefficient step: a set built for a RESOLVED field, the one in force kept for a HELD one (R82 to R84). -/
def State.buildCoefficients (s : State) : State :=
  match s.tracker.latest with
  | some r =>
    match r.outcome with
    | .resolved =>
      { s with engine := { s.engine with coefficients := s.engine.trimmed (effectiveGrade s.cue r) } }
    | .held => s
  | none => s

/-! ### The live trim record (R77, R78, R81) -/

/-- The first word of the live trim record (R77). -/
def liveBase : Nat := 0x200

/-- The word of the record that the n-th word read takes: CLOSE, then 1 to 11, then OPEN (R78). -/
def liveReadOffset (n : Nat) : Nat := if n = 0 then 12 else if n = 12 then 0 else n

/-- A record as read, from the thirteen words in the order they were read. -/
structure LiveRecord where
  close : Word
  enable : Bool
  deltas : Grade
  open_ : Word
  deriving DecidableEq, Repr

/-- The record that thirteen words in reading order spell (R77, R78). -/
def liveRecordOf (ws : List Word) : LiveRecord where
  close := ws.getD 0 0
  enable := ws.getD 1 0 != 0
  deltas := clampDeltas (Vector.ofFn fun k => (ws.getD (2 + k.val) 0).toInt)
  open_ := ws.getD 12 0

/-- A record of the engine (R81). -/
def liveReport (s : State) (detail : List Word) : Record where
  kind := .live
  frame := s.sequencer.fieldFrame
  slot := none
  serial := 0
  detail := detail

/-- A whole record taken (R78). -/
def Engine.take (e : Engine) (r : LiveRecord) : Engine :=
  { e with
    deltas := r.deltas
    enable := r.enable
    revision := some r.open_
    liveState := .current
    tornCount := 0
    stale := false
    read := none }

/-- A torn record refused: the torn count, and the stale flag where the limit is reached (R78). -/
def Engine.tear (e : Engine) (limit : Nat) : Engine :=
  let torn := min 65535 (e.tornCount + 1)
  { e with liveState := .held, tornCount := torn, stale := e.stale || decide (limit ≤ torn), read := none }

/-- The work left once the thirteen words are read: the comparison, the coefficient step, the status block, then the
LIVE report and the STALE cause (R76, R78, R81). -/
def State.endLiveRead (s : State) (read : LiveRead) : State :=
  let e := s.engine
  let r := liveRecordOf read.words
  if r.close = r.open_ then
    let done := ({ s with engine := e.take r }.buildCoefficients).writeStatus read.moment
    if e.stale then done.hand (liveReport done [2, natWord e.tornCount, r.open_]) else done
  else
    let torn := e.tear s.setup.liveStaleLimit
    let done := ({ s with engine := torn }.buildCoefficients).writeStatus read.moment
    if torn.stale ∧ e.stale = false then
      let (v, drawn) :=
        match e.revision with
        | some rev => (rev, done)
        | none => done.drawWord
      (drawn.hand
        (liveReport drawn [1, natWord torn.tornCount, r.close, r.open_, v, boolWord e.revision.isSome])).setCause .stale
    else done

/-- One word read of a read in progress; the thirteenth ends it (R78). -/
def State.liveWordRead (s : State) (read : LiveRead) : State :=
  let words := read.words ++ [Memory.read s.cue (liveBase + liveReadOffset read.words.length)]
  let next := { read with words := words }
  if 13 ≤ words.length then s.endLiveRead next
  else { s with engine := { s.engine with read := some next } }

/-- Up to `fuel` word reads of the read in progress, if there is one. -/
def State.liveReads : Nat → State → State
  | 0, s => s
  | fuel + 1, s =>
    match s.engine.read with
    | some read => State.liveReads fuel (s.liveWordRead read)
    | none => s

/-- The read in progress made whole before an event that needs the field's work done (R93, R99; log 3). -/
def State.finishLiveRead (s : State) : State := State.liveReads 13 s

/-- The live trim record is not read at this field (R77, R79, R80). -/
def State.liveReadHeld (s : State) (trimHold : Bool) : Bool :=
  trimHold || (s.setup.freezeTrimInRecord && s.pass.state == .recording)

/-- The engine's work at a FIELD START. While RUNNING it begins a read of the live trim record, or, where the record is
held, builds the set and writes the status block at once; otherwise it only writes the status block, once the part has
been initialised (R76, R77, R92, R93; log 2). -/
def State.engineField (s : State) (trimHold : Bool) : State :=
  if s.port.run = .running then
    if s.liveReadHeld trimHold then
      ({ s with engine := { s.engine with liveState := .held } }.buildCoefficients).writeStatus s.moment
    else { s with engine := { s.engine with read := some { words := [], moment := s.moment } } }
  else if s.initialised then s.writeStatus s.moment
  else s

end Sys2Proof.Machine
end

