-- ==== Sys2Proof/Machine/Operands.lean ====
section
/-! DEFINITION. The request table: entries, the operands of a request, kinds, classes and result codes (R95 to R104,
R184). -/

namespace Sys2Proof.Machine

/-- The first word of the request table (R95). -/
def requestBase : Nat := 0x400

/-- The first word of an entry (R95). -/
def entryBase (i : Fin 32) : Nat := requestBase + 64 * i.val

/-- A word of an entry. -/
def entryWord (m : Memory) (i : Fin 32) (k : Nat) : Word := Memory.read m (entryBase i + k)

/-- STATE FREE (R184). -/
def stateFree : Word := 0
/-- STATE POSTED (R184). -/
def statePosted : Word := 1
/-- STATE TAKEN (R184). -/
def stateTaken : Word := 2
/-- STATE DONE (R184). -/
def stateDone : Word := 3
/-- STATE REFUSED (R184). -/
def stateRefused : Word := 4

/-- The request kinds (R101). -/
inductive RequestKind where
  | insertScene
  | deleteScene
  | moveScene
  | regradeScene
  | setDissolve
  | storeLive
  | ripple
  | clearList
  | applySetup
  | locate
  | pulseChannel
  | startPass
  | stopPass
  | resumePass
  | abandonPass
  | cadenceAlign
  | probe
  | cancelRipple
  deriving DecidableEq, Repr

/-- The kind a KIND word names (R184). -/
def requestKind (w : Word) : Option RequestKind :=
  match w.toNat with
  | 0x01 => some .insertScene
  | 0x02 => some .deleteScene
  | 0x03 => some .moveScene
  | 0x04 => some .regradeScene
  | 0x05 => some .setDissolve
  | 0x06 => some .storeLive
  | 0x07 => some .ripple
  | 0x08 => some .clearList
  | 0x09 => some .applySetup
  | 0x10 => some .locate
  | 0x11 => some .pulseChannel
  | 0x12 => some .startPass
  | 0x13 => some .stopPass
  | 0x14 => some .resumePass
  | 0x15 => some .abandonPass
  | 0x16 => some .cadenceAlign
  | 0x17 => some .probe
  | 0x18 => some .cancelRipple
  | _ => none

/-- A kind is of the edit class (R101). -/
def RequestKind.edit : RequestKind → Bool
  | .insertScene => true
  | .deleteScene => true
  | .moveScene => true
  | .regradeScene => true
  | .setDissolve => true
  | .storeLive => true
  | .ripple => true
  | .clearList => true
  | .applySetup => true
  | .locate => false
  | .pulseChannel => false
  | .startPass => false
  | .stopPass => false
  | .resumePass => false
  | .abandonPass => false
  | .cadenceAlign => false
  | .probe => false
  | .cancelRipple => false

/-- An entry is of the edit class; a KIND that names no request is taken as immediate (R101). -/
def entryIsEdit (m : Memory) (i : Fin 32) : Bool :=
  match requestKind (entryWord m i 1) with
  | some k => k.edit
  | none => false

/-- The result codes (R102). -/
inductive ResultCode where
  | ok
  | okClamped
  | badKind
  | badSlot
  | badPosition
  | duplicateStart
  | listFull
  | onAir
  | notNow
  | aborted
  | setupInvalid
  deriving DecidableEq, Repr

/-- The word of a result code (R184). -/
def ResultCode.word : ResultCode → Word
  | .ok => 0
  | .okClamped => 1
  | .badKind => 2
  | .badSlot => 3
  | .badPosition => 4
  | .duplicateStart => 5
  | .listFull => 6
  | .onAir => 7
  | .notNow => 8
  | .aborted => 9
  | .setupInvalid => 10

/-- The STATE word an entry finishes in: DONE for OK and OK_CLAMPED, REFUSED for any other code (R97). -/
def ResultCode.state : ResultCode → Word
  | .ok => stateDone
  | .okClamped => stateDone
  | _ => stateRefused

/-- OK, or OK_CLAMPED where a value was clamped (R104). -/
def okOr (clamped : Bool) : ResultCode := if clamped then .okClamped else .ok

/-- What a request finishes with. -/
structure Result where
  code : ResultCode
  a : DWord
  b : DWord
  deriving DecidableEq, Repr

/-- A refusal with RESULT A and RESULT B 0 (R102). -/
def refusedWith (c : ResultCode) : Result := { code := c, a := 0, b := 0 }

/-- A slot as a result value. -/
def slotDWord (x : Slot) : DWord := natDWord x.val

/-! ### Operands (R104, R184) -/

/-- SLOT A: the slot it names, or none (R104). -/
def operandSlotA (m : Memory) (i : Fin 32) : Option Slot := slotOfWord (entryWord m i 8)

/-- SLOT B. -/
def operandSlotB (m : Memory) (i : Fin 32) : Option Slot := slotOfWord (entryWord m i 9)

/-- POSITION: a signed 32-bit frame. -/
def operandPosition (m : Memory) (i : Fin 32) : Int := (Memory.readPair m (entryBase i + 10)).toInt

/-- COUNT. -/
def operandCount (m : Memory) (i : Fin 32) : Nat := (Memory.readPair m (entryBase i + 12)).toNat

/-- DISSOLVE: signed. -/
def operandDissolve (m : Memory) (i : Fin 32) : Int := (entryWord m i 14).toInt

/-- PARAMETER MASK: ten flags. -/
def operandMask (m : Memory) (i : Fin 32) : Vector Bool 10 := Vector.ofFn fun k => (entryWord m i 15).getLsbD k.val

/-- TAG, where TAG PRESENT is not 0. -/
def operandTag (m : Memory) (i : Fin 32) : Option DWord :=
  if entryWord m i 16 = 0 then none else some (Memory.readPair m (entryBase i + 17))

/-- The ten GRADE words: signed. -/
def operandGrade (m : Memory) (i : Fin 32) : Grade := Vector.ofFn fun k => (entryWord m i (19 + k.val)).toInt

/-- The three PROBE INPUT words: signed. -/
def operandProbe (m : Memory) (i : Fin 32) : Vector Int 3 := Vector.ofFn fun k => (entryWord m i (29 + k.val)).toInt

/-- CHANNEL MASK: eight flags. -/
def operandChannels (m : Memory) (i : Fin 32) : Vector Bool 8 := Vector.ofFn fun c => (entryWord m i 33).getLsbD c.val

/-- The DISSOLVE a scene may hold (R104). -/
def clampDissolve (d : Int) : Int := clampInt 0 250 d

/-- SLOT A, where it names a listed slot. -/
def listedSlotA (m : Memory) (i : Fin 32) : Option Slot := (operandSlotA m i).filter fun x => listed m x

/-- SLOT A, where it names a listed slot other than the base scene. -/
def movableSlotA (m : Memory) (i : Fin 32) : Option Slot := (listedSlotA m i).filter fun x => x != 0

end Sys2Proof.Machine
end

