-- ==== Sys2Proof/Machine/Requests.lean ====
section
/-! DEFINITION. What each request does when it is taken, but for the ripple (R102 to R119). -/

namespace Sys2Proof.Machine

/-! ### Finishing an entry -/

/-- An entry finished: RESULT CODE, RESULT A, RESULT B, then STATE; with NOTIFY set, the REQUEST cause, and a
notification due after the handling (R102, R103). -/
def State.finishEntry (s : State) (i : Fin 32) (r : Result) : State :=
  let b := entryBase i
  let done :=
    { s with
      cue :=
        Memory.writeAll s.cue
          ([(b + 3, r.code.word)] ++ pairCells (b + 4) r.a ++ pairCells (b + 6) r.b ++ [(b, r.code.state)]) }
  if (entryWord s.cue i 2).getLsbD 0 then
    { done.setCause .request with requests := { s.requests with notifyDue := true } }
  else done

/-- The refusal of an edit that touches the on-air set (R105). -/
def State.onAirRefusal (s : State) : Result where
  code := .onAir
  a := (s.onAirSlot.map slotDWord).getD 0
  b := 0

/-- A slot is protected: the pass is RECORDING and the slot is in the on-air set (R105). -/
def State.slotOnAir (s : State) (x : Slot) : Bool := s.recording && s.onAirHolds x

/-- A position is protected: the pass is RECORDING and the position is inside the on-air interval (R105). -/
def State.positionOnAir (s : State) (f : Int) : Bool := s.recording && s.onAirInterval f

/-! ### Scene edits (R106 to R112) -/

/-- The fields of a scene as a slot is taken for it: START, DISSOLVE, ORIGIN, RIPPLE MARK, the tag and the grade (R48,
R51). `tagWords` are what the tag words are written as. -/
def newSceneCells (x : Slot) (start : Int) (dissolve : Int) (origin mark : Word) (tagPresent : Bool) (tagWords : DWord)
    (g : Grade) : List (Nat × Word) :=
  pairCells (slotBase x + 3) (signedDWord start) ++
    [(slotBase x + 5, signedWord dissolve), (slotBase x + 6, origin), (slotBase x + 8, mark),
     (slotBase x + 9, boolWord tagPresent)] ++
    pairCells (slotBase x + 10) tagWords ++ gradeCells x g

/-- A scene made in the slot on top of the free stack and linked after the scene that covers its START (R43, R47, R106,
R133). Without a tag the tag words are a free value (log 7). -/
def State.makeScene (s : State) (x : Slot) (rest : List Slot) (start dissolve : Int) (origin mark : Word)
    (tag : Option DWord) (g : Grade) : State :=
  let (tagWords, drawn) := s.orFree tag
  { drawn with
    cue :=
      linkScene s.cue x (coveringScene s.cue start)
        (newSceneCells x start dissolve origin mark tag.isSome tagWords g)
    requests := { s.requests with freeStack := rest } }

/-- INSERT SCENE (R106). -/
def State.insertScene (s : State) (i : Fin 32) : State × Result :=
  let p := operandPosition s.cue i
  let d := operandDissolve s.cue i
  let g := operandGrade s.cue i
  if frameInRange p = false then (s, refusedWith .badPosition)
  else
    match startingAt s.cue p with
    | some x => (s, { code := .duplicateStart, a := slotDWord x, b := 0 })
    | none =>
      if s.positionOnAir p then (s, s.onAirRefusal)
      else
        match s.requests.freeStack with
        | [] => (s, refusedWith .listFull)
        | x :: rest =>
          let made := s.makeScene x rest p (clampDissolve d) originInserted 0 (operandTag s.cue i) (clampGrade g)
          (made,
            { code := okOr (decide (clampCount fullMask g ≠ 0 ∨ clampDissolve d ≠ d)), a := slotDWord x,
              b := wordDWord (sceneSerial made.cue x) })

/-- DELETE SCENE (R107). -/
def State.deleteScene (s : State) (i : Fin 32) : State × Result :=
  match movableSlotA s.cue i with
  | none => (s, refusedWith .badSlot)
  | some x =>
    if s.slotOnAir x then (s, s.onAirRefusal)
    else
      let left := s.leaveSlot x
      ({ left with
          cue := freeSlot (unlinkScene s.cue x) x
          requests := { s.requests with freeStack := x :: s.requests.freeStack } },
        { code := .ok, a := slotDWord ((scenePrev s.cue x).getD 0), b := 0 })

/-- A listed scene other than one starts at a frame (R108). -/
def startingAtOther (m : Memory) (x : Slot) (f : Int) : Option Slot :=
  (sceneList m).find? fun y => decide (y ≠ x ∧ sceneStart m y = f)

/-- A scene unlinked at its old place and linked at a new START (R51, R108). -/
def moveSceneTo (m : Memory) (x : Slot) (p : Int) : Memory :=
  let without := unlinkScene m x
  linkScene without x (coveringScene without p) (pairCells (slotBase x + 3) (signedDWord p))

/-- MOVE SCENE (R108). -/
def State.moveScene (s : State) (i : Fin 32) : State × Result :=
  let p := operandPosition s.cue i
  match movableSlotA s.cue i with
  | none => (s, refusedWith .badSlot)
  | some x =>
    if frameInRange p = false then (s, refusedWith .badPosition)
    else
      match startingAtOther s.cue x p with
      | some y => (s, { code := .duplicateStart, a := slotDWord y, b := 0 })
      | none =>
        if s.slotOnAir x || s.positionOnAir p then (s, s.onAirRefusal)
        else
          let left := s.leaveSlot x
          let cue := moveSceneTo s.cue x p
          ({ left with cue := cue },
            { code := .ok, a := wordDWord (sceneSerial cue x), b := signedDWord (sceneStart s.cue x) })

/-- The grade words of a slot whose mask flag is set. -/
def maskedGradeCells (x : Slot) (mask : Vector Bool 10) (g : Grade) : List (Nat × Word) :=
  ((List.finRange 10).filter fun k => mask[k]).map fun k => (slotBase x + 12 + k.val, signedWord g[k])

/-- REGRADE SCENE (R109). -/
def State.regradeScene (s : State) (i : Fin 32) : State × Result :=
  let mask := operandMask s.cue i
  let g := operandGrade s.cue i
  match listedSlotA s.cue i with
  | none => (s, refusedWith .badSlot)
  | some x =>
    if s.slotOnAir x then (s, s.onAirRefusal)
    else
      let cue := if anyFlag mask then editScene s.cue x (maskedGradeCells x mask (clampGrade g)) else s.cue
      ({ s with cue := cue },
        { code := okOr (decide (clampCount mask g ≠ 0)), a := wordDWord (sceneSerial cue x),
          b := natDWord (clampCount mask g) })

/-- SET DISSOLVE (R110). -/
def State.setDissolve (s : State) (i : Fin 32) : State × Result :=
  let d := operandDissolve s.cue i
  match movableSlotA s.cue i with
  | none => (s, refusedWith .badSlot)
  | some x =>
    if s.slotOnAir x then (s, s.onAirRefusal)
    else
      let cue := editScene s.cue x [(slotBase x + 5, signedWord (clampDissolve d))]
      ({ s with cue := cue },
        { code := okOr (decide (clampDissolve d ≠ d)), a := wordDWord (sceneSerial cue x),
          b := signedDWord (clampDissolve d) })

/-- STORE LIVE (R111). -/
def State.storeLive (s : State) (i : Fin 32) : State × Result :=
  match listedSlotA s.cue i with
  | none => (s, refusedWith .badSlot)
  | some x =>
    if s.slotOnAir x then (s, s.onAirRefusal)
    else
      let sums := addGrade (sceneGrade s.cue x) s.engine.deltas
      let cue := editScene s.cue x (gradeCells x (clampGrade sums))
      ({ s with cue := cue },
        { code := okOr (decide (clampCount fullMask sums ≠ 0)), a := wordDWord (sceneSerial cue x),
          b := natDWord (clampCount fullMask sums) })

/-- CLEAR LIST (R112). -/
def State.clearList (s : State) : State × Result :=
  if s.pass.state.underWay then (s, refusedWith .notNow)
  else
    let (cue, stack, n) := clearScenes 1023 s.cue s.requests.freeStack 0
    ({ s.setCurrent 0 with cue := cue, requests := { s.requests with freeStack := stack } },
      { code := .ok, a := natDWord n, b := 0 })

/-- APPLY SET-UP (R113). -/
def State.applySetup (s : State) : State × Result :=
  if s.pass.state.underWay then (s, refusedWith .notNow)
  else
    match setupFirstInvalid s.cue with
    | some offset => (s.setSetupFault (some offset), { code := .setupInvalid, a := natDWord offset, b := 0 })
    | none => ((s.takeSetup (readSetup s.cue)).setSetupFault none, { code := .ok, a := 0xFFFF, b := 0 })

/-! ### Immediate requests (R116 to R119) -/

/-- LOCATE (R64, R116). -/
def State.locate (s : State) (i : Fin 32) : State × Result :=
  match listedSlotA s.cue i with
  | none => (s, refusedWith .badSlot)
  | some x => (s.setCurrent x, { code := .ok, a := slotDWord x, b := 0 })

/-- CADENCE ALIGN (R25, R116). -/
def State.cadenceAlign (s : State) : State × Result :=
  ({ s with sequencer := { s.sequencer with alignPending := true } }, { code := .ok, a := 0, b := 0 })

/-- PULSE CHANNEL (R117). RESULT A is the eight flags as read (DEDUCED, log 32). -/
def State.pulseChannel (s : State) (i : Fin 32) : State × Result :=
  (s.pulseChannels (operandChannels s.cue i),
    { code := .ok, a := wordDWord (entryWord s.cue i 33 &&& 0x00FF), b := 0 })

/-- The probe's input codes (R91, R104). -/
def probeInputs (v : Vector Int 3) : Vector Int 3 := Vector.ofFn fun k => clampInt 0 1023 v[k]

/-- A probe carried out with a set of ten parameters (R91, R118). -/
def State.probeWith (s : State) (i : Fin 32) (g : Grade) : State × Result :=
  let raw := operandProbe s.cue i
  let v := probeInputs raw
  let out := transform g s.setup v[0] v[1] v[2]
  ({ s with
      cue :=
        Memory.writeAll s.cue
          (cellsFrom (entryBase i + 36) [signedWord out.red, signedWord out.green, signedWord out.blue, signedWord out.luma]) },
    { code := okOr (decide (v ≠ raw)), a := 0, b := 0 })

/-- PROBE (R91, R118). -/
def State.probe (s : State) (i : Fin 32) : State × Result :=
  if entryWord s.cue i 32 = 0 then s.probeWith i s.engine.coefficients
  else if entryWord s.cue i 32 = 1 then
    match listedSlotA s.cue i with
    | none => (s, refusedWith .badSlot)
    | some x => s.probeWith i (sceneGrade s.cue x)
  else (s, refusedWith .badKind)

/-- The result of a pass request: the pass state and condition as they stand (R119). -/
def State.passResult (s : State) (c : ResultCode) : Result where
  code := c
  a := natDWord s.pass.state.code
  b := natDWord s.pass.condition.code

/-- A pass request carried out: the change made, its report handed, the result formed (R119, R150). -/
def passDone (c : State × List Record) : State × Result :=
  let s := c.1.handEach c.2
  (s, s.passResult .ok)

/-- The pass as START PASS sets it (R138). -/
def Pass.started (inFrame : Int) (count : Nat) : Pass where
  state := .cued
  condition := .none
  inFrame := inFrame
  requested := count
  recorded := 0
  remaining := count
  openEnded := decide (count = 0)
  stopPending := false
  startFieldCount := 0
  expected := inFrame

/-- IDLE, COMPLETE or FAULTED: START PASS is taken from these (R119). -/
def PassState.startable : PassState → Bool
  | .idle => true
  | .complete => true
  | .faulted => true
  | _ => false

/-- START PASS (R119, R138). -/
def State.startPass (s : State) (i : Fin 32) : State × Result :=
  let p := operandPosition s.cue i
  if s.pass.state.startable = false then (s, s.passResult .notNow)
  else if frameInRange p = false then (s, s.passResult .badPosition)
  else passDone (s.changePass (Pass.started p (operandCount s.cue i)))

/-- STOP PASS (R119, R142). -/
def State.stopPass (s : State) : State × Result :=
  if s.pass.state = .recording then (s.setStopPending, s.setStopPending.passResult .ok)
  else (s, s.passResult .notNow)

/-- RESUME PASS (R119, R143). -/
def State.resumePass (s : State) : State × Result :=
  if s.pass.state = .paused then
    passDone (s.changePass { s.pass with state := .cued, condition := .none, inFrame := s.pass.expected })
  else (s, s.passResult .notNow)

/-- ABANDON PASS (R119, R144). -/
def State.abandonPass (s : State) : State × Result :=
  match s.pass.state with
  | .recording => passDone (s.faultPass .abandoned)
  | .cued => passDone (s.changePass { s.pass with state := .idle, condition := .abandoned })
  | .paused => passDone (s.changePass { s.pass with state := .idle, condition := .abandoned })
  | _ => (s, s.passResult .notNow)

end Sys2Proof.Machine
end

