-- ==== Sys2Proof/Machine/Ripple.lean ====
section
/-! DEFINITION. The ripple, the split, the scan of the request table and the handling of an ACTIVE START (R99 to R103,
R123 to R135). -/

namespace Sys2Proof.Machine

/-! ### The ripple (R123 to R128, R130) -/

/-- The ripple record replaced. -/
def State.setRipple (s : State) (r : Option Ripple) : State := { s with requests := { s.requests with ripple := r } }

/-- A ripple ends: its entry is finished with its counts, and no ripple is in flight (R128). -/
def State.endRipple (s : State) (r : Ripple) (c : ResultCode) : State :=
  (s.finishEntry r.entry { code := c, a := natDWord r.done, b := natDWord r.clamped }).setRipple none

/-- The number the next ripple takes (R124). -/
def nextRippleNumber (counter : Word) : Word := if counter = 0xFFFF then 1 else counter + 1

/-- The record of a ripple at its take (R123, R124). -/
def State.newRipple (s : State) (i : Fin 32) (a b : Slot) : Ripple where
  entry := i
  number := nextRippleNumber s.requests.rippleCounter
  next := a
  last := b
  step := s.setup.rippleStep
  mask := operandMask s.cue i
  deltas := operandGrade s.cue i
  done := 0
  clamped := 0

/-- A slot of the on-air set lies in a run of scenes while RECORDING (R72, R124). -/
def State.runOnAir (s : State) (a b : Slot) : Bool :=
  s.recording && (sceneRun s.cue b 1024 a).any fun x => s.onAirHolds x

/-- RIPPLE taken: refused and finished, or left TAKEN as the ripple in flight (R124). -/
def State.takeRipple (s : State) (i : Fin 32) : State :=
  match (operandSlotA s.cue i).filter fun x => listed s.cue x, (operandSlotB s.cue i).filter fun x => listed s.cue x with
  | some a, some b =>
    if sceneStart s.cue b < sceneStart s.cue a then s.finishEntry i (refusedWith .badSlot)
    else if s.runOnAir a b then s.finishEntry i s.onAirRefusal
    else
      { s with
        cue := Memory.write s.cue (entryBase i) stateTaken
        requests :=
          { s.requests with
            ripple := some (s.newRipple i a b)
            rippleCounter := nextRippleNumber s.requests.rippleCounter } }
  | _, _ => s.finishEntry i (refusedWith .badSlot)

/-- CANCEL RIPPLE (R130). -/
def State.cancelRipple (s : State) : State × Result :=
  match s.requests.ripple with
  | none => (s, refusedWith .notNow)
  | some r =>
    (s.endRipple r .aborted,
      { code := .ok, a := natDWord r.entry.val, b := wordDWord r.number })

/-- What follows a visit: the ripple ends at its end slot, and otherwise moves to NEXT of the scene visited (R125,
R128). -/
def State.afterVisit (s : State) (r : Ripple) : State :=
  if r.next = r.last then s.endRipple r (okOr (decide (r.clamped ≠ 0)))
  else s.setRipple (some { r with next := (sceneNext s.cue r.next).getD r.next })

/-- The cells a visit writes: the masked sums, then the mark (R126). -/
def visitCells (m : Memory) (r : Ripple) : List (Nat × Word) :=
  maskedGradeCells r.next r.mask (clampGrade (addGrade (sceneGrade m r.next) r.deltas)) ++
    [(slotBase r.next + 8, r.number)]

/-- The memory after a visit that applies the deltas; the serial is written last, and only where a flag is set (R47,
R126). -/
def visitMemory (m : Memory) (r : Ripple) : Memory :=
  if anyFlag r.mask then editScene m r.next (visitCells m r) else Memory.writeAll m (visitCells m r)

/-- One visit (R126, R127). -/
def State.visit (s : State) (r : Ripple) : State :=
  if sceneMark s.cue r.next = r.number then s.afterVisit r
  else if s.slotOnAir r.next then s.endRipple r .onAir
  else
    State.afterVisit { s with cue := visitMemory s.cue r }
      { r with
        done := r.done + 1
        clamped := r.clamped + clampCount r.mask (addGrade (sceneGrade s.cue r.next) r.deltas) }

/-- Up to `fuel` visits of the ripple in flight (R125). -/
def State.visits : Nat → State → State
  | 0, s => s
  | fuel + 1, s =>
    match s.requests.ripple with
    | some r => State.visits fuel (s.visit r)
    | none => s

/-- The first visits of one ACTIVE START, at most so many and never more than the ripple's step (R125). -/
def State.rippleVisitsUpTo (n : Nat) (s : State) : State :=
  match s.requests.ripple with
  | some r => State.visits (min n r.step) s
  | none => s

/-- The visits of one ACTIVE START: up to the ripple's step (R125). -/
def State.rippleVisits (s : State) : State :=
  match s.requests.ripple with
  | some r => State.visits r.step s
  | none => s

/-! ### The split (R132 to R135) -/

/-- The reasons of a SPLIT record (R134, R186). -/
inductive SplitReason where
  | ok
  | duplicate
  | onAir
  | full
  | busy
  deriving DecidableEq, Repr

/-- The code of a reason (R186). -/
def SplitReason.code : SplitReason → Word
  | .ok => 0
  | .duplicate => 1
  | .onAir => 2
  | .full => 3
  | .busy => 4

/-- The SPLIT record (R134, R186). -/
def splitRecord (frame : Int) (slot : Option Slot) (serial : Word) (reason : SplitReason) (covering : Option Slot)
    (mark : Word) (baked : Bool) (clamped : Nat) : Record where
  kind := .split
  frame := frame
  slot := slot
  serial := serial
  detail := [reason.code, slotWord covering, mark, boolWord baked, natWord clamped]

/-- A split dropped at execution: only its report (R133, R134). -/
def dropSplit (frame : Int) (reason : SplitReason) (covering : Slot) : Record :=
  splitRecord frame none 0 reason (some covering) 0 false 0

/-- The trim is baked into the new scene's grade (R133). -/
def State.bakesTrim (s : State) : Bool := s.setup.splitBakesTrim && s.engine.enable

/-- The grade of the new scene before clamping: the covering scene's, with the trim where it is baked (R133). -/
def State.splitSums (s : State) (cover : Slot) : Grade :=
  if s.bakesTrim then addGrade (sceneGrade s.cue cover) s.engine.deltas else sceneGrade s.cue cover

/-- The grade of the new scene (R133). -/
def State.splitGrade (s : State) (cover : Slot) : Grade :=
  if s.bakesTrim then clampGrade (s.splitSums cover) else sceneGrade s.cue cover

/-- The sums a baked split clamps (R134). -/
def State.splitClamped (s : State) (cover : Slot) : Nat :=
  if s.bakesTrim then clampCount fullMask (s.splitSums cover) else 0

/-- The ripple after a split: when the covering scene is the one last visited, whose NEXT is the ripple's next slot, the
new scene becomes the next slot (R129; DEDUCED, log 20). -/
def rippleAfterSplit (m : Memory) (cover x : Slot) (r : Option Ripple) : Option Ripple :=
  r.map fun q => if sceneNext m cover = some q.next then { q with next := x } else q

/-- A split made: the new scene, and the ripple's next slot (R129, R133). -/
def State.makeSplit (s : State) (frame : Int) (cover x : Slot) (rest : List Slot) : State :=
  let made := s.makeScene x rest frame 0 originSplit (sceneMark s.cue cover) none (s.splitGrade cover)
  made.setRipple (rippleAfterSplit s.cue cover x s.requests.ripple)

/-- The pending split executed at a frame (R133). -/
def State.split (s : State) (frame : Int) : State :=
  match startingAt s.cue frame with
  | some x => s.hand (dropSplit frame .duplicate x)
  | none =>
    let cover := coveringScene s.cue frame
    if s.recording then s.hand (dropSplit frame .onAir cover)
    else
      match s.requests.freeStack with
      | [] => s.hand (dropSplit frame .full cover)
      | x :: rest =>
        let made := s.makeSplit frame cover x rest
        made.hand
          (splitRecord frame (some x) (sceneSerial made.cue x) .ok (some cover) (sceneMark s.cue cover) s.bakesTrim
            (s.splitClamped cover))

/-- The split pending set or cleared. -/
def State.setSplitPending (s : State) (f : Option Int) : State :=
  { s with requests := { s.requests with splitPending := f } }

/-- The first part of an ACTIVE START: the split pending, if there is one (R99, R133). -/
def State.executeSplit (s : State) : State :=
  match s.requests.splitPending with
  | some frame => (s.setSplitPending none).split frame
  | none => s

/-- A SPLIT pulse presented at a FIELD START (R132). -/
def State.splitPulse (s : State) (pulse : Bool) : State × List Record :=
  if pulse ∧ s.port.run = .running then
    match s.requests.splitPending with
    | none => (s.setSplitPending (some s.sequencer.fieldFrame), [])
    | some _ => (s, [splitRecord s.sequencer.fieldFrame none 0 .busy none 0 false 0])
  else (s, [])

/-! ### The scan (R100 to R103) -/

/-- An entry finished with what its request answered. -/
def finishWith (i : Fin 32) (answer : State × Result) : State := answer.1.finishEntry i answer.2

/-- One entry taken and carried out (R101, R102). -/
def State.takeEntry (s : State) (i : Fin 32) : State :=
  match requestKind (entryWord s.cue i 1) with
  | some .insertScene => finishWith i (s.insertScene i)
  | some .deleteScene => finishWith i (s.deleteScene i)
  | some .moveScene => finishWith i (s.moveScene i)
  | some .regradeScene => finishWith i (s.regradeScene i)
  | some .setDissolve => finishWith i (s.setDissolve i)
  | some .storeLive => finishWith i (s.storeLive i)
  | some .ripple => s.takeRipple i
  | some .clearList => finishWith i s.clearList
  | some .applySetup => finishWith i s.applySetup
  | some .locate => finishWith i (s.locate i)
  | some .pulseChannel => finishWith i (s.pulseChannel i)
  | some .startPass => finishWith i (s.startPass i)
  | some .stopPass => finishWith i s.stopPass
  | some .resumePass => finishWith i s.resumePass
  | some .abandonPass => finishWith i s.abandonPass
  | some .cadenceAlign => finishWith i s.cadenceAlign
  | some .probe => finishWith i (s.probe i)
  | some .cancelRipple => finishWith i s.cancelRipple
  | none => s.finishEntry i (refusedWith .badKind)

/-- The take index advanced by 1 modulo 32 (R100). -/
def State.advanceTake (s : State) : State :=
  { s with requests := { s.requests with takeIndex := s.requests.takeIndex + 1 } }

/-- The scan stops at the entry the take index names (R100). -/
def State.scanStops (s : State) : Bool :=
  entryWord s.cue s.requests.takeIndex 0 != statePosted ||
    (entryIsEdit s.cue s.requests.takeIndex && s.requests.ripple.isSome)

/-- The scan, with at most `fuel` entries still to take (R100). -/
def State.scan : Nat → State → State
  | 0, s => s
  | fuel + 1, s => if s.scanStops then s else State.scan fuel ((s.takeEntry s.requests.takeIndex).advanceTake)

/-- REQUEST NOTIFY raised after the handling, if an entry called for it (R103). It waits for its FIELD START (R152). -/
def State.raiseNotify (s : State) : State :=
  if s.requests.notifyDue then
    { s with
      requests := { s.requests with notifyDue := false }
      matrix := { s.matrix with notifyWaiting := true } }
  else s

/-- The active-start flag taken, as an ACTIVE START that finds it open does (R22). -/
def State.takeActiveFlag (s : State) : State := { s with sequencer := { s.sequencer with activeStartTaken := true } }

/-- The handling of an ACTIVE START: the pending split, the scan of at most four entries, the ripple's visits, REQUEST
NOTIFY (R99, R100). -/
def State.handleActiveStart (s : State) : State := ((State.scan 4 s.executeSplit).rippleVisits).raiseNotify

/-! ### Run-start initialisation of the request table (R122) -/

/-- One entry finished ABORTED where it stands TAKEN (R122). -/
def State.abortTaken (s : State) (i : Fin 32) : State :=
  if entryWord s.cue i 0 = stateTaken then s.finishEntry i (refusedWith .aborted) else s

/-- Every TAKEN entry finished, in index order from 0 to 31 (R122). -/
def State.abortAllTaken (s : State) : State := (List.finRange 32).foldl State.abortTaken s

end Sys2Proof.Machine
end

