-- ==== Sys2Proof/Machine/HostPort.lean ====
section
/-! DEFINITION. The host port: registers, the memory pointer, DATA accesses, regions and the pair latch (R172 to R177). -/

namespace Sys2Proof.Machine

/-! ### Regions (R96, R174) -/

/-- The request entry an address falls in, for an address of the request table. -/
def entryOfAddress (a : Nat) : Fin 32 := Fin.ofNat 32 ((a - requestBase) / 64)

/-- A host write to the request table is made: its entry is not TAKEN, and a STATE word is written FREE or POSTED
(R96). -/
def requestWriteMade (m : Memory) (a : Nat) (value : Word) : Bool :=
  entryWord m (entryOfAddress a) 0 != stateTaken &&
    ((a - requestBase) % 64 != 0 || value == stateFree || value == statePosted)

/-- A host write through DATA is made, rather than discarded (R174). -/
def hostWriteMade (m : Memory) (a : Nat) (value : Word) : Bool :=
  if a < 0x100 then true
  else if a < 0x200 then false
  else if a < 0x300 then true
  else if a < 0x400 then false
  else if a < 0xC00 then requestWriteMade m a value
  else if a < 0x1000 then true
  else if a < 0xB000 then false
  else true

/-! ### The pair latch (R175) -/

/-- The high words of the 32-bit values of the status block and the pass block (R183). -/
def pairHighWords : List Nat := [0x100, 0x102, 0x11F, 0x302, 0x304, 0x306, 0x308, 0x30B, 0x30E]

/-- What the latch holds after a DATA read made of an address: a capture of the low word, at a high word, and nothing
elsewhere (R175). -/
def latchAfterRead (m : Memory) (a : Addr) : Option (Addr × Word) :=
  if a.toNat ∈ pairHighWords then some (a + 1, Memory.read m (a.toNat + 1)) else none

/-- What a DATA read returns: the captured value at the captured address, the word at the pointer elsewhere (R175). -/
def State.dataValue (s : State) : Word :=
  match s.port.latch with
  | some (a, v) => if a = s.port.pointer then v else Memory.read s.cue s.port.pointer.toNat
  | none => Memory.read s.cue s.port.pointer.toNat

/-- The latch after a DATA read at the pointer: emptied by a read of the captured address (R175). -/
def State.dataLatch (s : State) : Option (Addr × Word) :=
  match s.port.latch with
  | some (a, _) => if a = s.port.pointer then none else latchAfterRead s.cue s.port.pointer
  | none => latchAfterRead s.cue s.port.pointer

/-- The pointer advanced by 1, from 0x1FFFF to 0 (R173). -/
def State.advancePointer (s : State) : State := { s with port := { s.port with pointer := s.port.pointer + 1 } }

/-- The value a host read puts on the bus (log 12). -/
def State.drive (s : State) (v : Word) : State := { s with busData := v }

/-! ### The registers by offset (R173) -/

/-- The access that a host read makes, by the three select lines. -/
def hostRead (offset : Fin 8) : Instr :=
  match offset with
  | 0 => .identRead
  | 1 => .registerRead .control
  | 2 => .registerRead .attention
  | 3 => .registerRead .attentionEnable
  | 4 => .registerRead .pointerLow
  | 5 => .registerRead .pointerHigh
  | 6 => .dataRead
  | 7 => .registerRead .reportRelease

/-- The access that a host write makes, by the three select lines and the value. -/
def hostWrite (offset : Fin 8) (value : Word) : Instr :=
  match offset with
  | 0 => .registerWriteOther (.ident value)
  | 1 => .registerWriteOther (.control value)
  | 2 => .attentionWrite value
  | 3 => .attentionEnableWrite value
  | 4 => .pointerLowWrite value
  | 5 => .pointerHighWrite value
  | 6 => .dataWrite value
  | 7 => .reportReleaseWrite value

/-! ### The commands -/

/-- What an IDENT read returns (R177). -/
def IdentNext.value : IdentNext → Word
  | .code => 0x4120
  | .revision => 0x0003

/-- The alternation after an IDENT read (R177). -/
def IdentNext.other : IdentNext → IdentNext
  | .code => .revision
  | .revision => .code

/-- IDENT_READ (R175, R177). -/
def execIdentRead (s : State) : Host.Outcome State Fault Refusal :=
  let read := s.emptyLatch.drive s.port.ident.value
  .next { read with port := { read.port with ident := s.port.ident.other } }

/-- ATTENTION_WRITE: each 1 clears its cause (R173, R176). -/
def execAttentionWrite (value : Word) (s : State) : Host.Outcome State Fault Refusal :=
  let s' := s.emptyLatch
  .next { s' with port := { s'.port with causes := s.port.causes &&& ~~~(value.extractLsb' 0 7) } }

/-- ATTENTION_ENABLE_WRITE: the whole enable set is replaced (R173, R176). -/
def execAttentionEnableWrite (value : Word) (s : State) : Host.Outcome State Fault Refusal :=
  let s' := s.emptyLatch
  .next { s' with port := { s'.port with enables := value.extractLsb' 0 7 } }

/-- POINTER_LOW_WRITE: bits 0–15 replaced, bit 16 as it stands (R173). -/
def execPointerLowWrite (value : Word) (s : State) : Host.Outcome State Fault Refusal :=
  let s' := s.emptyLatch
  .next { s' with port := { s'.port with pointer := s.port.pointer.extractLsb' 16 1 ++ value } }

/-- POINTER_HIGH_WRITE: bit 0 replaces pointer bit 16, bits 0–15 as they stand (R173). -/
def execPointerHighWrite (value : Word) (s : State) : Host.Outcome State Fault Refusal :=
  let s' := s.emptyLatch
  .next { s' with port := { s'.port with pointer := value.extractLsb' 0 1 ++ s.port.pointer.extractLsb' 0 16 } }

/-- DATA_READ (R173, R175). -/
def execDataRead (s : State) : Host.Outcome State Fault Refusal :=
  let read := s.drive s.dataValue
  .next (State.advancePointer { read with port := { read.port with latch := s.dataLatch } })

/-- DATA_WRITE: made, or discarded with the DISCARD cause; the pointer advances either way (R96, R173, R174, R175). -/
def execDataWrite (value : Word) (s : State) : Host.Outcome State Fault Refusal :=
  let s' := s.emptyLatch
  let a := s.port.pointer.toNat
  if hostWriteMade s.cue a value then
    .next (State.advancePointer { s' with cue := Memory.write s.cue a value })
  else .next (s'.setCause .discard).advancePointer

/-- REPORT_RELEASE_WRITE (R169). -/
def execReportReleaseWrite (value : Word) (s : State) : Host.Outcome State Fault Refusal :=
  .next (s.emptyLatch.release value)

/-- REGISTER_READ (R173, R175). -/
def execRegisterRead (register : ReadRegister) (s : State) : Host.Outcome State Fault Refusal :=
  .next (s.emptyLatch.drive (s.registerValue register))

end Sys2Proof.Machine
end

