-- ==== Sys2Proof/Machine/Lines.lean ====
section
/-! DEFINITION. The commands of the general lines: GPI changes and the end of a GPO line's hold (R156, R162). -/

namespace Sys2Proof.Machine

/-- GPI_LINE_CHANGE: the generator follows its line, and so does every channel that selects it (R162). -/
def execGpiLineChange (line : Fin 4) (level : Bool) (s : State) : Host.Outcome State Fault Refusal :=
  .next
    (s.settle
      { s with
        matrix := { s.matrix with gpi := Vector.ofFn fun i => if i = line then level else s.matrix.gpi[i] } })

/-- LINE_HOLD_END: the line returns to its channel's value (R156). A line without a hold is left alone (log 13). -/
def execLineHoldEnd (line : Fin 6) (s : State) : Host.Outcome State Fault Refusal :=
  .next
    { s with
      matrix := { s.matrix with hold := Vector.ofFn fun g => if g = line then none else s.matrix.hold[g] } }

end Sys2Proof.Machine
end

