-- ==== Sys2Proof/Machine/Picture.lean ====
section
/-! DEFINITION. The commands of the picture: pixels, and the word reads of the live trim record (R78, R86). -/

namespace Sys2Proof.Machine

/-- An output code of stage D as PIX OUT carries it. -/
def codeOut (v : Int) : Code := BitVec.ofInt 10 v

/-- PIXEL: transformed under the coefficient set and the set-up in force, in every run state (R85, R86). -/
def execPixel (red green blue : Code) (s : State) : Host.Outcome State Fault Refusal :=
  let out := transform s.engine.coefficients s.setup red.toNat green.toNat blue.toNat
  .next { s with pixOut := { red := codeOut out.red, green := codeOut out.green, blue := codeOut out.blue } }

/-- LIVE_RECORD_WORD_READ: the next word read of the read in progress (R78). With none in progress the part makes no
read (log 4). -/
def execLiveRecordWordRead (s : State) : Host.Outcome State Fault Refusal :=
  match s.engine.read with
  | some read => .next (s.liveWordRead read)
  | none => .next s

end Sys2Proof.Machine
end

