-- ==== Sys2Proof/Machine/Reference.lean ====
section
/-! DEFINITION. The commands of the station reference: FIELD START, ACTIVE START and the reference timer (R21, R22, R29,
R57, R76, R99, R155). -/

namespace Sys2Proof.Machine

/-- The MARK record of a field (R159, R186): the channel MARK is connected to and the generator selected on it. Its EDIT
SERIAL is the tracker's last resolved serial; at a HELD field whose last resolved slot has been edited since, the serial
in the scene table is another, and R159's "that slot's serial after the resolution" could mean it (DESIGN CHOICE, log
35). -/
def State.markRecord (s : State) (c : Fin 8) : Record where
  kind := .mark
  frame := s.sequencer.fieldFrame
  slot := s.onAirSlot
  serial := (s.tracker.lastResolved.map Prod.snd).getD 0
  detail :=
    [natWord c.val, natWord ((s.setup.channelSelection[c].map Generator.number).getD 0), natWord s.pass.state.code] ++
      bothWords (natDWord s.pass.recorded)

/-- The MARK records a pulse of the MARK user hands (R159). -/
def State.markRecords (s : State) (pulse : Bool) : List Record :=
  if pulse then
    match s.setup.userSelection[userMark] with
    | some c => [s.markRecord c]
    | none => []
  else []

/-- The pulses of the field (R31, R67, R152): FIELD START always, FRAME REFERENCE at a cadence-frame start, SCENE CHANGE
as the tracker raised it, REQUEST NOTIFY where one waited. -/
def State.pulsesOfField (s : State) (sceneChange notify : Bool) : Pulses where
  fieldStart := true
  frameReference := s.atFrameStart
  sceneChange := sceneChange
  requestNotify := notify

/-- A FIELD START as every block acts on it (R21, R34). The matrix presents first (R155), which the sequencer's re-phase
needs (R25); the pass controller judges before it takes PASS STOP (R142); MARK carries the field's own values (R159);
the generators are raised before the reports are handed (R33); the grade engine acts last, on the resolution and the
pass state of the field (R76, R80). -/
def State.fieldStart (s0 : State) (id : FieldIdentity) : State :=
  let turned := s0.finishLiveRead.turnInversions
  let presented := turned.formPresentation
  let (placed, sequencer) := presented.takeField id (turned.presentsPulse userCadenceAlign)
  let (cut, splits) := placed.splitPulse (turned.presentsPulse userSplit)
  let resolved := cut.resolve
  let (judged, passes) := resolved.state.judgePass
  let stopped := judged.passStopPulse (turned.presentsPulse userPassStop)
  let marks := stopped.markRecords (turned.presentsPulse userMark)
  let raised := stopped.rollPulses (stopped.pulsesOfField resolved.sceneChange stopped.matrix.notifyWaiting)
  let handed := raised.handTogether [sequencer, splits, resolved.records, passes, marks]
  handed.engineField (turned.presentedValue userTrimHold)

/-- A reference-timer expiry: the sequencer's work, and the fault of a CUED or RECORDING pass (R29, R146). -/
def State.expireReference (s : State) : State :=
  let whole := s.finishLiveRead
  let (lost, sequencer) := whole.loseReference
  let (faulted, controller) := lost.faultPassIf lost.pass.state.live .referenceLost
  faulted.handTogether [sequencer, controller]

/-- An ACTIVE START passed on: the flag is taken, and the request processor acts while RUNNING (R22, R99). It acts too
on the first ACTIVE START after a RESUME that fell between a FIELD START and it, before any resolution follows the
RESUME: R99 and R120 have it handled, while R73 speaks of that ACTIVE START as one that follows the first resolution
(DESIGN CHOICE, log 34). It acts likewise on an ACTIVE START still open at a RUN_START: R55, R99 and R122 have it
handled, so the first status block may show counts that its edits left, while R54 has that block show LISTED COUNT 1 and
FREE COUNT 1023 (DESIGN CHOICE, log 38). -/
def State.passActiveStart (s : State) : State :=
  if s.port.run = .running then s.takeActiveFlag.handleActiveStart else s.takeActiveFlag

/-- FIELD_START (R21). -/
def execFieldStart (identity : FieldIdentity) (s : State) : Host.Outcome State Fault Refusal :=
  .next (s.fieldStart identity)

/-- REFERENCE_TIMER_EXPIRY (R29). A timer that is stopped does not expire (log 13). -/
def execReferenceTimerExpiry (s : State) : Host.Outcome State Fault Refusal :=
  match s.sequencer.timer with
  | .stopped => .next s
  | .running _ => .next s.expireReference

/-- ACTIVE_START: ignored while the active-start flag is taken (R22). -/
def execActiveStart (s : State) : Host.Outcome State Fault Refusal :=
  if s.sequencer.activeStartTaken then .next s else .next s.finishLiveRead.passActiveStart

end Sys2Proof.Machine
end

