-- ==== Sys2Proof/Machine/RunControl.lean ====
section
/-! DEFINITION. Resets, run start, halt and resume (R172, R177 to R180). -/

namespace Sys2Proof.Machine

/-! ### Resets -/

/-- Four line levels as the bits of a number, line 0 in bit 0. -/
def gpiLevels (g : BitVec 4) : Vector Bool 4 := Vector.ofFn fun i => g.getLsbD i.val

/-- The memory a RAM powers up with (log 1). -/
def powerOnMemory (ram : List (Addr × Word)) : Memory := Memory.writeAll [] (ram.map fun c => (c.1.toNat, c.2))

/-- A port reset: every block at its reset values, the levels of the lines and cue memory as they stand; the model's own
outputs, draws and queue stand too (R172, R180; log 27). -/
def State.portReset (s : State) : State :=
  { State.reset with
    position := { State.reset.position with perfA := s.position.perfA, perfB := s.position.perfB }
    matrix := { State.reset.matrix with gpi := s.matrix.gpi }
    cue := s.cue
    busData := s.busData
    pixOut := s.pixOut
    draws := s.draws
    pending := s.pending }

/-- The part as far as an ACTIVE START being handled has brought it when a reset arrives: a live read made whole, the
flag taken, the split executed and some entries taken, or the scan over and some visits made. Where no ACTIVE START
can be in hand, the part not RUNNING or the flag taken, the part as it stands (R99, R131; log 33). -/
def State.untilReset (s : State) (moment : ResetMoment) : State :=
  if s.port.run = .running ∧ s.sequencer.activeStartTaken = false then
    let split := s.finishLiveRead.takeActiveFlag.executeSplit
    match moment with
    | .scan takings => State.scan takings.val split
    | .visits made => (State.scan 4 split).rippleVisitsUpTo made.val
  else s

/-- A power-on reset: every block at its reset values, the levels found on the lines, and the RAM's contents (R1, R162,
R180; log 1). -/
def State.powerOn (s : State) (perfA perfB : Bool) (gpi : BitVec 4) (ram : List (Addr × Word)) : State :=
  { State.reset with
    position := { State.reset.position with perfA := perfA, perfB := perfB }
    matrix := { State.reset.matrix with gpi := gpiLevels gpi }
    cue := powerOnMemory ram
    draws := s.draws
    pending := s.pending }

/-! ### Run start (R178) -/

/-- The scene table and the free stack laid out (R54). -/
def State.layOut (s : State) : State :=
  { s with cue := layOutScenes s.cue, requests := { s.requests with freeStack := fullFreeStack } }

/-- The tracker set, its levels with it (R56, R67). -/
def State.startTracker (s : State) : State := s.settle { s with tracker := Tracker.initial }

/-- The request processor set: TAKEN entries aborted, then its items (R98, R122). No generator is raised for them
(R103). -/
def State.startRequests (s : State) : State :=
  let aborted := s.abortAllTaken
  { aborted with
    requests :=
      { aborted.requests with
        takeIndex := 0, ripple := none, rippleCounter := 0, splitPending := none, notifyDue := false } }

/-- The pass controller set IDLE and the pass block written (R136, R137). -/
def State.startPassController (s : State) : State :=
  let set := s.settle { s with pass := Pass.initial }
  { set with cue := Memory.writeAll set.cue (passCells Pass.initial) }

/-- The run state set. -/
def State.setRun (s : State) (r : RunState) : State := { s with port := { s.port with run := r } }

/-- Run-start initialisation under a set-up, in the order of R178. -/
def State.initialise (s : State) (st : Setup) : State :=
  (((((((s.takeSetup st).setSetupFault none).layOut).startTracker).startRequests).startPassController).startWriter).setRun
    .running

/-- A run start from UNINITIALISED: validation, then initialisation or the SETUP cause (R178). -/
def State.runStart (s : State) : State :=
  match setupFirstInvalid s.cue with
  | some offset => (s.setSetupFault (some offset)).setCause .setup
  | none => s.initialise (readSetup s.cue)

/-! ### Halt and resume (R179) -/

/-- A halt: a field's work in progress is made whole first (R93); the pass is faulted, its report handed while the
writer still writes; then the internal users' flags are cleared and the part is HALTED (R148, R163, R165). -/
def State.halt (s : State) : State :=
  let whole := s.finishLiveRead
  let (faulted, records) := whole.faultPassIf whole.pass.state.live .halted
  ((faulted.handEach records).clearInternalEdges).setRun .halted

/-! ### CONTROL writes (R177; log 11) -/

/-- A CONTROL write with RESET clear and RUN 1. -/
def State.writeRunSet (s : State) : State :=
  match s.port.run with
  | .uninitialised => s.runStart
  | .halted => s.setRun .running
  | .running => s

/-- A CONTROL write with RESET clear and RUN 0. -/
def State.writeRunClear (s : State) : State :=
  match s.port.run with
  | .uninitialised => s
  | .halted => s
  | .running => s.halt

/-- A CONTROL write: bit 15 RESET, bit 0 RUN, the other bits ignored (R173, R177). -/
def State.writeControl (s : State) (value : Word) : State :=
  if value.getLsbD 15 then s.portReset
  else if value.getLsbD 0 then s.writeRunSet
  else s.writeRunClear

/-! ### The commands -/

/-- POWER_ON_RESET (R180). -/
def execPowerOnReset (perfA perfB : Bool) (gpi : BitVec 4) (ram : List (Addr × Word)) (s : State) :
    Host.Outcome State Fault Refusal :=
  .next (s.powerOn perfA perfB gpi ram)

/-- PORT_RESET: a CONTROL write with RESET set, taken between two other events (R177, R180). The same write arriving
while an ACTIVE START is being handled is `OtherWrite.resetWithin` (R99; log 33). -/
def execPortReset (s : State) : Host.Outcome State Fault Refusal := .next s.portReset

/-- RUN_START: a CONTROL write of RUN 1, which UNINITIALISED takes as a run start (R177, R178; log 11). The write
empties the pair latch, as R175 has any write of a register do, though R172 and R178 say that run-start initialisation
leaves the latch as it stands (DESIGN CHOICE, log 37). -/
def execRunStart (s : State) : Host.Outcome State Fault Refusal := .next s.emptyLatch.writeRunSet

/-- HALT: a CONTROL write of RUN 0, which RUNNING takes as a halt (R177, R179; log 11). The write empties the pair
latch, as R175 has any write of a register do, though R172 says that a halt leaves the latch as it stands (DESIGN
CHOICE, log 37). -/
def execHalt (s : State) : Host.Outcome State Fault Refusal := .next s.emptyLatch.writeRunClear

/-- RESUME: a CONTROL write of RUN 1, which HALTED takes as a resume (R177, R179; log 11). The write empties the pair
latch, as R175 has any write of a register do; spec/95 does not list RESUME among the steps R175 bears on (DESIGN
CHOICE, log 37). -/
def execResume (s : State) : Host.Outcome State Fault Refusal := .next s.emptyLatch.writeRunSet

/-- REGISTER_WRITE_OTHER: a write to IDENT changes nothing but the pair latch; a write to CONTROL is taken by the run
state (R173, R175, R177; log 11). One with RESET set that arrives while an ACTIVE START is being handled takes effect
between two takings: what was done before it stands in cue memory, and nothing after it is done (R99, R131, R180; log
33). -/
def execRegisterWriteOther (write : OtherWrite) (s : State) : Host.Outcome State Fault Refusal :=
  match write with
  | .ident _ => .next s.emptyLatch
  | .control value => .next (s.emptyLatch.writeControl value)
  | .resetWithin moment => .next (s.untilReset moment).portReset

end Sys2Proof.Machine
end

