-- ==== Sys2Proof/Machine/Dispatch.lean ====
section
/-! DEFINITION. The one match over the commands: each arm calls its meaning. -/

namespace Sys2Proof.Machine

def exec (i : Instr) (s : State) : Host.Outcome State Fault Refusal :=
  match i with
  | .powerOnReset perfA perfB gpi ram => Sys2Proof.Machine.execPowerOnReset perfA perfB gpi ram s
  | .portReset => Sys2Proof.Machine.execPortReset s
  | .runStart => Sys2Proof.Machine.execRunStart s
  | .halt => Sys2Proof.Machine.execHalt s
  | .resume => Sys2Proof.Machine.execResume s
  | .identRead => Sys2Proof.Machine.execIdentRead s
  | .attentionWrite value => Sys2Proof.Machine.execAttentionWrite value s
  | .attentionEnableWrite value => Sys2Proof.Machine.execAttentionEnableWrite value s
  | .pointerLowWrite value => Sys2Proof.Machine.execPointerLowWrite value s
  | .pointerHighWrite value => Sys2Proof.Machine.execPointerHighWrite value s
  | .registerWriteOther write => Sys2Proof.Machine.execRegisterWriteOther write s
  | .dataRead => Sys2Proof.Machine.execDataRead s
  | .dataWrite value => Sys2Proof.Machine.execDataWrite value s
  | .reportReleaseWrite value => Sys2Proof.Machine.execReportReleaseWrite value s
  | .perfLineChange perfA perfB => Sys2Proof.Machine.execPerfLineChange perfA perfB s
  | .stillnessTimerExpiry => Sys2Proof.Machine.execStillnessTimerExpiry s
  | .edgeReading value valid => Sys2Proof.Machine.execEdgeReading value valid s
  | .fieldStart identity => Sys2Proof.Machine.execFieldStart identity s
  | .referenceTimerExpiry => Sys2Proof.Machine.execReferenceTimerExpiry s
  | .activeStart => Sys2Proof.Machine.execActiveStart s
  | .gpiLineChange line level => Sys2Proof.Machine.execGpiLineChange line level s
  | .lineHoldEnd line => Sys2Proof.Machine.execLineHoldEnd line s
  | .pixel red green blue => Sys2Proof.Machine.execPixel red green blue s
  | .registerRead register => Sys2Proof.Machine.execRegisterRead register s
  | .liveRecordWordRead => Sys2Proof.Machine.execLiveRecordWordRead s

end Sys2Proof.Machine
end

