-- ==== Sys2Proof/Safety.lean ====
section
/-! DEFINITION. The terms the claims use: what a command writes in cue memory, the blocks it may change, what the manual
calls valid, and the laws that every step keeps. -/

namespace Sys2Proof.Machine

/-! ### Cue memory by region -/

/-- Between two memories only addresses of a set change, and the canonical form is kept. -/
def Memory.ChangesWithin (P : Nat → Prop) (m m' : Memory) : Prop :=
  (∀ a, ¬P a → Memory.read m' a = Memory.read m a) ∧ (Memory.wf m = true → Memory.wf m' = true)

/-- The words of the status block that the part writes (R183). -/
def inStatus (a : Nat) : Prop := 0x100 ≤ a ∧ a < 0x122

/-- The words of the pass block that the part writes (R183). -/
def inPassBlock (a : Nat) : Prop := 0x300 ≤ a ∧ a < 0x310

/-- A word of an entry that the part writes: STATE, RESULT CODE, RESULT A, RESULT B, PROBE OUTPUT (R95, R184). -/
def resultWord (k : Nat) : Prop := k = 0 ∨ (3 ≤ k ∧ k ≤ 7) ∨ (36 ≤ k ∧ k ≤ 39)

/-- The words of one entry that the part writes. -/
def inEntryResults (i : Fin 32) (a : Nat) : Prop := ∃ k, resultWord k ∧ a = entryBase i + k

/-- The words of the request table that the part writes. -/
def inResults (a : Nat) : Prop := ∃ i, inEntryResults i a

/-- The words of an entry. -/
def inEntry (i : Fin 32) (a : Nat) : Prop := entryBase i ≤ a ∧ a < entryBase i + 64

/-- The words of the scene table (R36). -/
def inScenes (a : Nat) : Prop := 0x1000 ≤ a ∧ a < 0x9000

/-- The words of a slot. -/
def inSlot (x : Slot) (a : Nat) : Prop := slotBase x ≤ a ∧ a < slotBase x + 32

/-- The words of a slot that an edit may write: words 0 to 21 (R185). -/
def inSlotFields (x : Slot) (a : Nat) : Prop := slotBase x ≤ a ∧ a < slotBase x + 22

/-- The words of the scene table that edits may write. -/
def inSceneFields (a : Nat) : Prop := ∃ x, inSlotFields x a

/-- The words of the report ring (R166). -/
def inRing (a : Nat) : Prop := 0x9000 ≤ a ∧ a < 0xB000

/-- The words the part may ever write: its own regions, and its words of the request entries (R95, R174, R183). -/
def partWrites (a : Nat) : Prop :=
  inStatus a ∨ inPassBlock a ∨ inResults a ∨ inScenes a ∨ inRing a

/-- The regions whose words the host may always write: the set-up block, the live trim record, the unused words, the
host area (R174). -/
def hostOwned (a : Nat) : Prop := a < 0x100 ∨ (0x200 ≤ a ∧ a < 0x300) ∨ (0xC00 ≤ a ∧ a < 0x1000) ∨ 0xB000 ≤ a

/-! ### The blocks -/

/-- A part of the state, as a frame speaks of it. -/
inductive Block where
  | position
  | sequencer
  | tracker
  | engine
  | requests
  | pass
  | matrix
  | writer
  | causes
  | enables
  | run
  | pointer
  | latch
  | ident
  | setup
  | cue
  | busData
  | pixOut
  deriving DecidableEq, Repr

/-- Two states agree in a block. -/
def State.agrees (s t : State) : Block → Prop
  | .position => t.position = s.position
  | .sequencer => t.sequencer = s.sequencer
  | .tracker => t.tracker = s.tracker
  | .engine => t.engine = s.engine
  | .requests => t.requests = s.requests
  | .pass => t.pass = s.pass
  | .matrix => t.matrix = s.matrix
  | .writer => t.writer = s.writer
  | .causes => t.port.causes = s.port.causes
  | .enables => t.port.enables = s.port.enables
  | .run => t.port.run = s.port.run
  | .pointer => t.port.pointer = s.port.pointer
  | .latch => t.port.latch = s.port.latch
  | .ident => t.port.ident = s.port.ident
  | .setup => t.setup = s.setup
  | .cue => t.cue = s.cue
  | .busData => t.busData = s.busData
  | .pixOut => t.pixOut = s.pixOut

/-- The blocks a command may change, in any state; a CONTROL write is given the blocks of the run control it may make
(R177 to R180). -/
def mayChange : Instr → Block → Bool
  | .powerOnReset .., _ => true
  | .portReset, b => b != .cue && b != .busData && b != .pixOut
  | .runStart, b => b != .engine && b != .pointer && b != .ident && b != .enables && b != .busData && b != .pixOut
  | .resume, b => b != .engine && b != .pointer && b != .ident && b != .enables && b != .busData && b != .pixOut
  | .halt, b =>
    b == .engine || b == .pass || b == .matrix || b == .writer || b == .causes || b == .run || b == .latch || b == .cue
  | .registerWriteOther (.ident _), b => b == .latch
  | .registerWriteOther (.control _), b => b != .busData && b != .pixOut
  | .registerWriteOther (.resetWithin _), b => b != .busData && b != .pixOut
  | .identRead, b => b == .latch || b == .ident || b == .busData
  | .attentionWrite _, b => b == .latch || b == .causes
  | .attentionEnableWrite _, b => b == .latch || b == .enables
  | .pointerLowWrite _, b => b == .latch || b == .pointer
  | .pointerHighWrite _, b => b == .latch || b == .pointer
  | .dataRead, b => b == .latch || b == .pointer || b == .busData
  | .dataWrite _, b => b == .latch || b == .pointer || b == .cue || b == .causes
  | .reportReleaseWrite _, b => b == .latch || b == .writer || b == .causes
  | .registerRead _, b => b == .latch || b == .busData
  | .perfLineChange .., b => b == .position || b == .matrix || b == .writer || b == .causes || b == .cue
  | .stillnessTimerExpiry, b => b == .position
  | .edgeReading .., b =>
    b == .position || b == .matrix || b == .pass || b == .writer || b == .causes || b == .cue
  | .fieldStart _, b =>
    b == .sequencer || b == .tracker || b == .engine || b == .requests || b == .pass || b == .matrix || b == .writer ||
      b == .causes || b == .cue
  | .referenceTimerExpiry, b =>
    b == .sequencer || b == .engine || b == .pass || b == .matrix || b == .writer || b == .causes || b == .cue
  | .activeStart, b =>
    b == .position || b == .sequencer || b == .tracker || b == .engine || b == .requests || b == .pass || b == .matrix ||
      b == .writer || b == .causes || b == .setup || b == .cue
  | .gpiLineChange .., b => b == .matrix
  | .lineHoldEnd _, b => b == .matrix
  | .pixel .., b => b == .pixOut
  | .liveRecordWordRead, b => b == .engine || b == .writer || b == .causes || b == .cue

/-- A command that is an access of the host, other than one that resets the part (R173, R175, R180). -/
def hostAccess : Instr → Bool
  | .runStart => true
  | .halt => true
  | .resume => true
  | .identRead => true
  | .attentionWrite _ => true
  | .attentionEnableWrite _ => true
  | .pointerLowWrite _ => true
  | .pointerHighWrite _ => true
  | .registerWriteOther _ => true
  | .dataRead => true
  | .dataWrite _ => true
  | .reportReleaseWrite _ => true
  | .registerRead _ => true
  | .powerOnReset .. => false
  | .portReset => false
  | .perfLineChange .. => false
  | .stillnessTimerExpiry => false
  | .edgeReading .. => false
  | .fieldStart _ => false
  | .referenceTimerExpiry => false
  | .activeStart => false
  | .gpiLineChange .. => false
  | .lineHoldEnd _ => false
  | .pixel .. => false
  | .liveRecordWordRead => false

/-- A command that is neither an access of the host nor a reset: an event of a line, of a timer or of the part. -/
def partEvent (c : Instr) : Bool :=
  match c with
  | .powerOnReset .. => false
  | .portReset => false
  | _ => !hostAccess c

/-- Commands carried out one after another. -/
def runAll : List Instr → State → Host.Outcome State Fault Refusal
  | [], s => .next s
  | c :: rest, s =>
    match exec c s with
    | .next t => runAll rest t
    | .fault r => .fault r
    | .refused r => .refused r

/-! ### Attention by bit (R173, R176) -/

/-- The register bit number of a cause (R173). -/
def Cause.bit : Cause → Nat
  | .request => 0
  | .report => 1
  | .pass => 2
  | .fault => 3
  | .discard => 4
  | .stale => 5
  | .setup => 6

/-- A cause is enabled. -/
def State.causeEnabled (s : State) (c : Cause) : Bool := s.port.enables.getLsbD c.bit

/-! ### Ranges -/

/-- A frame of the position range (R3). -/
def inRange (f : Int) : Prop := -65536 ≤ f ∧ f ≤ 1048575

/-- A value in the range of the k-th grade parameter (R37). -/
def paramInRange (k : Fin 10) (v : Int) : Prop :=
  if 3 ≤ k.val ∧ k.val ≤ 5 then 0 ≤ v ∧ v ≤ 4095 else if k.val = 9 then 0 ≤ v ∧ v ≤ 511 else -512 ≤ v ∧ v ≤ 511

/-- Ten values, each in its range. -/
def gradeInRange (g : Grade) : Prop := ∀ k : Fin 10, paramInRange k g[k]

/-- The valid values of a word of the set-up block, as the table of R114 gives them. `clipLow` is the word at offset
10. -/
def validSetupWord (offset : Nat) (w clipLow : Word) : Prop :=
  (offset = 0 → w = 1 ∨ w = 3 ∨ w = 4) ∧
  ((offset = 1 ∨ offset = 3) → w.toNat ≤ 2) ∧
  ((offset = 2 ∨ offset = 12 ∨ offset = 13) → w = 0 ∨ w = 1) ∧
  (offset = 6 → -64 ≤ w.toInt ∧ w.toInt ≤ 64) ∧
  (offset = 7 → w.toNat ≤ 7) ∧
  (offset = 8 → 1 ≤ w.toNat ∧ w.toNat ≤ 64) ∧
  (offset = 9 → 1 ≤ w.toNat ∧ w.toNat ≤ 32) ∧
  (offset = 10 → w.toNat ≤ 1023) ∧
  (offset = 11 → w.toNat ≤ 1023 ∧ clipLow.toNat < w.toNat) ∧
  (offset = 14 → 1 ≤ w.toNat ∧ w.toNat ≤ 512) ∧
  (offset = 15 → w.toNat < 4) ∧
  (offset = 16 → 1 ≤ w.toNat ∧ w.toNat ≤ 255) ∧
  (17 ≤ offset ∧ offset ≤ 24 → w.toNat ≤ 15) ∧
  (25 ≤ offset ∧ offset ≤ 35 → w.toNat ≤ 8) ∧
  (36 ≤ offset ∧ offset ≤ 41 → w.toNat < 4)

/-- The set-up block stands valid in cue memory (R114). -/
def validSetupBlock (m : Memory) : Prop :=
  ∀ offset, offset < 42 → validSetupWord offset (Memory.read m offset) (Memory.read m 10)

/-! ### Users of the matrix -/

/-- A user takes the rising edges of its channel: a line that is ALIGNED, an internal user unless HALTED (R155, R163).
-/
def State.listens (s : State) (u : Fin 11) : Prop :=
  (∀ h : u.val < 6, (s.setup.gpoMode[u.val]'h).direct = false) ∧ (6 ≤ u.val → s.port.run ≠ .halted)

/-- Between two states the matrix takes a set-up: `t` holds it, `s` the one before (R153, R154, R156, R157). No edge
is counted; an edge-seen flag is cleared where the selection or the mode changes and stands elsewhere. A presented
value stands, but a line made ALIGNED keeps what it drove, before polarity (the model's choice, logs 17 and 36). A
hold ends where the selection, the mode or the channel's level changes, so the line follows its channel. Inversions,
pulses and lines stand, so each channel carries the signal of its new generator. -/
def State.takesSelections (s t : State) : Prop :=
  let before (u : Fin 11) := s.setup.userSelection[u]
  let after (u : Fin 11) := t.setup.userSelection[u]
  (∀ u : Fin 11,
    let mode (st : Setup) : Bool := if h : u.val < 6 then (st.gpoMode[u.val]'h).direct else false
    t.matrix.edgeSeen[u] =
      if before u = after u ∧ mode s.setup = mode t.setup then s.matrix.edgeSeen[u] else false) ∧
  (∀ u : Fin 11, 6 ≤ u.val → t.matrix.presented[u] = s.matrix.presented[u]) ∧
  (∀ g : Fin 6,
    let u := gpoUser g
    let old := s.setup.gpoMode[g]
    let new := t.setup.gpoMode[g]
    (old.direct = false → new.direct = false → t.matrix.presented[u] = s.matrix.presented[u]) ∧
    (old.direct = true → new.direct = false →
      t.matrix.presented[u] = if before u = none then false else Bool.xor (s.gpo g) old.inverted) ∧
    (old.direct = false ∨ new.direct = false ∨ before u ≠ after u → t.matrix.hold[g] = none) ∧
    (∀ c, old.direct = true → new.direct = true → before u = some c → after u = some c →
      t.matrix.hold[g] = if s.channel c = t.channel c then s.matrix.hold[g] else none)) ∧
  (∀ c : Fin 8, t.channel c = Bool.xor (s.signal t.setup.channelSelection[c]) (s.matrix.inversion[c] == .inProgress)) ∧
  t.matrix.gpi = s.matrix.gpi ∧ t.matrix.inversion = s.matrix.inversion ∧ t.matrix.pulses = s.matrix.pulses

/-! ### Records (R150, R166, R186) -/

/-- A record stands at a place of the ring: SEQUENCE, KIND, FIELD COUNT, FRAME, SLOT, EDIT SERIAL, and eight detail
words of which those not given are 0 (R186). -/
def recordStands (m : Memory) (place : Nat) (sequence : Word) (count : DWord) (r : Record) : Prop :=
  Memory.read m place = sequence ∧ Memory.read m (place + 1) = natWord r.kind.code ∧
  Memory.readPair m (place + 2) = count ∧ Memory.readPair m (place + 4) = signedDWord r.frame ∧
  Memory.read m (place + 6) = slotWord r.slot ∧ Memory.read m (place + 7) = r.serial ∧
  ∀ k, k < 8 → Memory.read m (place + 8 + k) = r.detail.getD k 0

/-- The place of the n-th record from the write count on. -/
def Writer.place (w : Writer) (n : Nat) : Nat := 0x9000 + 16 * ((w.writeCount.toNat + n) % 512)

/-- A RUNNING part with no gap outstanding and room for n records more. -/
def State.hasRoom (s : State) (n : Nat) : Prop :=
  s.port.run = .running ∧ s.writer.gap = none ∧ s.writer.unreleased + n ≤ 512

/-- Between two states exactly these records are written, in this order, under the field count of the later state; the
rest of the ring stands (R165, R166). -/
def State.wrote (s t : State) (rs : List Record) : Prop :=
  t.writer =
    { s.writer with
      writeCount := s.writer.writeCount + natWord rs.length, sequence := s.writer.sequence + natWord rs.length } ∧
  (∀ (n : Nat) (r : Record), rs[n]? = some r →
    recordStands t.cue (s.writer.place n) (s.writer.sequence + natWord n) t.sequencer.fieldCount r) ∧
  ∀ a, inRing a → (∀ n, n < rs.length → a < s.writer.place n ∨ s.writer.place n + 16 ≤ a) →
    Memory.read t.cue a = Memory.read s.cue a

/-- The PASS record of a change of pass state, its nine values packed as R186 gives them. -/
def passReport (frame : Int) (before : PassState) (p : Pass) : Record :=
  let inFrame := (p.inFrame % 16777216).toNat
  let expected := (p.expected % 16777216).toNat
  let recorded := min p.recorded 16777215
  let remaining := min p.remaining 16777215
  { kind := .pass, frame := frame, slot := none, serial := 0
    detail :=
      [natWord (before.code * 4096 + p.state.code * 256 + (if p.openEnded then 128 else 0) + p.condition.code),
        natWord (inFrame / 256), natWord (inFrame % 256 * 256 + expected / 65536), natWord (expected % 65536),
        natWord (recorded / 256), natWord (recorded % 256 * 256 + remaining / 65536), natWord (remaining % 65536),
        natWord (p.startFieldCount.toNat % 65536)] }

/-- The LOCK record of a change of lock state: cause 1 BAD FIELD, 2 UNPHASED, 3 REFERENCE; where the first-field frame
is absent its words are whatever `absent` is (log 8). -/
def lockReport (frame : Int) (locked : Bool) (cause : Word) (phase : Option Nat) (first : Option Int) (absent : DWord) :
    Record where
  kind := .lock
  frame := frame
  slot := none
  serial := 0
  detail :=
    [if locked then 1 else 0, cause, match phase with | some p => natWord p | none => 0x00FF] ++
      bothWords (match first with | some x => signedDWord x | none => absent) ++ [if first.isSome then 1 else 0]

/-! ### One request at an ACTIVE START (R99 to R103) -/

/-- An open ACTIVE START of a RUNNING part that has one request to take: no read of the live trim record in progress, no
split pending, no ripple in flight; the entry at the take index is POSTED with a kind, and the entry after it is not
POSTED. -/
def State.OneRequest (s : State) (i : Fin 32) (kind : Nat) : Prop :=
  s.port.run = .running ∧ s.sequencer.activeStartTaken = false ∧ s.engine.read = none ∧
  s.requests.splitPending = none ∧ s.requests.ripple = none ∧ s.requests.notifyDue = false ∧
  s.requests.takeIndex = i ∧ entryWord s.cue i 0 = 1 ∧ (entryWord s.cue i 1).toNat = kind ∧
  entryWord s.cue (i + 1) 0 ≠ 1

/-- The NOTIFY flag of an entry (R184). -/
def notifyFlag (m : Memory) (i : Fin 32) : Bool := (entryWord m i 2).getLsbD 0

/-- An entry stands finished with a code and two results: DONE for OK and OK_CLAMPED, REFUSED for any other (R97). -/
def finished (m : Memory) (i : Fin 32) (code : Nat) (a b : DWord) : Prop :=
  entryWord m i 0 = (if code ≤ 1 then 3 else 4) ∧ entryWord m i 3 = natWord code ∧
  Memory.readPair m (entryBase i + 4) = a ∧ Memory.readPair m (entryBase i + 6) = b

/-- What taking one request leaves alone, whatever the request: the take index advances, the active-start flag is taken,
NOTIFY sets the REQUEST cause and leaves REQUEST NOTIFY waiting; in cue memory only the entry's result words and
`touched` may change. The tracker, the free stack and the setup fault value are left to the request. -/
def State.AfterRequest (s t : State) (i : Fin 32) (touched : Nat → Prop) : Prop :=
  t.sequencer = { s.sequencer with activeStartTaken := true } ∧ t.position = s.position ∧ t.engine = s.engine ∧
  t.pass = s.pass ∧ t.writer = s.writer ∧ t.setup = s.setup ∧ t.busData = s.busData ∧ t.pixOut = s.pixOut ∧
  t.pending = s.pending ∧
  t.port = { s.port with causes := if notifyFlag s.cue i then s.port.causes ||| Cause.request.mask else s.port.causes } ∧
  t.matrix = { s.matrix with notifyWaiting := s.matrix.notifyWaiting || notifyFlag s.cue i } ∧
  t.requests =
    { s.requests with
      takeIndex := i + 1, freeStack := t.requests.freeStack, setupFault := t.requests.setupFault } ∧
  ∀ a, ¬inEntryResults i a → ¬touched a → Memory.read t.cue a = Memory.read s.cue a

/-- A scene edit is not refused for the on-air set: no pass records, or the slot and the position lie outside it
(R105). -/
def State.freeToEdit (s : State) (x : Slot) : Prop := s.pass.state = .recording → s.onAirHolds x = false

/-- A START may be placed at a position: no pass records, or the on-air slot is absent or not listed, or the position is
outside its interval (R71, R105). -/
def State.freeToPlace (s : State) (p : Int) : Prop :=
  s.pass.state = .recording → ∀ (a : Slot) (serial : Word), s.tracker.lastResolved = some (a, serial) →
    listed s.cue a = true → sceneStart s.cue a < p → ∃ y, sceneNext s.cue a = some y ∧ sceneStart s.cue y ≤ p

/-- How many of the flagged values clamping to the parameters' ranges changes (R104). -/
def clampedAmong (flag : Fin 10 → Bool) (value : Fin 10 → Int) : Nat :=
  (List.finRange 10).countP fun k => flag k && decide (clampParam k (value k) ≠ value k)

/-- What one ACTIVE START's visits of a ripple do, from the a-th toward the b-th scene of the list (R125, R126, R128).
Of the scenes within its step, those that do not carry its number get each masked delta added to the parameter,
clamped, the number as mark, and a serial one higher where a flag is set; no other slot changes. At the end slot its
entry finishes OK or OK_CLAMPED with the counts; short of it the ripple goes on with them from the next scene. -/
def State.visitsMade (s t : State) (r : Ripple) (l : List Slot) (a b : Nat) : Prop :=
  let visited := ((l.drop a).take (min (b - a + 1) r.step)).filter fun x => sceneMark s.cue x != r.number
  let sum (x : Slot) (k : Fin 10) : Int := (sceneGrade s.cue x)[k] + r.deltas[k]
  let done := r.done + visited.length
  let clamped := r.clamped + (visited.map fun x => clampedAmong (fun k => r.mask[k]) (sum x)).sum
  (∀ x ∈ visited,
    (∀ k : Fin 10,
      slotWordAt t.cue x (12 + k.val) =
        if r.mask[k] = true then signedWord (clampParam k (sum x k)) else slotWordAt s.cue x (12 + k.val)) ∧
    sceneMark t.cue x = r.number ∧
    slotWordAt t.cue x 7 = slotWordAt s.cue x 7 + (if ∃ k : Fin 10, r.mask[k] = true then 1 else 0) ∧
    ∀ w, w < 32 → w ≠ 7 → w ≠ 8 → (w < 12 ∨ 22 ≤ w) → slotWordAt t.cue x w = slotWordAt s.cue x w) ∧
  (∀ x, x ∉ visited → ∀ w, w < 32 → slotWordAt t.cue x w = slotWordAt s.cue x w) ∧
  (b - a + 1 ≤ r.step →
    t.requests.ripple = none ∧ finished t.cue r.entry (if clamped = 0 then 0 else 1) (natDWord done) (natDWord clamped) ∧
    (notifyFlag s.cue r.entry = true → t.causeSet .request = true ∧ t.matrix.notifyWaiting = true)) ∧
  (r.step < b - a + 1 →
    entryWord t.cue r.entry 0 = 2 ∧
    ∃ x, l[a + r.step]? = some x ∧ t.requests.ripple = some { r with next := x, done := done, clamped := clamped })

/-! ### The coefficient set and the status block -/

/-- The effective value of a parameter at a RESOLVED field: the scene's, or while dissolving the rounded weight of the
way from the predecessor's (R82). -/
def effectiveValue (m : Memory) (r : Resolution) (k : Fin 10) : Int :=
  match r.dissolving, r.predecessor with
  | true, some p =>
    (sceneGrade m p)[k] + roundDiv (((sceneGrade m r.slot)[k] - (sceneGrade m p)[k]) * r.n) (r.dEff + 1)
  | _, _ => (sceneGrade m r.slot)[k]

/-- The coefficient set after a field's coefficient step: built from a RESOLVED field, with the trim in force added and
clamped where ENABLE is on; kept for a HELD field and where there is no resolution (R82, R83, R84). -/
def setFollows (m : Memory) (latest : Option Resolution) (before after : Engine) : Prop :=
  (∀ r, latest = some r → r.outcome = .resolved → ∀ k : Fin 10,
    after.coefficients[k] =
      if after.enable = true then clampParam k (effectiveValue m r k + after.deltas[k]) else effectiveValue m r k) ∧
  ((∀ r, latest = some r → r.outcome = .held) → after.coefficients = before.coefficients)

/-- The status block shows a state, with the values of a moment for the words that other blocks may move before the
field's work is done (R183; log 6). -/
def statusShows (m : Memory) (s : State) (f : FieldMoment) : Prop :=
  (Memory.readPair m 0x100 = s.sequencer.fieldCount ∧ Memory.readPair m 0x102 = signedDWord s.sequencer.fieldFrame) ∧
  (Memory.read m 0x104 = match s.sequencer.phase with | some p => natWord p | none => 0x00FF) ∧
  (Memory.read m 0x105 = if s.sequencer.locked then 1 else 0) ∧
  (Memory.read m 0x106 = match f.positionState with | .good => 0 | .suspect _ => 1 | .fault => 2 | .limit _ => 3) ∧
  (Memory.read m 0x107 = match f.direction with | .stopped => 0 | .forward => 1 | .reverse => 2) ∧
  (Memory.read m 0x108 = if s.tracker.lagging then 1 else 0) ∧
  (∀ r, s.tracker.latest = some r →
    Memory.read m 0x109 = natWord r.slot.val ∧ Memory.read m 0x10A = slotWord r.predecessor ∧
    Memory.read m 0x10B = natWord r.n ∧ Memory.read m 0x10C = natWord r.dEff) ∧
  (s.tracker.latest = none →
    Memory.read m 0x109 = 0 ∧ Memory.read m 0x10A = 0xFFFF ∧ Memory.read m 0x10B = 0 ∧ Memory.read m 0x10C = 0) ∧
  (Memory.read m 0x10D = natWord s.requests.freeStack.length ∧ Memory.read m 0x10E = natWord (listedCount s.cue)) ∧
  (Memory.read m 0x10F = f.writeCount ∧ Memory.read m 0x110 = f.releaseCount) ∧
  (Memory.read m 0x111 = match s.requests.ripple with | some r => natWord (r.entry.val + 1) | none => 0) ∧
  (Memory.read m 0x112 = match s.engine.liveState with | .current => 0 | .held => 1) ∧
  (∀ k : Fin 10, Memory.read m (0x113 + k.val) = signedWord s.engine.coefficients[k]) ∧
  Memory.read m 0x11D = natWord s.requests.takeIndex.val ∧
  (Memory.read m 0x11E = match s.requests.setupFault with | some o => natWord o | none => 0xFFFF) ∧
  Memory.readPair m 0x11F = signedDWord f.perfCount ∧
  (Memory.read m 0x121 = match s.sequencer.reference with | .present => 0 | .lost => 1)

/-! ### The set-up in force as the words of a block (R182) -/

/-- The word a yes-or-no field of the set-up is held in. -/
def flagWord (b : Bool) : Word := if b then 1 else 0

/-- The forty-two words of a set-up, as R182 encodes them. -/
def Setup.word (st : Setup) (offset : Nat) : Word :=
  if offset = 0 then natWord st.gauge.perfs.toNat
  else if offset = 1 then match st.videoMode with | .m60_32 => 0 | .m50_22 => 1 | .m60_22 => 2
  else if offset = 2 then flagWord st.negative
  else if offset = 3 then match st.edgeMode with | .off => 0 | .follow => 1 | .watch => 2
  else if offset = 4 then highWord (signedDWord st.edgeBase)
  else if offset = 5 then lowWord (signedDWord st.edgeBase)
  else if offset = 6 then signedWord st.readerOffset
  else if offset = 7 then natWord st.edgeTolerance
  else if offset = 8 then natWord st.walkLimit
  else if offset = 9 then natWord st.rippleStep
  else if offset = 10 then natWord st.clipLow
  else if offset = 11 then natWord st.clipHigh
  else if offset = 12 then flagWord st.splitBakesTrim
  else if offset = 13 then flagWord st.freezeTrimInRecord
  else if offset = 14 then natWord st.reportThreshold
  else if offset = 15 then flagWord st.sceneEnable ||| (flagWord st.holdEnable <<< 1)
  else if offset = 16 then natWord st.liveStaleLimit
  else if h : 17 ≤ offset ∧ offset < 25 then natWord ((st.channelSelection[offset - 17].map Generator.number).getD 0)
  else if h : 25 ≤ offset ∧ offset < 36 then
    natWord ((st.userSelection[offset - 25].map fun c => c.val + 1).getD 0)
  else if h : 36 ≤ offset ∧ offset < 42 then
    flagWord st.gpoMode[offset - 36].direct ||| (flagWord st.gpoMode[offset - 36].inverted <<< 1)
  else 0

/-! ### The values of a reset -/

/-- Every item of every block at the value its table gives for a power-on or port reset (R1, R20, R32, R56, R67, R75,
R98, R136, R151, R164, R172, R182), but for what the lines decide. -/
def State.ResetValues (t : State) : Prop :=
  (t.position.count = 0 ∧ t.position.gauge = .four ∧ t.position.frame = 0 ∧ t.position.phase = 0 ∧
    t.position.direction = .stopped ∧ t.position.state = .good ∧ t.position.stillness = .stopped) ∧
  (t.sequencer.fieldCount = 0 ∧ t.sequencer.fieldFrame = 0 ∧ t.sequencer.phase = none ∧
    t.sequencer.alignPending = false ∧ t.sequencer.locked = false ∧ t.sequencer.goodCount = 0 ∧
    t.sequencer.firstFieldFrame = none ∧ t.sequencer.lastIdentity = none ∧ t.sequencer.activeStartTaken = true ∧
    t.sequencer.timer = .running .m60_32 ∧ t.sequencer.reference = .present ∧ t.sequencer.cadenceA = false) ∧
  (t.tracker.current = 0 ∧ t.tracker.lagging = false ∧ t.tracker.latest = none ∧ t.tracker.lastResolved = none ∧
    t.tracker.heldCount = 0 ∧ t.tracker.dissolveLevel = false) ∧
  ((∀ k : Fin 10, t.engine.deltas[k] = 0) ∧ t.engine.enable = false ∧ t.engine.revision = none ∧
    t.engine.liveState = .held ∧ t.engine.tornCount = 0 ∧ t.engine.stale = false ∧ t.engine.read = none ∧
    ∀ k : Fin 10,
      t.engine.coefficients[k] = if 3 ≤ k.val ∧ k.val ≤ 5 then 1024 else if k.val = 9 then 256 else 0) ∧
  (t.requests.takeIndex = 0 ∧ t.requests.ripple = none ∧ t.requests.rippleCounter = 0 ∧
    t.requests.splitPending = none ∧ t.requests.setupFault = none ∧ t.requests.freeStack = []) ∧
  (t.pass.state = .idle ∧ t.pass.condition = .none ∧ t.pass.inFrame = 0 ∧ t.pass.requested = 0 ∧
    t.pass.recorded = 0 ∧ t.pass.remaining = 0 ∧ t.pass.openEnded = false ∧ t.pass.stopPending = false ∧
    t.pass.startFieldCount = 0 ∧ t.pass.expected = 0) ∧
  ((∀ c : Fin 8, t.matrix.inversion[c] = .none ∧ t.channel c = false) ∧
    (∀ u : Fin 11, t.matrix.edgeSeen[u] = false ∧ t.matrix.presented[u] = false) ∧
    (∀ g : Fin 6, t.matrix.hold[g] = none ∧ t.gpo g = false) ∧
    t.matrix.pulses = { fieldStart := false, frameReference := false, sceneChange := false, requestNotify := false } ∧
    t.matrix.notifyWaiting = false) ∧
  (t.writer.writeCount = 0 ∧ t.writer.releaseCount = 0 ∧ t.writer.sequence = 0 ∧ t.writer.gap = none) ∧
  (t.port.pointer = 0 ∧ t.port.latch = none ∧ (∀ c : Cause, t.causeSet c = false ∧ t.causeEnabled c = false) ∧
    t.attn = false ∧ t.port.run = .uninitialised ∧ t.port.ident = .code) ∧
  ∀ offset, offset < 42 →
    t.setup.word offset =
      if offset = 0 then 4 else if offset = 7 then 1 else if offset = 8 then 16 else if offset = 9 then 8
      else if offset = 10 then 64 else if offset = 11 then 940 else if offset = 13 then 1
      else if offset = 14 then 64 else if offset = 15 then 3 else if offset = 16 then 8 else 0

/-! ### The laws -/

/-- The set-up in force holds only valid values (R114, R182). -/
def Setup.Valid (st : Setup) : Prop :=
  (-64 ≤ st.readerOffset ∧ st.readerOffset ≤ 64) ∧ st.edgeTolerance ≤ 7 ∧ (1 ≤ st.walkLimit ∧ st.walkLimit ≤ 64) ∧
  (1 ≤ st.rippleStep ∧ st.rippleStep ≤ 32) ∧ (st.clipLow < st.clipHigh ∧ st.clipHigh ≤ 1023) ∧
  (1 ≤ st.reportThreshold ∧ st.reportThreshold ≤ 512) ∧ (1 ≤ st.liveStaleLimit ∧ st.liveStaleLimit ≤ 255)

/-- The counter stands in the position range of its gauge, which is that of the set-up in force, and its state is one
that the edge mode in force makes; at LIMIT it stands at the end reached (R3, R6, R7, R8, R11, R14). -/
def State.PositionLaw (s : State) : Prop :=
  s.position.gauge = s.setup.gauge ∧ inRange s.position.frame ∧ inRange s.sequencer.fieldFrame ∧
  (∀ d, s.position.state = .suspect d → s.setup.edgeMode = .follow) ∧
  (s.position.state = .fault → s.setup.edgeMode = .watch) ∧
  (s.position.state = .limit .low → s.position.count = s.position.gauge.perfs * -65536) ∧
  (s.position.state = .limit .high →
    s.position.count = s.position.gauge.perfs * 1048575 + (s.position.gauge.perfs - 1))

/-- The sequencer's items hang together (R22 to R29): the phase is one of the mode's cycle unless a re-phase is due, and
goes with a first-field frame and the identity of its parity; LOCKED is a good count of 4; LOST leaves nothing of the
cadence and no timer. -/
def State.SequencerLaw (s : State) : Prop :=
  let q := s.sequencer
  (∀ p, q.phase = some p →
    (p < s.setup.videoMode.cycleLength ∨ q.alignPending = true) ∧ q.firstFieldFrame ≠ none ∧
    q.lastIdentity = some (if p % 2 = 0 then .field1 else .field2)) ∧
  (q.phase = none → q.firstFieldFrame = none ∧ q.locked = false ∧ q.goodCount = 0) ∧
  q.goodCount ≤ 4 ∧ (q.locked = true ↔ q.goodCount = 4) ∧
  (q.reference = .lost ↔ q.timer = .stopped) ∧
  (q.reference = .lost → q.phase = none ∧ q.activeStartTaken = true ∧ q.cadenceA = false)

/-- The pass block holds the controller's items, each in the word R183 gives it (R137). -/
def passBlockShows (m : Memory) (p : Pass) : Prop :=
  Memory.read m 0x300 = natWord p.state.code ∧ Memory.read m 0x301 = natWord p.condition.code ∧
  Memory.readPair m 0x302 = signedDWord p.inFrame ∧ Memory.readPair m 0x304 = natDWord p.requested ∧
  Memory.readPair m 0x306 = natDWord p.recorded ∧ Memory.readPair m 0x308 = natDWord p.remaining ∧
  Memory.read m 0x30A = flagWord p.openEnded ∧ Memory.readPair m 0x30B = p.startFieldCount ∧
  Memory.read m 0x30D = flagWord p.stopPending ∧ Memory.readPair m 0x30E = signedDWord p.expected

/-- The pass controller's items hang together, and the pass block shows them once the part has been initialised (R136,
R137, R138, R140, R142, R145). -/
def State.PassLaw (s : State) : Prop :=
  let p := s.pass
  (s.port.run ≠ .uninitialised → passBlockShows s.cue p) ∧
  inRange p.inFrame ∧ (-65536 ≤ p.expected ∧ p.expected ≤ 1048576) ∧
  (p.openEnded = false → p.recorded + p.remaining = p.requested) ∧
  (p.openEnded = true → p.requested = 0 ∧ p.remaining = 0) ∧
  (p.state.underWay = true → p.openEnded = false → 0 < p.remaining) ∧
  (p.state = .cued → p.expected = p.inFrame) ∧
  (p.state = .recording → p.inFrame < p.expected) ∧
  (p.state = .paused → p.expected ≤ 1048575) ∧
  (p.stopPending = true → p.state = .recording) ∧
  p.requested ≤ 4294967295 ∧ p.recorded ≤ 4294967295

/-- The writer's counts and gap, and the SEQUENCE words of the unreleased records, which rise by 1 from the release
count on (R164, R166, R167). -/
def State.RingLaw (s : State) : Prop :=
  s.writer.unreleased ≤ 512 ∧ s.writer.sequence = s.writer.writeCount ∧
  (∀ n, n < s.writer.unreleased →
    Memory.read s.cue (0x9000 + 16 * ((s.writer.releaseCount.toNat + n) % 512)) = s.writer.releaseCount + natWord n) ∧
  ∀ g, s.writer.gap = some g → 1 ≤ g.dropped ∧ g.dropped ≤ 4294967295 ∧ g.kinds ≠ 0

/-- Every grade the part reads is in range: the coefficient set, and once the list has been initialised every scene
record, with its DISSOLVE; and the latest resolution's weight is a proper one (R37, R52, R62, R83). -/
def State.GradeLaw (s : State) : Prop :=
  gradeInRange s.engine.coefficients ∧
  (s.port.run ≠ .uninitialised →
    ∀ x : Slot, gradeInRange (sceneGrade s.cue x) ∧ sceneDissolve s.cue x ≤ 250) ∧
  (∀ r, s.tracker.latest = some r → r.dissolving = true → 1 ≤ r.n ∧ r.n ≤ r.dEff ∧ r.dEff ≤ 250) ∧
  (s.port.run = .uninitialised → s.tracker.latest = none ∧ s.engine.read = none)

/-- The TAKEN entries are the entry of the ripple in flight and no other (R97); a setup fault value is an offset of the
block. -/
def State.RequestLaw (s : State) : Prop :=
  (s.port.run ≠ .uninitialised →
    ∀ i : Fin 32, entryWord s.cue i 0 = 2 ↔ ∃ r, s.requests.ripple = some r ∧ r.entry = i) ∧
  (s.port.run = .uninitialised → s.requests.ripple = none) ∧
  (∀ o, s.requests.setupFault = some o → o < 42) ∧
  s.requests.notifyDue = false

/-- A part that has not been initialised holds what its reset left: the default set-up, nothing tracked, no request, no
pass, no report, the neutral set (R49, R57, R76, R99, R148, R158, R165). -/
def State.UninitialisedLaw (s : State) : Prop :=
  s.port.run = .uninitialised →
    s.setup = Setup.default ∧ s.tracker = Tracker.initial ∧ s.engine = State.reset.engine ∧ s.pass = Pass.initial ∧
    s.writer = Writer.initial ∧ s.requests = { State.reset.requests with setupFault := s.requests.setupFault }

/-- A read of the live trim record is in progress only while RUNNING (R76, R93). -/
def State.LiveReadLaw (s : State) : Prop := s.port.run ≠ .running → s.engine.read = none

/-! ### The scene list (R40 to R44) -/

/-- A run of slots linked in both directions, STARTs strictly rising, the last with NEXT NONE. -/
def linkedRun (m : Memory) : List Slot → Prop
  | [] => True
  | [x] => slotWordAt m x 1 = 0xFFFF
  | x :: y :: rest =>
    slotWordAt m x 1 = natWord y.val ∧ slotWordAt m y 2 = natWord x.val ∧ sceneStart m x < sceneStart m y ∧
      linkedRun m (y :: rest)

/-- The list of scenes, in order, is `l`: it begins with the base scene at −65,536, is linked as R40 says, holds every
slot once, and the slots in it are those that are LISTED, every other being FREE. -/
def isSceneList (m : Memory) (l : List Slot) : Prop :=
  l.head? = some 0 ∧ slotWordAt m 0 2 = 0xFFFF ∧ sceneStart m 0 = -65536 ∧ linkedRun m l ∧ l.Nodup ∧
  (∀ x : Slot, slotWordAt m x 0 = if x ∈ l then 1 else 0) ∧ (∀ x ∈ l, inRange (sceneStart m x)) ∧
  sceneDissolve m 0 = 0

/-- The scene list and the free stack account for every slot, each once (R40 to R44). -/
def sceneListLaw (m : Memory) (free : List Slot) : Prop :=
  ∃ l : List Slot, isSceneList m l ∧ free.Nodup ∧ ∀ x : Slot, x ∈ free ↔ x ∉ l

/-- Once the list has been initialised, the law of the list holds, the tracker's current slot is listed, and a split
pending holds a frame of the position range (R40, R44, R56, R132). -/
def State.SceneListLaw (s : State) : Prop :=
  (s.port.run ≠ .uninitialised → sceneListLaw s.cue s.requests.freeStack ∧ listed s.cue s.tracker.current = true) ∧
  (∀ f, s.requests.splitPending = some f → inRange f)

/-- A safe run: every law at once. -/
def State.Safe (s : State) : Prop :=
  Memory.wf s.cue = true ∧ s.setup.Valid ∧ s.PositionLaw ∧ s.SequencerLaw ∧ s.PassLaw ∧ s.RingLaw ∧ s.GradeLaw ∧
  s.RequestLaw ∧ s.UninitialisedLaw ∧ s.LiveReadLaw ∧ s.SceneListLaw

end Sys2Proof.Machine
end

