-- ==== Sys2Proof/Certificates/Slice0/Obligations.lean ====
section
/-! DEFINITION. The statements for the provers, chapter by chapter. -/

open Sys2Proof Sys2Proof.Machine

/-! ### The whole part -/

/-- A step takes the command at the front of the queue and carries it out on the state with the queue's rest, which it
leaves as it is; on an empty queue the block idles (the model's choice, log 14). -/
def Obligations.StepTakesFrontCommand : Prop :=
  ∀ (c : Instr) (rest : List Instr) (s : State),
    step { s with pending := c :: rest } = exec c { s with pending := rest } ∧
    (∀ t, exec c { s with pending := rest } = .next t → t.pending = rest) ∧
    step { s with pending := [] } = .next { s with pending := [] }

/-- Every command completes in every state, leaves the queue alone, and leaves alone every block that `mayChange` does
not give it: nothing in the manual stops the part. -/
def Obligations.EveryCommandCompletesWithinItsBlocks : Prop :=
  ∀ (c : Instr) (s : State), ∃ t, exec c s = .next t ∧ t.pending = s.pending ∧
    ∀ b, mayChange c b = false → s.agrees t b

/-- R36, R49, R95, R174: of cue memory the part writes only the status block, the pass block, its own words of the
request entries, the scene table and the ring; the host's DATA writes change none of the status block, the pass block,
the scene table and the ring, and no word of a TAKEN entry. The scene table changes at an open ACTIVE START of a
RUNNING part, whole or met by a reset, at a run start that initialises, and when the RAM is powered up, and at nothing
else. -/
def Obligations.CueMemoryHasItsWriters : Prop :=
  (∀ (c : Instr) (s t : State), exec c s = .next t → (∀ v, c ≠ .dataWrite v) → (∀ a b g r, c ≠ .powerOnReset a b g r) →
    ∀ a, ¬partWrites a → Memory.read t.cue a = Memory.read s.cue a) ∧
  (∀ (v : Word) (s t : State), exec (.dataWrite v) s = .next t →
    ∀ a, (0x100 ≤ a ∧ a < 0x200) ∨ (0x300 ≤ a ∧ a < 0x400) ∨ inScenes a ∨ inRing a ∨
        (∃ i : Fin 32, inEntry i a ∧ entryWord s.cue i 0 = 2) →
      Memory.read t.cue a = Memory.read s.cue a) ∧
  ∀ (c : Instr) (s t : State), exec c s = .next t →
    (∃ a, inScenes a ∧ Memory.read t.cue a ≠ Memory.read s.cue a) →
      ((c = .activeStart ∨ ∃ m, c = .registerWriteOther (.resetWithin m)) ∧ s.port.run = .running ∧
        s.sequencer.activeStartTaken = false) ∨
      (s.port.run = .uninitialised ∧ t.port.run = .running ∧
        (c = .runStart ∨ c = .resume ∨ ∃ v, c = .registerWriteOther (.control v))) ∨
      ∃ a b g r, c = .powerOnReset a b g r

/-- R114, R182: every step keeps cue memory in canonical form (addresses rising and below 131,072, no word listed that
an unlisted address reads as) and the set-up in force valid. -/
def Obligations.MemoryAndSetupStayLegal : Prop :=
  ∀ s t : State, step s = .next t →
    (Memory.wf s.cue = true → Memory.wf t.cue = true) ∧ (s.setup.Valid → t.setup.Valid)

/-- The state after reset keeps every law; so does every state a reset leaves, whatever the part held and whatever it
was in the middle of, where cue memory is in canonical form. -/
def Obligations.ResetsAreSafe : Prop :=
  State.reset.Safe ∧
  (∀ (c : Instr) (s t : State), c = .portReset ∨ (∃ m, c = .registerWriteOther (.resetWithin m)) →
    Memory.wf s.cue = true → exec c s = .next t → t.Safe) ∧
  ∀ (a b : Bool) (g : BitVec 4) (r : List (Addr × Word)) (s t : State),
    exec (.powerOnReset a b g r) s = .next t → t.Safe

/-! ### Resets and run control -/

/-- R180 with the reset columns of R1, R20, R56, R75, R98, R136, R151, R164, R172: POWER_ON_RESET gives every item its
reset value, with the levels found on the lines. What the RAM powers up holding is an operand (the model's choice, log
1); the outputs are 0 (log 12). PORT_RESET gives every item its reset value too, takes the levels of the lines as they
stand, and leaves cue memory and the outputs (log 27). The same write met in the handling of an ACTIVE START (the
model's choice, log 33) gives them too, and where no open ACTIVE START can be in hand it is the PORT_RESET. -/
def Obligations.ResetsGiveResetValues : Prop :=
  (∀ (a b : Bool) (g : BitVec 4) (ram : List (Addr × Word)) (s : State),
    ∃ t, exec (.powerOnReset a b g ram) s = .next t ∧ t.ResetValues ∧ t.position.perfA = a ∧ t.position.perfB = b ∧
      (∀ i : Fin 4, t.matrix.gpi[i] = g.getLsbD i.val) ∧ t.busData = 0 ∧ t.pixOut = ⟨0, 0, 0⟩ ∧
      t.pending = s.pending ∧
      ((ram.Pairwise fun x y => x.1 ≠ y.1) → ∀ c ∈ ram, Memory.read t.cue c.1.toNat = c.2) ∧
      ∀ x : Addr, (∀ c ∈ ram, c.1 ≠ x) → Memory.read t.cue x.toNat = 0) ∧
  (∀ s : State, ∃ t, exec .portReset s = .next t ∧ t.ResetValues ∧
    t.position.perfA = s.position.perfA ∧ t.position.perfB = s.position.perfB ∧ t.matrix.gpi = s.matrix.gpi ∧
    t.cue = s.cue ∧ t.busData = s.busData ∧ t.pixOut = s.pixOut ∧ t.pending = s.pending) ∧
  ∀ (m : ResetMoment) (s : State), ∃ t, exec (.registerWriteOther (.resetWithin m)) s = .next t ∧ t.ResetValues ∧
    t.position.perfA = s.position.perfA ∧ t.position.perfB = s.position.perfB ∧ t.matrix.gpi = s.matrix.gpi ∧
    t.busData = s.busData ∧ t.pixOut = s.pixOut ∧ t.pending = s.pending ∧
    (s.port.run ≠ .running ∨ s.sequencer.activeStartTaken = true →
      exec (.registerWriteOther (.resetWithin m)) s = exec .portReset s)

/-- R114, R178: a RUN_START of a part not yet initialised whose set-up block has an offending word sets the setup
fault value to the first such offset and the SETUP cause, and changes nothing else but the pair latch, which it
empties (the model's choice, log 37). -/
def Obligations.RunStartRefusesOffendingBlock : Prop :=
  ∀ (s : State) (offset : Nat), s.port.run = .uninitialised → offset < 42 →
    ¬validSetupWord offset (Memory.read s.cue offset) (Memory.read s.cue 10) →
    (∀ o, o < offset → validSetupWord o (Memory.read s.cue o) (Memory.read s.cue 10)) →
    ∃ t, exec .runStart s = .next t ∧ (∀ c : Cause, t.causeSet c = (s.causeSet c || decide (c = .setup))) ∧
      t =
        { s with
          port := { s.port with latch := none, causes := t.port.causes }
          requests := { s.requests with setupFault := some offset } }

/-- R54 with R39, R185: a RUN_START that passes validation lays out the scene table and the free stack afresh. Every slot
but the base scene's is FREE with every other word zero, the base scene reads as R185 gives it, slot 1 is on top of
the stack and slot 1023 at its bottom, LISTED COUNT is 1 and FREE COUNT 1023. What the first status block shows of
them is not stated here (log 38). -/
def Obligations.RunStartLaysOutSceneList : Prop :=
  ∀ s : State, s.port.run = .uninitialised → validSetupBlock s.cue →
    ∃ t, exec .runStart s = .next t ∧
      (∀ x : Slot, x ≠ 0 → ∀ k, k < 32 → slotWordAt t.cue x k = 0) ∧
      (∀ k, k < 32 →
        slotWordAt t.cue 0 k =
          if k = 0 ∨ k = 6 then 1 else if 1 ≤ k ∧ k ≤ 3 then 0xFFFF else if 15 ≤ k ∧ k ≤ 17 then 1024
          else if k = 21 then 256 else 0) ∧
      t.requests.freeStack.length = 1023 ∧
      (∀ n (h : n < t.requests.freeStack.length), (t.requests.freeStack[n]'h).val = n + 1) ∧
      isSceneList t.cue [0] ∧ (Memory.wf s.cue = true → listedCount t.cue = 1)

/-- R178 with R8, R122, R136, R153, R154, R157, R164, R171, R182: the rest of what a RUN_START that passes validation
does. The block becomes the set-up in force word for word; the counter keeps its frame and becomes GOOD; the sequencer
changes only by the align-pending flag; the tracker, the pass controller and the writer take their initial values;
TAKEN entries are finished REFUSED ABORTED and no other entry changes; the ring's SEQUENCE words are set; the matrix
takes the selections and modes; the engine, the enables, the pointer and the IDENT alternation stand. That the pair
latch is emptied is the model's choice (log 37), and so is what takesSelections says of a line made ALIGNED (logs 17,
36). -/
def Obligations.RunStartInitialisesBlocks : Prop :=
  ∀ s : State, s.port.run = .uninitialised → validSetupBlock s.cue →
    ∃ t, exec .runStart s = .next t ∧ t.port.run = .running ∧
      (∀ offset, offset < 42 → t.setup.word offset = Memory.read s.cue offset) ∧
      (t.position.frame = s.position.frame ∧ t.position.state = .good ∧ t.position.gauge = t.setup.gauge ∧
        (t.setup.gauge ≠ s.position.gauge → t.position.phase = 0) ∧
        (t.setup.gauge = s.position.gauge → t.position.count = s.position.count) ∧
        t.position.direction = s.position.direction ∧ t.position.stillness = s.position.stillness) ∧
      t.sequencer =
        { s.sequencer with
          alignPending := s.sequencer.alignPending || decide (t.setup.videoMode ≠ s.setup.videoMode) } ∧
      t.tracker = Tracker.initial ∧ t.pass = Pass.initial ∧ t.writer = Writer.initial ∧ t.engine = s.engine ∧
      (t.requests.takeIndex = 0 ∧ t.requests.ripple = none ∧ t.requests.rippleCounter = 0 ∧
        t.requests.splitPending = none ∧ t.requests.setupFault = none) ∧
      (∀ i : Fin 32,
        if entryWord s.cue i 0 = 2 then finished t.cue i 9 0 0
        else ∀ k, k < 64 → entryWord t.cue i k = entryWord s.cue i k) ∧
      (∀ n, n < 512 → Memory.read t.cue (0x9000 + 16 * n) = natWord (65024 + n)) ∧
      (∀ a, inRing a → a % 16 ≠ 0 → Memory.read t.cue a = Memory.read s.cue a) ∧
      (Memory.read t.cue 0x300 = 0 ∧ Memory.read t.cue 0x301 = 0) ∧
      (∀ c : Cause,
        t.causeSet c =
          (s.causeSet c ||
            decide (c = .request ∧ ∃ i : Fin 32, entryWord s.cue i 0 = 2 ∧ notifyFlag s.cue i = true))) ∧
      (s.UninitialisedLaw → s.takesSelections t ∧ t.matrix.notifyWaiting = s.matrix.notifyWaiting) ∧
      t.port.enables = s.port.enables ∧ t.port.pointer = s.port.pointer ∧ t.port.ident = s.port.ident ∧
      t.port.latch = none

/-- R148, R150, R163, R179: a HALT of a RUNNING part makes it HALTED; a CUED or RECORDING pass is faulted HALTED, with
the gate low, the PASS cause set and its PASS report the one record written, any other pass stands and no record is
written; the internal users' edge-seen flags are cleared and present nothing; the counter, the sequencer, the tracker,
the request processor, the set-up and the scene table stand, and so do the engine's items where no read of the live
trim record is in progress. The codes of a PASS report are DEDUCED (log 31). -/
def Obligations.HaltStopsTheWork : Prop :=
  ∀ s : State, s.port.run = .running →
    ∃ t, exec .halt s = .next t ∧ t.port.run = .halted ∧
      (if s.pass.state = .cued ∨ s.pass.state = .recording then
        t.pass =
          { s.pass with
            state := .faulted, condition := .halted, stopPending := false
            expected := if s.pass.state = .recording then s.pass.expected - 1 else s.pass.expected } ∧
        t.causeSet .pass = true
      else t.pass = s.pass) ∧
      t.generatorLevel .passGate = false ∧
      (∀ u : Fin 11, 6 ≤ u.val → t.matrix.edgeSeen[u] = false ∧ t.presentsPulse u = false) ∧
      t.position = s.position ∧ t.sequencer = s.sequencer ∧ t.tracker = s.tracker ∧ t.requests = s.requests ∧
      t.setup = s.setup ∧ (s.engine.read = none → t.engine = s.engine) ∧ t.port.enables = s.port.enables ∧
      (s.hasRoom 1 → s.engine.read = none →
        s.wrote t
          (if s.pass.state = .cued ∨ s.pass.state = .recording then
            [passReport s.sequencer.fieldFrame s.pass.state t.pass]
          else [])) ∧
      ∀ a, inScenes a → Memory.read t.cue a = Memory.read s.cue a

/-- R177, R179: a CONTROL write is taken by the run state. RESET set resets the part whatever RUN says. A RUN of 1
resumes a HALTED part, which keeps everything else but the pair latch, and changes nothing of a RUNNING one; a RUN of
0 halts a RUNNING part and changes nothing of any other. The rows RUN_START and RESUME are the write of RUN 1, HALT is
that of RUN 0; a write to IDENT empties the latch alone (DEDUCED, log 11). That a run start, a halt and a resume empty
it too is the model's choice (log 37). -/
def Obligations.ControlWriteTakenByRunState : Prop :=
  ∀ (v : Word) (s : State),
    exec (.registerWriteOther (.ident v)) s = .next { s with port := { s.port with latch := none } } ∧
    (v.getLsbD 15 = true → exec (.registerWriteOther (.control v)) s = exec .portReset s) ∧
    (v.getLsbD 15 = false → v.getLsbD 0 = true →
      exec (.registerWriteOther (.control v)) s = exec .runStart s ∧ exec .resume s = exec .runStart s ∧
      (s.port.run = .halted →
        exec .resume s = .next { s with port := { s.port with latch := none, run := .running } }) ∧
      (s.port.run = .running → exec .resume s = .next { s with port := { s.port with latch := none } })) ∧
    (v.getLsbD 15 = false → v.getLsbD 0 = false →
      exec (.registerWriteOther (.control v)) s = exec .halt s ∧
      (s.port.run ≠ .running → exec .halt s = .next { s with port := { s.port with latch := none } }) ∧
      (s.port.run = .running → ∃ t, exec .halt s = .next t ∧ t.port.run = .halted))

/-- R73, R93, R120, R148, R165, R179: while HALTED, with no pass CUED or RECORDING and no live read in progress, every
command but a reset (in any of its forms, log 33) and a CONTROL write leaves the tracker, the engine, the request
processor, the pass, the set-up and the writer's write count and gap as they stand, and the scene table, the pass
block and the ring unchanged. R49, R57, R76, R99, R158: what a part holds while it has not been initialised since its
reset stays what the reset left, and a read of the live trim record is in progress only while RUNNING. -/
def Obligations.IdlePartHolds : Prop :=
  (∀ (c : Instr) (s t : State), s.port.run = .halted → s.pass.state ≠ .cued → s.pass.state ≠ .recording →
    s.engine.read = none → c ≠ .portReset → c ≠ .runStart → c ≠ .resume → c ≠ .halt →
    (∀ v, c ≠ .registerWriteOther (.control v)) → (∀ m, c ≠ .registerWriteOther (.resetWithin m)) →
    (∀ a b g r, c ≠ .powerOnReset a b g r) → exec c s = .next t →
    t.port.run = .halted ∧ t.tracker = s.tracker ∧ t.engine = s.engine ∧ t.requests = s.requests ∧ t.pass = s.pass ∧
      t.setup = s.setup ∧ t.writer.writeCount = s.writer.writeCount ∧ t.writer.gap = s.writer.gap ∧
      ∀ a, inScenes a ∨ inPassBlock a ∨ inRing a → Memory.read t.cue a = Memory.read s.cue a) ∧
  ∀ s t : State, s.UninitialisedLaw → s.LiveReadLaw → step s = .next t → t.UninitialisedLaw ∧ t.LiveReadLaw

/-! ### The host port -/

/-- R176: setting a cause leaves the others and a cause already set; an ATTENTION write clears each cause whose bit is
1; an ATTENTION ENABLE write replaces the whole set; ATTN is asserted exactly while a cause is both set and enabled;
halt, resume and run start keep the enables and every cause set; the resets empty both sets. -/
def Obligations.AttentionCausesAndEnables : Prop :=
  (∀ (s : State) (c d : Cause), (s.setCause c).causeSet d = (s.causeSet d || decide (d = c))) ∧
  (∀ (v : Word) (s : State), ∃ t, exec (.attentionWrite v) s = .next t ∧
    (∀ c : Cause, t.causeSet c = (s.causeSet c && !v.getLsbD c.bit)) ∧
    t = { s with port := { s.port with latch := none, causes := t.port.causes } }) ∧
  (∀ (v : Word) (s : State), ∃ t, exec (.attentionEnableWrite v) s = .next t ∧
    (∀ c : Cause, t.causeEnabled c = v.getLsbD c.bit) ∧
    t = { s with port := { s.port with latch := none, enables := t.port.enables } }) ∧
  (∀ s : State, s.attn = true ↔ ∃ c : Cause, s.causeSet c = true ∧ s.causeEnabled c = true) ∧
  (∀ (c : Instr) (s t : State), c = .halt ∨ c = .resume ∨ c = .runStart → exec c s = .next t →
    t.port.enables = s.port.enables ∧ ∀ d : Cause, s.causeSet d = true → t.causeSet d = true) ∧
  ∀ (s t : State) (a b : Bool) (g : BitVec 4) (r : List (Addr × Word)),
    exec .portReset s = .next t ∨ exec (.powerOnReset a b g r) s = .next t →
    t.attn = false ∧ ∀ c : Cause, t.causeSet c = false ∧ t.causeEnabled c = false

/-- R173, R177: the select lines name the eight registers, offset by offset. Reads of IDENT return 0x4120 and 0x0003
alternately, the part code first after a reset. A POINTER LOW write replaces bits 0–15 of the pointer, a POINTER HIGH
write bit 16, each leaving the rest of it. A REGISTER_READ returns the causes and the enables by bit, the pointer's
two parts, the release count, and CONTROL with RUN, INITIALISED, SETUP FAULT and the offset in bits 8–13. None of them
changes anything else but the pair latch and the bus. -/
def Obligations.RegistersReadAndWriteTheirItems : Prop :=
  (List.ofFn hostRead =
      [.identRead, .registerRead .control, .registerRead .attention, .registerRead .attentionEnable,
        .registerRead .pointerLow, .registerRead .pointerHigh, .dataRead, .registerRead .reportRelease] ∧
    ∀ v : Word, List.ofFn (fun offset => hostWrite offset v) =
      [.registerWriteOther (.ident v), .registerWriteOther (.control v), .attentionWrite v, .attentionEnableWrite v,
        .pointerLowWrite v, .pointerHighWrite v, .dataWrite v, .reportReleaseWrite v]) ∧
  (∀ s : State, ∃ t u, exec .identRead s = .next t ∧ exec .identRead t = .next u ∧
    (s.port.ident = .code → t.busData = 0x4120 ∧ u.busData = 0x0003) ∧
    (s.port.ident = .revision → t.busData = 0x0003 ∧ u.busData = 0x4120) ∧
    u.port.ident = s.port.ident ∧
    t = { s with busData := t.busData, port := { s.port with latch := none, ident := t.port.ident } }) ∧
  (∀ (v : Word) (s : State),
    (∃ t, exec (.pointerLowWrite v) s = .next t ∧
      t.port.pointer.toNat = s.port.pointer.toNat / 65536 * 65536 + v.toNat ∧
      t = { s with port := { s.port with latch := none, pointer := t.port.pointer } }) ∧
    ∃ t, exec (.pointerHighWrite v) s = .next t ∧
      t.port.pointer.toNat = v.toNat % 2 * 65536 + s.port.pointer.toNat % 65536 ∧
      t = { s with port := { s.port with latch := none, pointer := t.port.pointer } }) ∧
  ∀ (r : ReadRegister) (s : State), (∀ o, s.requests.setupFault = some o → o < 42) →
    ∃ t, exec (.registerRead r) s = .next t ∧
      t = { s with busData := t.busData, port := { s.port with latch := none } } ∧
      (r = .control →
        t.busData.getLsbD 0 = decide (s.port.run = .running) ∧
        t.busData.getLsbD 1 = decide (s.port.run ≠ .uninitialised) ∧
        t.busData.getLsbD 2 = s.requests.setupFault.isSome ∧
        (t.busData.extractLsb' 8 6).toNat = s.requests.setupFault.getD 0 ∧
        ∀ k, (3 ≤ k ∧ k ≤ 7) ∨ 14 ≤ k → t.busData.getLsbD k = false) ∧
      (r = .attention → (∀ c : Cause, t.busData.getLsbD c.bit = s.causeSet c) ∧ t.busData.toNat < 128) ∧
      (r = .attentionEnable → (∀ c : Cause, t.busData.getLsbD c.bit = s.causeEnabled c) ∧ t.busData.toNat < 128) ∧
      (r = .pointerLow → t.busData.toNat = s.port.pointer.toNat % 65536) ∧
      (r = .pointerHigh → t.busData.toNat = s.port.pointer.toNat / 65536) ∧
      (r = .reportRelease → t.busData = s.writer.releaseCount)

/-- R96, R173, R174: a DATA_WRITE outside the request table is made in the set-up block, the live trim record, the
unused words and the host area, and discarded with the DISCARD cause in the status block, the pass block, the scene
table and the ring. In the request table it is discarded, with DISCARD, when the entry it falls in is TAKEN, or when
it would put anything but FREE or POSTED into a STATE word, and made otherwise. The pointer advances, from 0x1FFFF to
0, either way; no other word and nothing else changes but the pair latch. -/
def Obligations.DataWriteByRegion : Prop :=
  ∀ (v : Word) (s : State),
    (let p := s.port.pointer.toNat
     let made (t : State) : Prop :=
       t.port.causes = s.port.causes ∧ ∀ a, Memory.read t.cue a = if a = p then v else Memory.read s.cue a
     let discarded (t : State) : Prop :=
       t.cue = s.cue ∧ ∀ c : Cause, t.causeSet c = (s.causeSet c || decide (c = .discard))
     ∃ t, exec (.dataWrite v) s = .next t ∧ t.port.pointer.toNat = (p + 1) % 131072 ∧
       (hostOwned p → made t) ∧
       (p < 0x400 ∨ 0xC00 ≤ p → ¬hostOwned p → discarded t) ∧
       (∀ (i : Fin 32) (k : Nat), k < 64 → p = entryBase i + k →
         (entryWord s.cue i 0 = 2 ∨ (k = 0 ∧ v ≠ 0 ∧ v ≠ 1) → discarded t) ∧
         (entryWord s.cue i 0 ≠ 2 → k ≠ 0 ∨ v = 0 ∨ v = 1 → made t)) ∧
       t =
         { s with
           cue := t.cue, port := { s.port with pointer := t.port.pointer, latch := none, causes := t.port.causes } })

/-- R175: a DATA_READ of a high word of a 32-bit value of the status or pass block returns it and captures its low
word; a DATA_READ of the captured address returns the captured value and empties the latch; of any other word, the
word as it stands, with an empty latch. The pointer advances. Every other access of the host, and a reset, empties the
latch; that a CONTROL write which starts, halts or resumes the part is such an access is the model's choice (log 37).
So a DATA_READ of a high word with an empty latch, then whatever events the part meets, then a DATA_READ, return both
halves of the value as it stood at the first read. -/
def Obligations.PairLatchCapturesLowWord : Prop :=
  (∀ s : State, ∃ t, exec .dataRead s = .next t ∧
    t.port.pointer.toNat = (s.port.pointer.toNat + 1) % 131072 ∧
    (∀ w, s.port.latch = some (s.port.pointer, w) → t.busData = w ∧ t.port.latch = none) ∧
    ((∀ w, s.port.latch ≠ some (s.port.pointer, w)) →
      t.busData = Memory.read s.cue s.port.pointer.toNat ∧
      (s.port.pointer.toNat ∈ [0x100, 0x102, 0x11F, 0x302, 0x304, 0x306, 0x308, 0x30B, 0x30E] →
        t.port.latch = some (s.port.pointer + 1, Memory.read s.cue (s.port.pointer.toNat + 1))) ∧
      (s.port.pointer.toNat ∉ [0x100, 0x102, 0x11F, 0x302, 0x304, 0x306, 0x308, 0x30B, 0x30E] →
        t.port.latch = none)) ∧
    t = { s with busData := t.busData, port := { s.port with pointer := t.port.pointer, latch := t.port.latch } }) ∧
  (∀ (c : Instr) (s t : State), hostAccess c = true → c ≠ .dataRead → exec c s = .next t → t.port.latch = none) ∧
  (∀ (s t : State) (a b : Bool) (g : BitVec 4) (r : List (Addr × Word)),
    exec .portReset s = .next t ∨ exec (.powerOnReset a b g r) s = .next t → t.port.latch = none) ∧
  ∀ (s t u v : State) (events : List Instr), s.port.latch = none →
    s.port.pointer.toNat ∈ [0x100, 0x102, 0x11F, 0x302, 0x304, 0x306, 0x308, 0x30B, 0x30E] →
    (∀ c ∈ events, partEvent c = true) → exec .dataRead s = .next t → runAll events t = .next u →
    exec .dataRead u = .next v →
    t.busData ++ v.busData = Memory.readPair s.cue s.port.pointer.toNat ∧ v.port.latch = none

/-- R169: a REPORT_RELEASE_WRITE releases the records its step passes over; a step greater than the unreleased number is
clamped to the write count and sets DISCARD. Nothing else changes but the pair latch. -/
def Obligations.ReleaseIsClampedToWrittenRecords : Prop :=
  ∀ (v : Word) (s : State), ∃ t, exec (.reportReleaseWrite v) s = .next t ∧
    t.writer = { s.writer with releaseCount := t.writer.releaseCount } ∧
    (let step := (v.toNat + 65536 - s.writer.releaseCount.toNat) % 65536
     let unreleased := (s.writer.writeCount.toNat + 65536 - s.writer.releaseCount.toNat) % 65536
     (step ≤ unreleased → t.writer.releaseCount = v ∧ t.port.causes = s.port.causes) ∧
     (unreleased < step →
       t.writer.releaseCount = s.writer.writeCount ∧
       ∀ c : Cause, t.causeSet c = (s.causeSet c || decide (c = .discard)))) ∧
    t = { s with writer := t.writer, port := { s.port with latch := none, causes := t.port.causes } }

/-! ### Film position -/

/-- R2, R3, R4, R5, R7: B falling while A is low and stays low counts one forward, B rising one reverse, where the
frame stays in the position range. The direction is the step's, the stillness timer is restarted, LIMIT is left by a
step away from the end reached, and FILM FRAME is raised, a blip on the matrix, exactly where the frame changes value.
The frame and the phase follow the count. Nothing else changes. Any other change of the lines, both changing together
among them, gives the decoder new levels and recognises no step. The expiry of a running stillness timer makes the
direction STOPPED and stops the timer, and nothing else changes; a stopped timer does not expire (the model's choice,
log 13). -/
def Obligations.PerforationStepIsCounted : Prop :=
  (∀ (a b : Bool) (s : State), ¬(s.position.perfA = false ∧ a = false ∧ s.position.perfB ≠ b) →
    exec (.perfLineChange a b) s = .next { s with position := { s.position with perfA := a, perfB := b } }) ∧
  (∀ s : State, ∃ t, exec .stillnessTimerExpiry s = .next t ∧ t.position.stillness = .stopped ∧
    (s.position.stillness ≠ .stopped → t.position.direction = .stopped) ∧
    (s.position.stillness = .stopped → t = s) ∧
    t =
      { s with
        position := { s.position with direction := t.position.direction, stillness := t.position.stillness } }) ∧
  ∀ (b : Bool) (s : State), s.position.perfA = false → s.position.perfB = !b →
    (let k := s.position.gauge.perfs
     let p := if b then s.position.count - 1 else s.position.count + 1
     k * -65536 ≤ p → p ≤ k * 1048575 + (k - 1) →
      ∃ t, exec (.perfLineChange false b) s = .next t ∧
        t.position =
          { s.position with
            perfB := b, count := p, stillness := .running s.setup.videoMode
            direction := if b then .reverse else .forward
            state :=
              if s.position.state = .limit .high ∧ b = true ∨ s.position.state = .limit .low ∧ b = false then .good
              else s.position.state } ∧
        (k * t.position.frame ≤ p ∧ p < k * t.position.frame + k ∧ t.position.phase = p - k * t.position.frame) ∧
        t.matrix = (if t.position.frame = s.position.frame then s.matrix else (s.blip .filmFrame).matrix) ∧
        t = { s with position := t.position, matrix := t.matrix })

/-- R6: a step that would leave the position range is not counted. It sets the direction and restarts the stillness
timer; where the state is not LIMIT it makes it LIMIT, sets FAULT and hands a LIMIT report of the end reached, its
frame and the step's direction; at LIMIT it does no more. -/
def Obligations.StepAtLimitIsRefused : Prop :=
  ∀ (b : Bool) (s : State), s.position.perfA = false → s.position.perfB = !b →
    (let k := s.position.gauge.perfs
     s.position.count = (if b then k * -65536 else k * 1048575 + (k - 1)) →
      let noted : Position :=
        { s.position with
          perfB := b, stillness := .running s.setup.videoMode, direction := if b then .reverse else .forward }
      ((∃ e, s.position.state = .limit e) → exec (.perfLineChange false b) s = .next { s with position := noted }) ∧
      ((∀ e, s.position.state ≠ .limit e) →
        exec (.perfLineChange false b) s =
          .next
            ({ s with
                position := { noted with state := .limit (if b then .low else .high) }
                port := { s.port with causes := s.port.causes ||| Cause.fault.mask } }.hand
              { kind := .limit
                frame := if b then -65536 else 1048575
                slot := none
                serial := 0
                detail := if b then [1, 0xFFFF, 0x0000, 2] else [2, 0x000F, 0xFFFF, 1] })))

/-- R9, R10, R11, R12, R13: with EDGE MODE OFF an edge reading changes nothing. In FOLLOW mode it is ignored where its
flag is clear or the state is LIMIT; from GOOD an agreeing reading changes nothing and a disagreeing one makes the
state SUSPECT with its difference; from SUSPECT an agreeing reading gives GOOD and a BAD READ report, another
difference replaces the one held, and the same difference re-synchronises the count to the clamped gate frame at the
phase that stood, raising FILM FRAME where the frame changes and SLIP, setting FAULT and handing a SLIP report. -/
def Obligations.FollowModeReading : Prop :=
  (∀ (v : BitVec 24) (valid : Bool) (s : State), s.setup.edgeMode = .off →
    exec (.edgeReading v valid) s = .next s) ∧
  ∀ (v : BitVec 24) (s : State), s.setup.edgeMode = .follow →
    (let g : Int := v.toNat - s.setup.edgeBase - s.setup.readerOffset
     let d := g - s.position.frame
     let clamped := max (-65536) (min 1048575 g)
     exec (.edgeReading v false) s = .next s ∧
     (∀ e, s.position.state = .limit e → exec (.edgeReading v true) s = .next s) ∧
     (s.position.state = .good →
       (d.natAbs ≤ s.setup.edgeTolerance → exec (.edgeReading v true) s = .next s) ∧
       (s.setup.edgeTolerance < d.natAbs →
         exec (.edgeReading v true) s = .next { s with position := { s.position with state := .suspect d } })) ∧
     ∀ h, s.position.state = .suspect h →
       (d.natAbs ≤ s.setup.edgeTolerance →
         exec (.edgeReading v true) s =
           .next
             ({ s with position := { s.position with state := .good } }.hand
               { kind := .badRead, frame := s.position.frame, slot := none, serial := 0
                 detail :=
                   bothWords (signedDWord (clampSigned32 h)) ++ [signedWord d] ++ bothWords (signedDWord clamped) })) ∧
       (s.setup.edgeTolerance < d.natAbs → d ≠ h →
         exec (.edgeReading v true) s = .next { s with position := { s.position with state := .suspect d } }) ∧
       (s.setup.edgeTolerance < d.natAbs → d = h →
         ∃ t, exec (.edgeReading v true) s = .next t ∧
           t.position.frame = clamped ∧ t.position.phase = s.position.phase ∧ t.position.state = .good ∧
           t.position.direction = s.position.direction ∧ t.position.stillness = s.position.stillness ∧
           t.matrix =
             (((if clamped = s.position.frame then s else s.blip .filmFrame)).blip .slip).matrix ∧
           t =
             ({ s with
                 position := { s.position with count := t.position.count, state := .good }
                 matrix := t.matrix
                 port := { s.port with causes := s.port.causes ||| Cause.fault.mask } }.hand
               { kind := .slip, frame := clamped, slot := none, serial := 0
                 detail :=
                   bothWords (signedDWord s.position.frame) ++ bothWords (signedDWord clamped) ++
                     bothWords (signedDWord (clampSigned32 d)) ++ [1] })))

/-- R9, R10, R14, R146: an edge reading in WATCH mode. A disagreeing reading from GOOD makes the state FAULT, raises
SLIP, sets FAULT, and faults a RECORDING pass POSITION_FAULT with the PASS cause and the two reports; with no pass
RECORDING its SLIP report is the only record handed. An agreeing reading from FAULT gives GOOD. Every other reading
changes nothing. The count never changes. The codes of a PASS report are DEDUCED (log 31). -/
def Obligations.WatchModeReading : Prop :=
  ∀ (v : BitVec 24) (s : State), s.setup.edgeMode = .watch →
    (let g : Int := v.toNat - s.setup.edgeBase - s.setup.readerOffset
     let d := g - s.position.frame
     let agrees := d.natAbs ≤ s.setup.edgeTolerance
     let clamped := max (-65536) (min 1048575 g)
     exec (.edgeReading v false) s = .next s ∧
     (∀ e, s.position.state = .limit e → exec (.edgeReading v true) s = .next s) ∧
     (s.position.state = .good → agrees → exec (.edgeReading v true) s = .next s) ∧
     (s.position.state = .fault → ¬agrees → exec (.edgeReading v true) s = .next s) ∧
     (s.position.state = .fault → agrees →
       exec (.edgeReading v true) s = .next { s with position := { s.position with state := .good } }) ∧
     (s.position.state = .good → ¬agrees → s.pass.state ≠ .recording →
       exec (.edgeReading v true) s =
         .next
           ({ s with
               position := { s.position with state := .fault }
               matrix := (s.blip .slip).matrix
               port := { s.port with causes := s.port.causes ||| Cause.fault.mask } }.hand
             { kind := .slip, frame := s.position.frame, slot := none, serial := 0
               detail :=
                 bothWords (signedDWord s.position.frame) ++ bothWords (signedDWord clamped) ++
                   bothWords (signedDWord (clampSigned32 d)) ++ [2] })) ∧
     (s.position.state = .good → ¬agrees → s.pass.state = .recording →
       ∃ t, exec (.edgeReading v true) s = .next t ∧ t.position = { s.position with state := .fault } ∧
         t.pass =
           { s.pass with
             state := .faulted, condition := .positionFault, stopPending := false
             expected := s.pass.expected - 1 } ∧
         t.causeSet .fault = true ∧ t.causeSet .pass = true ∧ t.generatorLevel .passGate = false ∧
         (∀ (u : Fin 11) (c : Fin 8), s.setup.userSelection[u] = some c →
           s.setup.channelSelection[c] = some .slip →
           (s.listens u → t.matrix.edgeSeen[u] = true) ∧
           ∀ line : Fin 6, u = gpoUser line → s.setup.gpoMode[line].direct = true →
             t.matrix.hold[line] = some { value := !s.channel c, period := s.setup.videoMode }) ∧
         (s.hasRoom 2 →
           ∃ rs : List Record, s.wrote t rs ∧
             rs.Perm
               [{ kind := .slip, frame := s.position.frame, slot := none, serial := 0
                  detail :=
                    bothWords (signedDWord s.position.frame) ++ bothWords (signedDWord clamped) ++
                      bothWords (signedDWord (clampSigned32 d)) ++ [2] },
                passReport s.sequencer.fieldFrame .recording t.pass]) ∧
         t.sequencer = s.sequencer ∧ t.tracker = s.tracker ∧ t.engine = s.engine ∧ t.requests = s.requests ∧
         t.setup = s.setup ∧ ∀ a, ¬inPassBlock a → ¬inRing a → Memory.read t.cue a = Memory.read s.cue a))

/-- R3, R6, R7, R8, R11, R14: every step keeps the counter in the position range of the gauge in force, SUSPECT to
FOLLOW and FAULT to WATCH, LIMIT to the end reached (DEDUCED, log 18), and the field frame in range. -/
def Obligations.PositionStaysLawful : Prop :=
  ∀ s t : State, s.PositionLaw → step s = .next t → t.PositionLaw

/-! ### Fields and cadence -/

/-- R21, R22, R23, R24, R25, R26, R30, R31, R32: what a FIELD_START makes of the sequencer but for lock: the field
counted, the frame latched, the active-start flag opened, the timer restarted, the reference PRESENT, the identity
recorded, and the field placed: re-phased where one falls due, advanced otherwise. CADENCE A, FIELD START and FRAME
REFERENCE follow the phase. The counter, the set-up, the outputs and the request processor but for a split pending
stand. -/
def Obligations.FieldStartPlacesField : Prop :=
  ∀ (id : FieldIdentity) (s : State), ∃ t, exec (.fieldStart id) s = .next t ∧
    t.sequencer.fieldCount.toNat = (s.sequencer.fieldCount.toNat + 1) % 4294967296 ∧
    t.sequencer.fieldFrame = s.position.frame ∧ t.sequencer.activeStartTaken = false ∧
    t.sequencer.lastIdentity = some id ∧ t.sequencer.reference = .present ∧
    t.sequencer.timer = .running s.setup.videoMode ∧ t.sequencer.alignPending = false ∧
    (let due :=
      s.sequencer.alignPending = true ∨ s.sequencer.reference = .lost ∨ s.sequencer.lastIdentity = some id ∨
        s.turnInversions.presentsPulse 10 = true
     let fresh : Option Nat := if id = .field1 then some 0 else none
     (due → t.sequencer.phase = fresh) ∧
     (¬due → s.sequencer.phase = none → t.sequencer.phase = fresh) ∧
     (∀ p, ¬due → s.sequencer.phase = some p →
       t.sequencer.phase = some ((p + 1) % (if s.setup.videoMode = .m60_32 then 10 else 2)))) ∧
    (t.sequencer.cadenceA = true ↔ t.sequencer.phase = some 0 ∨ t.sequencer.phase = some 1) ∧
    t.matrix.pulses.fieldStart = true ∧
    (t.matrix.pulses.frameReference = true ↔
      t.sequencer.phase = some 0 ∨
        (s.setup.videoMode = .m60_32 ∧
          (t.sequencer.phase = some 2 ∨ t.sequencer.phase = some 5 ∨ t.sequencer.phase = some 7))) ∧
    t.position = s.position ∧ t.setup = s.setup ∧ t.busData = s.busData ∧ t.pixOut = s.pixOut ∧
    t.requests = { s.requests with splitPending := t.requests.splitPending } ∧
    t.port = { s.port with causes := t.port.causes }

/-- R27, R28: the judgement of a field against the first-field frame, absent where a re-phase fell due. An unphased
field, a start whose frame is not one beyond, and another field whose frame differs are bad: the good count becomes 0
and the lock state UNLOCKED, with the FAULT cause where it was LOCKED. A good start adds one to the count, up to 4,
where the state becomes LOCKED; a start that finds no first-field frame, and a good field that is no start, leave
both. -/
def Obligations.FieldStartJudgesLock : Prop :=
  ∀ (id : FieldIdentity) (s : State), ∃ t, exec (.fieldStart id) s = .next t ∧
    (let due :=
      s.sequencer.alignPending = true ∨ s.sequencer.reference = .lost ∨ s.sequencer.lastIdentity = some id ∨
        s.turnInversions.presentsPulse 10 = true
     let f := s.position.frame
     let start :=
       t.sequencer.phase = some 0 ∨
         (s.setup.videoMode = .m60_32 ∧
           (t.sequencer.phase = some 2 ∨ t.sequencer.phase = some 5 ∨ t.sequencer.phase = some 7))
     let bad : Prop :=
       t.sequencer.goodCount = 0 ∧ t.sequencer.locked = false ∧
         (s.sequencer.locked = true → t.causeSet .fault = true)
     let stands : Prop :=
       t.sequencer.goodCount = s.sequencer.goodCount ∧
         t.sequencer.locked = (s.sequencer.locked || decide (s.sequencer.goodCount = 4))
     (t.sequencer.phase = none → bad ∧ t.sequencer.firstFieldFrame = none) ∧
     (start → t.sequencer.firstFieldFrame = some f ∧
       (due ∨ s.sequencer.firstFieldFrame = none → stands) ∧
       ∀ first, ¬due → s.sequencer.firstFieldFrame = some first →
         (f = first + 1 →
           t.sequencer.goodCount = min 4 (s.sequencer.goodCount + 1) ∧
             t.sequencer.locked = (s.sequencer.locked || decide (3 ≤ s.sequencer.goodCount))) ∧
         (f ≠ first + 1 → bad)) ∧
     (t.sequencer.phase ≠ none → ¬start → ∀ first, s.sequencer.firstFieldFrame = some first →
       t.sequencer.firstFieldFrame = some first ∧ (f = first → stands) ∧ (f ≠ first → bad)))

/-- R29, R32, R33, R146, R150: the expiry of a running reference timer, with no live read in progress: LOST, the timer
stopped, the flag taken, unphased, UNLOCKED with a good count of 0, CADENCE A and LOCKED low, the status words of
phase, lock and reference written once initialised and no other, the FAULT cause set, a CUED or RECORDING pass faulted
REFERENCE_LOST; the REFERENCE report, the LOCK report of a lock lost and the PASS report of a fault are written.
DEDUCED are the unphased marking and the absent first-field frame in that LOCK report (log 26), the 0 in word 9 of the
REFERENCE report (log 9) and the codes of the PASS report (log 31); the value words of the absent frame are open (log
8). A stopped timer does not expire (the model's choice, log 13). -/
def Obligations.ReferenceExpiryLosesCadence : Prop :=
  ∀ s : State,
    (s.sequencer.timer = .stopped → exec .referenceTimerExpiry s = .next s) ∧
    (s.sequencer.timer ≠ .stopped → s.engine.read = none →
      ∃ t, exec .referenceTimerExpiry s = .next t ∧
        t.sequencer =
          { s.sequencer with
            reference := .lost, timer := .stopped, activeStartTaken := true, phase := none, firstFieldFrame := none
            goodCount := 0, locked := false, cadenceA := false } ∧
        t.causeSet .fault = true ∧ t.generatorLevel .locked = false ∧ t.generatorLevel .cadenceA = false ∧
        (if s.pass.state = .cued ∨ s.pass.state = .recording then
          t.pass =
            { s.pass with
              state := .faulted, condition := .referenceLost, stopPending := false
              expected := if s.pass.state = .recording then s.pass.expected - 1 else s.pass.expected } ∧
          t.causeSet .pass = true
        else t.pass = s.pass) ∧
        (s.port.run ≠ .uninitialised →
          Memory.read t.cue 0x104 = 0x00FF ∧ Memory.read t.cue 0x105 = 0 ∧ Memory.read t.cue 0x121 = 1) ∧
        (∀ a, ¬inPassBlock a → ¬inRing a → a ≠ 0x104 → a ≠ 0x105 → a ≠ 0x121 →
          Memory.read t.cue a = Memory.read s.cue a) ∧
        (s.hasRoom 3 →
          ∃ (rs : List Record) (absent : DWord), s.wrote t rs ∧
            (let f := s.sequencer.fieldFrame
             let own : List Record :=
               [{ kind := .reference, frame := f, slot := none, serial := 0, detail := [1] }] ++
                 if s.sequencer.locked = true then [lockReport f false 3 none none absent] else []
             let passes : List Record :=
               if s.pass.state = .cued ∨ s.pass.state = .recording then [passReport f s.pass.state t.pass] else []
             rs.Perm (own ++ passes) ∧ own.Sublist rs)) ∧
        t.position = s.position ∧ t.tracker = s.tracker ∧ t.engine = s.engine ∧ t.requests = s.requests ∧
        t.setup = s.setup ∧ t.port = { s.port with causes := t.port.causes })

/-- R22, R23, R24, R25, R26, R27, R28, R29: every step keeps the sequencer's items together: the phase in the mode's
cycle unless a re-phase is due, of the parity of the identity and with a first-field frame, LOCKED exactly at a good
count of 4, nothing of the cadence while LOST. -/
def Obligations.SequencerStaysLawful : Prop :=
  ∀ s t : State, s.SequencerLaw → step s = .next t → t.SequencerLaw

/-! ### The scene list -/

/-- R40, R41, R43, R44, R56, R65, R112, R133: every step keeps the law of the scene list: linked both ways in increasing
START from the base scene, every slot listed once or on the free stack once, and the tracker's current slot listed. -/
def Obligations.SceneListStaysLawful : Prop :=
  ∀ s t : State, s.PositionLaw → s.SceneListLaw → step s = .next t → t.SceneListLaw

/-- R42, R44: under the law of the list, every frame of the position range is covered by exactly one listed scene, the
search the edits use finds it, and LISTED COUNT and FREE COUNT sum to 1024. -/
def Obligations.EveryFrameHasOneScene : Prop :=
  ∀ (m : Memory) (free : List Slot), sceneListLaw m free →
    (∀ f : Int, inRange f →
      ∃ x : Slot, (listed m x = true ∧ covers m x f = true) ∧
        (∀ y : Slot, listed m y = true → covers m y f = true → y = x) ∧ coveringScene m f = x) ∧
    (Memory.wf m = true → listedCount m + free.length = 1024)

/-! ### Scene tracking -/

/-- R58: under the law of the list, a walk toward a frame of the range from the i-th scene of the list reaches the scene
that covers it, the j-th, in as many steps as there are scenes between, where the limit allows; otherwise it ends a
limit's worth of steps nearer and does not cover the frame. -/
def Obligations.WalkGoesStraightToCoveringScene : Prop :=
  ∀ (m : Memory) (l : List Slot) (f : Int) (limit i j : Nat) (hi : i < l.length) (hj : j < l.length),
    isSceneList m l → inRange f → covers m (l[j]'hj) f = true →
    (j - i + (i - j) ≤ limit → walk m f limit (l[i]'hi) 0 = (l[j]'hj, j - i + (i - j))) ∧
    (limit < j - i + (i - j) →
      ∃ (k : Nat) (hk : k < l.length), k = (if i < j then i + limit else i - limit) ∧
        walk m f limit (l[i]'hi) 0 = (l[k]'hk, limit) ∧ covers m (l[k]'hk) f = false)

/-- R57, R59, R60, R61, R62, R66, R67, R69: the tracker at a FIELD_START. While RUNNING it walks from the current slot
toward the counter's frame. A walk that ends at a covering scene is RESOLVED: the current and the last resolved slot and
serial are that scene's, the lag ends, n and D_eff are those of R62, DISSOLVE is high exactly inside the dissolve, and
SCENE CHANGE is raised exactly where slot or serial differ from the last resolved ones. Any other walk is HELD: it stays
where it ended, LAGGING, with the last resolved kept, no scene change, and the FAULT cause where the lag begins. While
not RUNNING nothing of it changes and SCENE CHANGE is not raised. -/
def Obligations.FieldStartResolvesScene : Prop :=
  ∀ (id : FieldIdentity) (s : State), ∃ t, exec (.fieldStart id) s = .next t ∧
    (let f := s.position.frame
     let w := walk s.cue f s.setup.walkLimit s.tracker.current 0
     let c := w.1
     let n := f - sceneStart s.cue c + 1
     let dEff : Nat :=
       if c = 0 then 0
       else
         match sceneNext s.cue c with
         | some y => min (sceneDissolve s.cue c) (sceneStart s.cue y - sceneStart s.cue c).toNat
         | none => sceneDissolve s.cue c
     let serial := slotWordAt s.cue c 7
     let dissolves : Prop := 1 ≤ n ∧ n ≤ dEff
     (s.port.run = .running → covers s.cue c f = true →
       t.tracker.current = c ∧ t.tracker.lagging = false ∧ t.tracker.lastResolved = some (c, serial) ∧
       t.tracker.heldCount = 0 ∧ (t.tracker.dissolveLevel = true ↔ dissolves) ∧
       (t.matrix.pulses.sceneChange = true ↔ s.tracker.lastResolved ≠ some (c, serial)) ∧
       ∃ r, t.tracker.latest = some r ∧ r.outcome = .resolved ∧ r.fieldCount = s.sequencer.fieldCount + 1 ∧
         r.fieldFrame = f ∧ r.slot = c ∧ r.serial = serial ∧ r.steps = w.2 ∧ r.dEff = dEff ∧
         (dissolves → r.dissolving = true ∧ (r.n : Int) = n ∧ r.predecessor = scenePrev s.cue c) ∧
         (¬dissolves → r.dissolving = false ∧ r.n = 0 ∧ r.predecessor = none)) ∧
     (s.port.run = .running → covers s.cue c f = false →
       t.tracker.current = c ∧ t.tracker.lagging = true ∧ t.tracker.lastResolved = s.tracker.lastResolved ∧
       t.tracker.heldCount = min 65535 (s.tracker.heldCount + 1) ∧
       t.tracker.dissolveLevel = s.tracker.dissolveLevel ∧ t.matrix.pulses.sceneChange = false ∧
       (s.tracker.lagging = false → t.causeSet .fault = true) ∧
       ∃ r, t.tracker.latest = some r ∧ r.outcome = .held ∧ r.fieldCount = s.sequencer.fieldCount + 1 ∧
         r.fieldFrame = f ∧ r.slot = c ∧ r.serial = serial ∧ r.steps = w.2 ∧ r.dissolving = false ∧
         r.predecessor = none ∧ r.n = 0 ∧ r.dEff = 0) ∧
     (s.port.run ≠ .running → t.tracker = s.tracker ∧ t.matrix.pulses.sceneChange = false))

/-! ### The grade computation -/

/-- R74: nearest rounding gives the integer nearest to the exact quotient, the one further from zero where two are
equally near, and is symmetric about zero; the values of its table. -/
def Obligations.NearestRounding : Prop :=
  (∀ (a : Int) (b : Nat), 0 < b →
    (∀ q : Int, |a - b * roundDiv a b| ≤ |a - b * q|) ∧
    (∀ q : Int, |a - b * q| = |a - b * roundDiv a b| → |q| ≤ |roundDiv a b|) ∧
    roundDiv (-a) b = -roundDiv a b) ∧
  roundDiv 152 10 = 15 ∧ roundDiv 456 10 = 46 ∧ roundDiv 25 10 = 3 ∧ roundDiv (-25) 10 = -3 ∧
  roundDiv (-3047) 100 = -30 ∧ roundDiv (-9691) 100 = -97 ∧ roundDiv 49 100 = 0 ∧ roundDiv (-5) 10 = -1

/-- R85, R86, R87, R88, R89, R90: a PIXEL is transformed under the coefficient set and the set-up in force: turned
over where NEGATIVE is on, bend, gain and lift clamped to 0…2047, saturation about the luma, clip; every division
nearest. Each output code lies within CLIP LOW…CLIP HIGH, and nothing but PIX OUT changes. -/
def Obligations.PixelIsTransformedStageByStage : Prop :=
  ∀ (r g b : Code) (s : State), s.setup.Valid →
    ∃ t, exec (.pixel r g b) s = .next t ∧ t = { s with pixOut := t.pixOut } ∧
      (∀ x ∈ [t.pixOut.red, t.pixOut.green, t.pixOut.blue], s.setup.clipLow ≤ x.toNat ∧ x.toNat ≤ s.setup.clipHigh) ∧
      (let k := s.engine.coefficients
       let input (x : Code) : Int := if s.setup.negative then 1023 - x.toNat else x.toNat
       let bent (p : Int) (x : Int) : Int := x + roundDiv (p * x * (1023 - x)) 523776
       let level (l a p : Int) (x : Code) : Int := max 0 (min 2047 (l + roundDiv (a * bent p (input x)) 1024))
       let zr := level k[0] k[3] k[6] r
       let zg := level k[1] k[4] k[7] g
       let zb := level k[2] k[5] k[8] b
       let luma := roundDiv (306 * zr + 601 * zg + 117 * zb) 1024
       let out (z : Int) : Int := max s.setup.clipLow (min s.setup.clipHigh (luma + roundDiv (k[9] * (z - luma)) 256))
       (t.pixOut.red.toNat : Int) = out zr ∧ (t.pixOut.green.toNat : Int) = out zg ∧
         (t.pixOut.blue.toNat : Int) = out zb)

/-- R76, R78, R81, R82, R83, R84: a LIVE_RECORD_WORD_READ of a read in progress takes one more whole word, CLOSE
first, words 1 to 11, OPEN last. Before the thirteenth nothing else changes. At the thirteenth, equal revision words
take the record: the deltas clamped, ENABLE, the revision, CURRENT, the torn count 0 and the stale flag clear;
different ones keep the trim and make it HELD, the torn count one higher, and at LIVE STALE LIMIT set the stale flag
and, where it was clear, the STALE cause. Then the coefficient set is built from the resolution and the trim in force,
and a LIVE report is written of a flag set (STALE) or cleared (RECOVERED), and none otherwise. The value word of an
absent revision is open (log 8). DEDUCED are the 0 in the words of a RECOVERED record that STALE uses (log 9) and that
the word reads are commands of their own (log 2). -/
def Obligations.LiveRecordReadWordByWord : Prop :=
  ∀ (s : State) (read : LiveRead), s.engine.read = some read →
    (read.words.length < 12 →
      exec .liveRecordWordRead s =
        .next
          { s with
            engine :=
              { s.engine with
                read :=
                  some
                    { read with
                      words :=
                        read.words ++
                          [Memory.read s.cue (if read.words.length = 0 then 0x20C else 0x200 + read.words.length)] } } }) ∧
    (∀ (close enable : Word) (d : Vector Word 10), read.words = [close, enable] ++ d.toList →
      ∃ t, exec .liveRecordWordRead s = .next t ∧ t.engine.read = none ∧
        (close = Memory.read s.cue 0x200 →
          (∀ k : Fin 10,
            t.engine.deltas[k] =
              (let bound : Int := if k.val < 3 ∨ (6 ≤ k.val ∧ k.val < 9) then 1023 else if k.val = 9 then 511 else 4095
               max (-bound) (min bound (d[k]).toInt))) ∧
          t.engine.enable = decide (enable ≠ 0) ∧ t.engine.revision = some close ∧ t.engine.liveState = .current ∧
          t.engine.tornCount = 0 ∧ t.engine.stale = false) ∧
        (close ≠ Memory.read s.cue 0x200 →
          t.engine.deltas = s.engine.deltas ∧ t.engine.enable = s.engine.enable ∧
          t.engine.revision = s.engine.revision ∧ t.engine.liveState = .held ∧
          t.engine.tornCount = min 65535 (s.engine.tornCount + 1) ∧
          (t.engine.stale = true ↔ s.engine.stale = true ∨ s.setup.liveStaleLimit ≤ t.engine.tornCount) ∧
          (t.engine.stale = true → s.engine.stale = false → t.causeSet .stale = true)) ∧
        setFollows s.cue s.tracker.latest s.engine t.engine ∧
        (s.hasRoom 1 →
          ∃ absent : Word,
            s.wrote t
              (let report (detail : List Word) : Record :=
                 { kind := .live, frame := s.sequencer.fieldFrame, slot := none, serial := 0, detail := detail }
               if s.engine.stale = false ∧ t.engine.stale = true then
                 [report
                   [1, natWord t.engine.tornCount, close, Memory.read s.cue 0x200,
                     match s.engine.revision with | some v => v | none => absent,
                     if s.engine.revision.isSome then 1 else 0]]
               else if s.engine.stale = true ∧ t.engine.stale = false then
                 [report [2, natWord s.engine.tornCount, close]]
               else [])) ∧
        t.position = s.position ∧ t.sequencer = s.sequencer ∧ t.tracker = s.tracker ∧ t.requests = s.requests ∧
        t.pass = s.pass ∧ t.matrix = s.matrix ∧ t.setup = s.setup ∧
        ∀ a, ¬inStatus a → ¬inRing a → Memory.read t.cue a = Memory.read s.cue a)

/-- R77, R78, R79, R80, R82, R83, R84: at a FIELD_START of a RUNNING part a read of the live trim record begins,
unless TRIM HOLD presents high for the field or FREEZE TRIM IN RECORD is on and the field's pass state is RECORDING;
then the trim, the revision, the torn count and the stale flag stand, the live state is HELD, and the coefficient set
follows the field's resolution under the trim in force. Begun at CLOSE and followed by thirteen word reads with
nothing between, it takes the record whole exactly where the revision words in memory are equal. DEDUCED is the moment
that the read keeps for the status block, after the field's other reports (log 6). That a FIELD_START begins the read
and the word reads are commands of their own is DEDUCED (log 2). -/
def Obligations.FieldStartReadsLiveTrim : Prop :=
  ∀ (id : FieldIdentity) (s : State), s.port.run = .running → s.engine.read = none →
    ∃ t, exec (.fieldStart id) s = .next t ∧
      (let held :=
        s.turnInversions.presentedValue 8 = true ∨
          (s.setup.freezeTrimInRecord = true ∧ t.pass.state = .recording)
       (held →
         t.engine =
           { s.engine with liveState := .held, coefficients := t.engine.coefficients } ∧
         setFollows s.cue t.tracker.latest s.engine t.engine) ∧
       (¬held →
         t.engine =
           { s.engine with
             read :=
               some
                 { words := []
                   moment :=
                     { perfCount := s.position.count, positionState := s.position.state
                       direction := s.position.direction, writeCount := t.writer.writeCount
                       releaseCount := s.writer.releaseCount } } } ∧
         ∃ u, runAll (List.replicate 13 .liveRecordWordRead) t = .next u ∧ u.engine.read = none ∧
           (u.engine.liveState = .current ↔ Memory.read s.cue 0x20C = Memory.read s.cue 0x200) ∧
           (u.engine.liveState = .current → u.engine.revision = some (Memory.read s.cue 0x200) ∧
             u.engine.enable = decide (Memory.read s.cue 0x201 ≠ 0))))

/-- R82, R83, R84: the coefficient step. For a RESOLVED field that is dissolving each coefficient is the predecessor's
value plus the rounded weight of the difference, for one that is not it is the scene's value; where ENABLE is on, the
trim is added and the sum clamped, to the value of the parameter's range that is nearest to it; for a HELD field the
set in force stands. Nothing else changes. -/
def Obligations.CoefficientsFollowResolution : Prop :=
  (∀ (k : Fin 10) (v : Int), paramInRange k (clampParam k v) ∧
    ∀ w : Int, paramInRange k w →
      |v - clampParam k v| ≤ |v - w| ∧ (|v - w| = |v - clampParam k v| → w = clampParam k v)) ∧
  ∀ (s : State) (r : Resolution), s.tracker.latest = some r →
    (r.outcome = .held → s.buildCoefficients = s) ∧
    (r.outcome = .resolved →
      s.buildCoefficients =
        { s with engine := { s.engine with coefficients := s.buildCoefficients.engine.coefficients } } ∧
      ∀ k : Fin 10,
        let value : Int :=
          match r.dissolving, r.predecessor with
          | true, some p =>
            (sceneGrade s.cue p)[k] +
              roundDiv (((sceneGrade s.cue r.slot)[k] - (sceneGrade s.cue p)[k]) * r.n) (r.dEff + 1)
          | _, _ => (sceneGrade s.cue r.slot)[k]
        (s.engine.enable = false → s.buildCoefficients.engine.coefficients[k] = value) ∧
        (s.engine.enable = true →
          s.buildCoefficients.engine.coefficients[k] = clampParam k (value + s.engine.deltas[k])))

/-- R37, R52, R83: every step keeps every grade in range: the coefficient set in force, and once the list has been
initialised the grade of every scene record. -/
def Obligations.GradesStayInRange : Prop :=
  ∀ s t : State, s.GradeLaw → step s = .next t → t.GradeLaw

/-! ### Requests -/

/-- R22, R99, R100, R101: an ACTIVE_START that finds the flag taken is ignored. One that finds it open takes the flag;
where the part is not RUNNING, with no live read in progress, nothing else changes, and the same holds of a RUNNING
part with no split pending, no ripple in flight and an entry at the take index that is not POSTED. An ACTIVE_START
takes at most four entries, in ring order, and leaves every word of every entry that it does not take as it was, but
for the result words of the ripple's entry; the engine stands where no live read is in progress, and so do the bus and
the picture. It does not take a POSTED entry of the edit class behind a ripple in flight. -/
def Obligations.ActiveStartTakesAtMostFourEntries : Prop :=
  (∀ s : State,
    (s.sequencer.activeStartTaken = true → exec .activeStart s = .next s) ∧
    (s.sequencer.activeStartTaken = false → s.engine.read = none →
      (s.port.run ≠ .running ∨
        (s.requests.splitPending = none ∧ s.requests.ripple = none ∧ s.requests.notifyDue = false ∧
          entryWord s.cue s.requests.takeIndex 0 ≠ 1)) →
      exec .activeStart s = .next { s with sequencer := { s.sequencer with activeStartTaken := true } })) ∧
  ∀ s : State, s.engine.read = none → ∃ t, exec .activeStart s = .next t ∧ ∃ n : Nat, n ≤ 4 ∧
    t.requests.takeIndex = s.requests.takeIndex + Fin.ofNat 32 n ∧
    (s.port.run ≠ .running → n = 0) ∧
    (∀ r, s.requests.ripple = some r → 1 ≤ (entryWord s.cue s.requests.takeIndex 1).toNat →
      (entryWord s.cue s.requests.takeIndex 1).toNat ≤ 9 → n = 0) ∧
    (∀ i : Fin 32, (∀ k, k < n → i ≠ s.requests.takeIndex + Fin.ofNat 32 k) →
      (∀ r, s.requests.ripple = some r → r.entry ≠ i) →
      ∀ k, k < 64 → entryWord t.cue i k = entryWord s.cue i k) ∧
    t.engine = s.engine ∧ t.busData = s.busData ∧ t.pixOut = s.pixOut

/-- R99, R100 with R116: the scan takes POSTED entries that stand one after another in the order of the ring, up to
four, and stops at one that is not POSTED. Shown of LOCATE: each finishes OK in its place, the current slot is the
last one's, and the take index stands after them. A CONTROL write with RESET set that meets this handling after some
takings leaves their entries finished and every other word of the request table as it stood (the model's choice of a
command for it, log 33). -/
def Obligations.ScanTakesPostedEntriesInOrder : Prop :=
  ∀ (s : State) (hints : List Slot), s.port.run = .running → s.sequencer.activeStartTaken = false →
    s.engine.read = none → s.requests.splitPending = none → s.requests.ripple = none → s.requests.notifyDue = false →
    1 ≤ hints.length → hints.length ≤ 4 →
    (let entry (n : Nat) : Fin 32 := s.requests.takeIndex + Fin.ofNat 32 n
     (∀ (n : Nat) (x : Slot), hints[n]? = some x →
       entryWord s.cue (entry n) 0 = 1 ∧ entryWord s.cue (entry n) 1 = 0x10 ∧
         entryWord s.cue (entry n) 8 = natWord x.val ∧ listed s.cue x = true) →
     (hints.length < 4 → entryWord s.cue (entry hints.length) 0 ≠ 1) →
     (∃ t, exec .activeStart s = .next t ∧ t.requests.takeIndex = entry hints.length ∧
       (∀ x, hints.getLast? = some x → t.tracker = { s.tracker with current := x }) ∧
       (∀ (n : Nat) (x : Slot), hints[n]? = some x → finished t.cue (entry n) 0 (natDWord x.val) 0) ∧
       ∀ a, (∀ n, n < hints.length → ¬inEntryResults (entry n) a) → Memory.read t.cue a = Memory.read s.cue a) ∧
     ∀ takings : Fin 5, ∃ t, exec (.registerWriteOther (.resetWithin (.scan takings))) s = .next t ∧ t.ResetValues ∧
       (∀ (n : Nat) (x : Slot), n < takings.val → hints[n]? = some x →
         finished t.cue (entry n) 0 (natDWord x.val) 0) ∧
       ∀ a, (∀ n, n < takings.val → n < hints.length → ¬inEntryResults (entry n) a) →
         Memory.read t.cue a = Memory.read s.cue a)

/-- R106 with R43, R47, R51, R105: an INSERT SCENE that passes its checks, with no pass RECORDING or at a position
outside the on-air interval, takes the slot on top of the free stack, writes START, DISSOLVE clamped, ORIGIN INSERTED,
RIPPLE MARK 0, the tag and the clamped grade into it with its serial one higher, and links it after the scene that
covered POSITION; RESULT A is the slot and RESULT B its serial. -/
def Obligations.InsertSceneLinksNewScene : Prop :=
  ∀ (s : State) (i : Fin 32) (x : Slot) (free : List Slot), s.OneRequest i 0x01 → s.requests.freeStack = x :: free →
    sceneListLaw s.cue (x :: free) → inRange (operandPosition s.cue i) →
    (∀ y : Slot, listed s.cue y = true → sceneStart s.cue y ≠ operandPosition s.cue i) →
    s.freeToPlace (operandPosition s.cue i) →
    ∃ (t : State) (code : Nat) (pred : Slot), exec .activeStart s = .next t ∧
      (listed s.cue pred = true ∧ covers s.cue pred (operandPosition s.cue i) = true) ∧
      finished t.cue i code (natDWord x.val) (wordDWord (slotWordAt s.cue x 7 + 1)) ∧
      (code = 0 ↔
        (∀ k : Fin 10, paramInRange k (entryWord s.cue i (19 + k.val)).toInt) ∧
          0 ≤ (entryWord s.cue i 14).toInt ∧ (entryWord s.cue i 14).toInt ≤ 250) ∧ code ≤ 1 ∧
      t.requests.freeStack = free ∧ sceneListLaw t.cue free ∧ t.tracker = s.tracker ∧
      listed t.cue x = true ∧ sceneNext t.cue pred = some x ∧ scenePrev t.cue x = some pred ∧
      sceneNext t.cue x = sceneNext s.cue pred ∧
      sceneStart t.cue x = operandPosition s.cue i ∧
      (sceneDissolve t.cue x : Int) = max 0 (min 250 (entryWord s.cue i 14).toInt) ∧
      slotWordAt t.cue x 6 = 2 ∧ slotWordAt t.cue x 7 = slotWordAt s.cue x 7 + 1 ∧ slotWordAt t.cue x 8 = 0 ∧
      sceneTag t.cue x = operandTag s.cue i ∧
      (∀ k : Fin 10, (sceneGrade t.cue x)[k] = clampParam k (entryWord s.cue i (19 + k.val)).toInt) ∧
      s.AfterRequest t i fun a =>
        inSlotFields x a ∨ a = slotBase pred + 1 ∨ ∃ y, sceneNext s.cue pred = some y ∧ a = slotBase y + 2

/-- R101, R102, R103, R104, R105, R106, R107, R108, R109, R110, R111, R124, R130: requests that are refused. An
unknown KIND is BAD_KIND. An INSERT SCENE is BAD_POSITION outside the position range, then DUPLICATE_START with the
slot that starts there, then ON_AIR inside the on-air interval while RECORDING, then LIST_FULL; a MOVE SCENE the same
of its new position, and ON_AIR for a slot of the on-air set too. An edit of a slot that is not listed, or of the base
scene where the request does not admit it, is BAD_SLOT; one of a slot of the on-air set while RECORDING is ON_AIR with
the on-air slot. A RIPPLE is BAD_SLOT where an end is not listed or the first comes after the last, and ON_AIR where
its run holds a slot of the set while RECORDING. A CANCEL RIPPLE without a ripple in flight is NOT_NOW. Each changes
nothing besides its own entry but the take index and, with NOTIFY set, the REQUEST cause and REQUEST NOTIFY. -/
def Obligations.RequestsAreRefusedInOrder : Prop :=
  ∀ (s : State) (i : Fin 32) (kind : Nat), s.OneRequest i kind →
    (let refused (code : Nat) (a : DWord) : Prop :=
       ∃ t, exec .activeStart s = .next t ∧ finished t.cue i code a 0 ∧ t.tracker = s.tracker ∧
         t.requests.freeStack = s.requests.freeStack ∧ t.requests.setupFault = s.requests.setupFault ∧
         s.AfterRequest t i fun _ => False
     let p := operandPosition s.cue i
     let onAirSlot (a : Slot) : Prop :=
       s.pass.state = .recording ∧ ∃ serial, s.tracker.lastResolved = some (a, serial)
     let inSet (a x : Slot) : Prop :=
       x = a ∨ (listed s.cue a = true ∧ ((a ≠ 0 ∧ scenePrev s.cue a = some x) ∨ sceneNext s.cue a = some x))
     let inInterval (a : Slot) : Prop :=
       listed s.cue a = true ∧ sceneStart s.cue a < p ∧ ∀ y, sceneNext s.cue a = some y → p < sceneStart s.cue y
     (kind = 0 ∨ (10 ≤ kind ∧ kind ≤ 15) ∨ 25 ≤ kind → refused 2 0) ∧
     (kind = 0x01 → ¬inRange p → refused 4 0) ∧
     (∀ l, kind = 0x01 → inRange p → isSceneList s.cue l →
       (∀ y : Slot, listed s.cue y = true → sceneStart s.cue y = p → refused 5 (natDWord y.val)) ∧
       ((∀ y : Slot, listed s.cue y = true → sceneStart s.cue y ≠ p) →
         (∀ a, onAirSlot a → inInterval a → refused 7 (natDWord a.val)) ∧
         (s.freeToPlace p → s.requests.freeStack = [] → refused 6 0))) ∧
     (kind = 0x02 ∨ kind = 0x03 ∨ kind = 0x05 →
       (∀ x : Slot, x ≠ 0 → entryWord s.cue i 8 = natWord x.val → listed s.cue x = false) → refused 3 0) ∧
     (kind = 0x04 ∨ kind = 0x06 →
       (∀ x : Slot, entryWord s.cue i 8 = natWord x.val → listed s.cue x = false) → refused 3 0) ∧
     (∀ x a : Slot, kind = 0x02 ∨ kind = 0x04 ∨ kind = 0x05 ∨ kind = 0x06 → entryWord s.cue i 8 = natWord x.val →
       (x ≠ 0 ∨ kind = 0x04 ∨ kind = 0x06) → listed s.cue x = true → onAirSlot a → inSet a x →
       refused 7 (natDWord a.val)) ∧
     (∀ (x : Slot) (l : List Slot), kind = 0x03 → isSceneList s.cue l → entryWord s.cue i 8 = natWord x.val → x ≠ 0 →
       listed s.cue x = true →
       (¬inRange p → refused 4 0) ∧
       (inRange p →
         (∀ y : Slot, listed s.cue y = true → y ≠ x → sceneStart s.cue y = p → refused 5 (natDWord y.val)) ∧
         ((∀ y : Slot, listed s.cue y = true → y ≠ x → sceneStart s.cue y ≠ p) →
           ∀ a, onAirSlot a → inSet a x ∨ inInterval a → refused 7 (natDWord a.val)))) ∧
     (kind = 0x07 →
       ((∀ x : Slot, entryWord s.cue i 8 = natWord x.val → listed s.cue x = false) ∨
         (∀ x : Slot, entryWord s.cue i 9 = natWord x.val → listed s.cue x = false) → refused 3 0) ∧
       ∀ (l : List Slot) (m n : Nat) (hm : m < l.length) (hn : n < l.length), isSceneList s.cue l →
         entryWord s.cue i 8 = natWord (l[m]'hm).val → entryWord s.cue i 9 = natWord (l[n]'hn).val →
         (n < m → refused 3 0) ∧
         (m ≤ n → ∀ (a x : Slot) (o : Nat), m ≤ o → o ≤ n → l[o]? = some x → onAirSlot a → inSet a x →
           refused 7 (natDWord a.val))) ∧
     (kind = 0x18 → refused 8 0))

/-- R107 with R38, R43, R65: a DELETE SCENE that passes its checks unlinks the scene, marks its slot FREE with every
other word of it kept, pushes it on the free stack and moves the tracker's current slot to the predecessor where it
stood on the scene; RESULT A is the predecessor's slot. -/
def Obligations.DeleteSceneFreesSlot : Prop :=
  ∀ (s : State) (i : Fin 32) (x : Slot), s.OneRequest i 0x02 → sceneListLaw s.cue s.requests.freeStack →
    entryWord s.cue i 8 = natWord x.val → x ≠ 0 → listed s.cue x = true → s.freeToEdit x →
    ∃ (t : State) (pred : Slot), exec .activeStart s = .next t ∧ scenePrev s.cue x = some pred ∧
      finished t.cue i 0 (natDWord pred.val) 0 ∧ t.requests.freeStack = x :: s.requests.freeStack ∧
      sceneListLaw t.cue t.requests.freeStack ∧ listed t.cue x = false ∧
      sceneNext t.cue pred = sceneNext s.cue x ∧
      (∀ k, 1 ≤ k → k < 32 → slotWordAt t.cue x k = slotWordAt s.cue x k) ∧
      t.tracker = { s.tracker with current := if s.tracker.current = x then pred else s.tracker.current } ∧
      s.AfterRequest t i fun a =>
        a = slotBase x ∨ a = slotBase pred + 1 ∨ ∃ y, sceneNext s.cue x = some y ∧ a = slotBase y + 2

/-- R108 with R47, R65, R105: a MOVE SCENE that passes its checks, with no pass RECORDING or outside the on-air set,
gives the scene its new START and a serial one higher, keeps its DISSOLVE, ORIGIN, RIPPLE MARK, tag and grade, and
relinks it in order; RESULT A is the new serial and RESULT B the START it had; a current slot on it moves to its old
predecessor. -/
def Obligations.MoveSceneRelinksScene : Prop :=
  ∀ (s : State) (i : Fin 32) (x : Slot), s.OneRequest i 0x03 → sceneListLaw s.cue s.requests.freeStack →
    entryWord s.cue i 8 = natWord x.val → x ≠ 0 → listed s.cue x = true → inRange (operandPosition s.cue i) →
    (∀ y : Slot, listed s.cue y = true → y ≠ x → sceneStart s.cue y ≠ operandPosition s.cue i) →
    s.freeToEdit x → s.freeToPlace (operandPosition s.cue i) →
    ∃ t, exec .activeStart s = .next t ∧
      finished t.cue i 0 (wordDWord (slotWordAt s.cue x 7 + 1)) (signedDWord (sceneStart s.cue x)) ∧
      t.requests.freeStack = s.requests.freeStack ∧ sceneListLaw t.cue t.requests.freeStack ∧ listed t.cue x = true ∧
      sceneStart t.cue x = operandPosition s.cue i ∧ slotWordAt t.cue x 7 = slotWordAt s.cue x 7 + 1 ∧
      (∀ k, k = 5 ∨ k = 6 ∨ (8 ≤ k ∧ k < 32) → slotWordAt t.cue x k = slotWordAt s.cue x k) ∧
      (∀ (y : Slot) (k : Nat), y ≠ x → k < 32 → k ≠ 1 → k ≠ 2 → slotWordAt t.cue y k = slotWordAt s.cue y k) ∧
      (s.tracker.current ≠ x → t.tracker = s.tracker) ∧
      (∀ p, s.tracker.current = x → scenePrev s.cue x = some p → t.tracker = { s.tracker with current := p }) ∧
      s.AfterRequest t i inSceneFields

/-- R109, R110, R111 with R47, R52: REGRADE SCENE writes the masked parameters, clamped, SET DISSOLVE the length,
clamped, STORE LIVE the sums of the grade and the trim in force, clamped, each into the slot named, and adds 1 to its
serial (a REGRADE SCENE with no flag set writes nothing). RESULT A is the serial; RESULT B is the number of masked
values, or of sums, that were clamped, and for SET DISSOLVE the length written. The code is OK where nothing was
clamped, OK_CLAMPED otherwise. No other slot changes. -/
def Obligations.EditsInPlaceWriteTheirFields : Prop :=
  ∀ (s : State) (i : Fin 32) (x : Slot) (kind : Nat), s.OneRequest i kind → entryWord s.cue i 8 = natWord x.val →
    listed s.cue x = true → s.freeToEdit x → (kind = 0x04 ∨ kind = 0x06 ∨ (kind = 0x05 ∧ x ≠ 0)) →
    ∃ t, exec .activeStart s = .next t ∧
      (let flag (k : Fin 10) : Bool := (entryWord s.cue i 15).getLsbD k.val
       let operand (k : Fin 10) : Int := (entryWord s.cue i (19 + k.val)).toInt
       let sum (k : Fin 10) : Int := (sceneGrade s.cue x)[k] + s.engine.deltas[k]
       let length := (entryWord s.cue i 14).toInt
       let answers (clamped : Nat) (b : DWord) : Prop :=
         finished t.cue i (if clamped = 0 then 0 else 1) (wordDWord (slotWordAt t.cue x 7)) b
       slotWordAt t.cue x 7 =
         (if kind = 0x04 ∧ (∀ k : Fin 10, flag k = false) then slotWordAt s.cue x 7 else slotWordAt s.cue x 7 + 1) ∧
       (kind = 0x04 →
         (∀ k : Fin 10,
           slotWordAt t.cue x (12 + k.val) =
             if flag k = true then signedWord (clampParam k (operand k)) else slotWordAt s.cue x (12 + k.val)) ∧
         slotWordAt t.cue x 5 = slotWordAt s.cue x 5 ∧
         answers (clampedAmong flag operand) (natDWord (clampedAmong flag operand))) ∧
       (kind = 0x05 →
         (sceneDissolve t.cue x : Int) = max 0 (min 250 length) ∧
         (∀ k : Fin 10, slotWordAt t.cue x (12 + k.val) = slotWordAt s.cue x (12 + k.val)) ∧
         answers (if 0 ≤ length ∧ length ≤ 250 then 0 else 1) (natDWord (sceneDissolve t.cue x))) ∧
       (kind = 0x06 →
         (∀ k : Fin 10, (sceneGrade t.cue x)[k] = clampParam k (sum k)) ∧
         slotWordAt t.cue x 5 = slotWordAt s.cue x 5 ∧
         answers (clampedAmong (fun _ => true) sum) (natDWord (clampedAmong (fun _ => true) sum)))) ∧
      t.tracker = s.tracker ∧ t.requests.freeStack = s.requests.freeStack ∧
      s.AfterRequest t i fun a => a = slotBase x + 5 ∨ a = slotBase x + 7 ∨ (slotBase x + 12 ≤ a ∧ a < slotBase x + 22)

/-- R112 with R43, R105: CLEAR LIST is refused NOT_NOW while a pass is CUED, RECORDING or PAUSED; otherwise it leaves
the base scene alone on the list, pushes every other slot in list order, makes the current slot the base scene, and
finishes OK with RESULT A the number unlinked. -/
def Obligations.ClearListLeavesBaseScene : Prop :=
  ∀ (s : State) (i : Fin 32) (l : List Slot), s.OneRequest i 0x08 → isSceneList s.cue l →
    ∃ t, exec .activeStart s = .next t ∧
      (s.pass.state = .cued ∨ s.pass.state = .recording ∨ s.pass.state = .paused →
        finished t.cue i 8 0 0 ∧ t.tracker = s.tracker ∧ t.requests.freeStack = s.requests.freeStack ∧
        s.AfterRequest t i fun _ => False) ∧
      (s.pass.state = .idle ∨ s.pass.state = .complete ∨ s.pass.state = .faulted →
        finished t.cue i 0 (natDWord (l.length - 1)) 0 ∧ isSceneList t.cue [0] ∧
        t.requests.freeStack = l.tail.reverse ++ s.requests.freeStack ∧ t.tracker = { s.tracker with current := 0 } ∧
        (∀ k, k ≠ 1 → k < 32 → slotWordAt t.cue 0 k = slotWordAt s.cue 0 k) ∧ s.AfterRequest t i inSceneFields)

/-- R113, R115 with R8, R25, R105, R153, R154, R156, R157: APPLY SET-UP is refused NOT_NOW while a pass is CUED,
RECORDING or PAUSED, and SETUP_INVALID with the offending offset, which becomes the setup fault value, where the block
fails; a block that passes becomes the set-up in force word for word, the counter keeps its frame, and its count where
the gauge stands, and becomes GOOD, a changed video mode sets the align-pending flag, and the matrix takes the
selections and modes; what takesSelections says of a line made ALIGNED is the model's choice (logs 17, 36). -/
def Obligations.ApplySetupTakesValidBlock : Prop :=
  ∀ (s : State) (i : Fin 32), s.OneRequest i 0x09 →
    ∃ t, exec .activeStart s = .next t ∧
      (s.pass.state = .cued ∨ s.pass.state = .recording ∨ s.pass.state = .paused →
        finished t.cue i 8 0 0 ∧ t.requests.setupFault = s.requests.setupFault ∧
        s.AfterRequest t i fun _ => False) ∧
      (s.pass.state = .idle ∨ s.pass.state = .complete ∨ s.pass.state = .faulted →
        (∀ o, o < 42 → ¬validSetupWord o (Memory.read s.cue o) (Memory.read s.cue 10) →
          (∀ p, p < o → validSetupWord p (Memory.read s.cue p) (Memory.read s.cue 10)) →
          finished t.cue i 10 (natDWord o) 0 ∧ t.requests.setupFault = some o ∧ s.AfterRequest t i fun _ => False) ∧
        (validSetupBlock s.cue →
          finished t.cue i 0 0xFFFF 0 ∧ t.requests.setupFault = none ∧
          (∀ o, o < 42 → t.setup.word o = Memory.read s.cue o) ∧
          t.position = { s.position with count := t.position.count, state := .good, gauge := t.setup.gauge } ∧
          t.position.frame = s.position.frame ∧
          (t.setup.gauge ≠ s.position.gauge → t.position.phase = 0) ∧
          (t.setup.gauge = s.position.gauge → t.position.count = s.position.count) ∧
          s.takesSelections t ∧
          t.matrix.notifyWaiting = (s.matrix.notifyWaiting || notifyFlag s.cue i) ∧
          t.port =
            { s.port with
              causes := if notifyFlag s.cue i then s.port.causes ||| Cause.request.mask else s.port.causes } ∧
          t.sequencer =
            { s.sequencer with
              activeStartTaken := true
              alignPending := s.sequencer.alignPending || decide (t.setup.videoMode ≠ s.setup.videoMode) } ∧
          t.engine = s.engine ∧ t.pass = s.pass ∧ t.writer = s.writer ∧
          ∀ a, ¬inEntryResults i a → Memory.read t.cue a = Memory.read s.cue a)) ∧
      t.tracker = s.tracker ∧ t.requests.freeStack = s.requests.freeStack

/-- R116, R117 with R25, R64, R160: LOCATE makes a listed hint the current slot and finishes OK with RESULT A the
hint, and is refused BAD_SLOT otherwise; CADENCE ALIGN sets the align-pending flag; PULSE CHANNEL makes an inversion
pending on each channel of the mask that has none, with RESULT A the low eight bits of the mask (DEDUCED, log 32).
Nothing of the list changes. -/
def Obligations.ImmediateRequestsReachTheirBlocks : Prop :=
  ∀ (s : State) (i : Fin 32),
    (s.OneRequest i 0x10 → ∃ t, exec .activeStart s = .next t ∧
      (∀ x : Slot, entryWord s.cue i 8 = natWord x.val → listed s.cue x = true →
        finished t.cue i 0 (natDWord x.val) 0 ∧ t.tracker = { s.tracker with current := x }) ∧
      ((∀ x : Slot, entryWord s.cue i 8 = natWord x.val → listed s.cue x = false) →
        finished t.cue i 3 0 0 ∧ t.tracker = s.tracker) ∧
      t.requests.freeStack = s.requests.freeStack ∧ s.AfterRequest t i fun _ => False) ∧
    (s.OneRequest i 0x16 → ∃ t, exec .activeStart s = .next t ∧ finished t.cue i 0 0 0 ∧
      t.sequencer = { s.sequencer with activeStartTaken := true, alignPending := true } ∧ t.tracker = s.tracker ∧
      t.pass = s.pass ∧ t.position = s.position ∧ t.engine = s.engine ∧ t.setup = s.setup ∧
      ∀ a, ¬inEntryResults i a → Memory.read t.cue a = Memory.read s.cue a) ∧
    (s.OneRequest i 0x11 → ∃ t, exec .activeStart s = .next t ∧
      finished t.cue i 0 (wordDWord (entryWord s.cue i 33 &&& 0x00FF)) 0 ∧
      (∀ c : Fin 8,
        t.matrix.inversion[c] =
          if (entryWord s.cue i 33).getLsbD c.val = true ∧ s.matrix.inversion[c] = .none then .pending
          else s.matrix.inversion[c]) ∧
      t.tracker = s.tracker ∧ t.pass = s.pass ∧ t.position = s.position ∧ t.engine = s.engine ∧ t.setup = s.setup ∧
      ∀ a, ¬inEntryResults i a → Memory.read t.cue a = Memory.read s.cue a)

/-- R91, R118: PROBE runs the pixel transform on the three input words, each clamped to 0…1023, with the coefficient
set in force or the named slot's grade, under the set-up in force, and writes the three output codes and the luma;
OK_CLAMPED where an input was clamped. A source that is neither is BAD_KIND, a slot not listed BAD_SLOT. -/
def Obligations.ProbeWritesTransformedPixel : Prop :=
  ∀ (s : State) (i : Fin 32), s.OneRequest i 0x17 →
    ∃ t, exec .activeStart s = .next t ∧
      (let input (k : Nat) : Int := max 0 (min 1023 (entryWord s.cue i (29 + k)).toInt)
       let within : Prop :=
         ∀ k, k < 3 → 0 ≤ (entryWord s.cue i (29 + k)).toInt ∧ (entryWord s.cue i (29 + k)).toInt ≤ 1023
       let probed (g : Grade) : Prop :=
         let out := transform g s.setup (input 0) (input 1) (input 2)
         entryWord t.cue i 36 = signedWord out.red ∧ entryWord t.cue i 37 = signedWord out.green ∧
           entryWord t.cue i 38 = signedWord out.blue ∧ entryWord t.cue i 39 = signedWord out.luma ∧
           (within → finished t.cue i 0 0 0) ∧ (¬within → finished t.cue i 1 0 0)
       (entryWord s.cue i 32 = 0 → probed s.engine.coefficients) ∧
       (entryWord s.cue i 32 = 1 →
         (∀ x : Slot, entryWord s.cue i 8 = natWord x.val → listed s.cue x = true → probed (sceneGrade s.cue x)) ∧
         ((∀ x : Slot, entryWord s.cue i 8 = natWord x.val → listed s.cue x = false) → finished t.cue i 3 0 0)) ∧
       (entryWord s.cue i 32 ≠ 0 → entryWord s.cue i 32 ≠ 1 → finished t.cue i 2 0 0)) ∧
      t.tracker = s.tracker ∧ t.requests.freeStack = s.requests.freeStack ∧ s.AfterRequest t i fun _ => False

/-- R97: once initialised, the TAKEN entries are at every step the entry of the ripple in flight and no other, and a
setup fault value is an offset of the block. -/
def Obligations.OnlyRippleEntryIsTaken : Prop :=
  ∀ s t : State, s.RequestLaw → step s = .next t → t.RequestLaw

/-! ### Ripple and split -/

/-- R123, R124, R125, R126, R128: a RIPPLE over the a-th to the b-th scene of the list, with no pass RECORDING, takes
the next number, its step, mask and deltas and visits scenes in order from the first, up to its step. A scene whose
mark is not the number gets each masked delta added to its parameter, clamped, the number as its mark, and 1 added to
its serial where a flag is set; one that carries the number is skipped, and no other scene changes. At the end slot
the entry finishes with the count done and the clamped count, OK where that is 0 and OK_CLAMPED otherwise; short of it
the entry stays TAKEN and the ripple goes on from the next scene with the counts so far. -/
def Obligations.RippleAppliesDeltasOnce : Prop :=
  ∀ (s : State) (i : Fin 32) (l : List Slot) (a b : Nat) (ha : a < l.length) (hb : b < l.length),
    s.OneRequest i 0x07 → isSceneList s.cue l → a ≤ b → entryWord s.cue i 8 = natWord (l[a]'ha).val →
    entryWord s.cue i 9 = natWord (l[b]'hb).val → s.pass.state ≠ .recording → 1 ≤ s.setup.rippleStep →
    ∃ (t : State) (r : Ripple), exec .activeStart s = .next t ∧
      r.number = (if s.requests.rippleCounter = 0xFFFF then 1 else s.requests.rippleCounter + 1) ∧
      t.requests.rippleCounter = r.number ∧ r.entry = i ∧ r.next = l[a]'ha ∧ r.last = l[b]'hb ∧
      r.step = s.setup.rippleStep ∧ r.done = 0 ∧ r.clamped = 0 ∧
      (∀ k : Fin 10, r.mask[k] = (entryWord s.cue i 15).getLsbD k.val ∧
        r.deltas[k] = (entryWord s.cue i (19 + k.val)).toInt) ∧
      s.visitsMade t r l a b ∧ t.requests.takeIndex = i + 1 ∧
      t.tracker = s.tracker ∧ t.requests.freeStack = s.requests.freeStack ∧ t.pass = s.pass ∧ t.engine = s.engine ∧
      t.position = s.position ∧ t.writer = s.writer ∧ t.setup = s.setup ∧
      ∀ x, ¬inEntryResults i x → ¬inSceneFields x → Memory.read t.cue x = Memory.read s.cue x

/-- R100, R125, R126, R127, R128, R130: a ripple in flight at a later ACTIVE_START. With no pass RECORDING and nothing
taken it makes its next visits, from its next slot toward its end slot, up to its step, with the number, mask, deltas
and counts it holds. What ends it short of its end slot: a CANCEL RIPPLE finishes its entry REFUSED ABORTED with the
counts it had reached, and its own entry OK with the entry index and the number ended; a visit to an unmarked scene
that finds the pass RECORDING and the scene in the on-air set finishes the entry REFUSED ON_AIR. Neither of these
changes the scene table. -/
def Obligations.RippleGoesOnOrEnds : Prop :=
  ∀ (s : State) (i : Fin 32) (r : Ripple), s.port.run = .running → s.sequencer.activeStartTaken = false →
    s.engine.read = none → s.requests.splitPending = none → s.requests.ripple = some r → s.requests.takeIndex = i →
    i ≠ r.entry →
    (∃ t, exec .activeStart s = .next t ∧
      (∀ (l : List Slot) (a b : Nat), (entryWord s.cue i 0 ≠ 1 ∨ (1 ≤ (entryWord s.cue i 1).toNat ∧
          (entryWord s.cue i 1).toNat ≤ 9)) → 1 ≤ r.step → s.pass.state ≠ .recording → isSceneList s.cue l →
        l[a]? = some r.next → l[b]? = some r.last → a ≤ b → entryWord s.cue r.entry 0 = 2 →
        s.visitsMade t r l a b ∧ t.requests.takeIndex = i ∧ t.requests.rippleCounter = s.requests.rippleCounter ∧
        t.tracker = s.tracker ∧ t.pass = s.pass ∧ t.requests.freeStack = s.requests.freeStack ∧
        ∀ x, ¬inEntryResults r.entry x → ¬inSceneFields x → Memory.read t.cue x = Memory.read s.cue x) ∧
      (entryWord s.cue i 0 = 1 → entryWord s.cue i 1 = 0x18 → entryWord s.cue (i + 1) 0 ≠ 1 →
        t.requests.ripple = none ∧ t.requests.takeIndex = i + 1 ∧
        finished t.cue i 0 (natDWord r.entry.val) (wordDWord r.number) ∧
        finished t.cue r.entry 9 (natDWord r.done) (natDWord r.clamped) ∧
        t.tracker = s.tracker ∧ t.pass = s.pass ∧ t.requests.freeStack = s.requests.freeStack ∧
        ∀ x, ¬inEntryResults i x → ¬inEntryResults r.entry x → Memory.read t.cue x = Memory.read s.cue x) ∧
      (entryWord s.cue i 0 ≠ 1 → 1 ≤ r.step → s.pass.state = .recording → s.onAirHolds r.next = true →
        sceneMark s.cue r.next ≠ r.number →
        t.requests.ripple = none ∧ t.requests.takeIndex = i ∧
        finished t.cue r.entry 7 (natDWord r.done) (natDWord r.clamped) ∧
        t.tracker = s.tracker ∧ t.pass = s.pass ∧ t.requests.freeStack = s.requests.freeStack ∧
        ∀ x, ¬inEntryResults r.entry x → Memory.read t.cue x = Memory.read s.cue x))

/-- R129, R132, R133, R134: a pulse of the SPLIT user at a FIELD_START of a RUNNING part sets the split pending at the
field frame where none is pending; one already pending keeps its frame, and without a pulse nothing is set. The split
pending is executed first at an open ACTIVE_START of a RUNNING part. It is dropped with a SPLIT report of reason
DUPLICATE where a scene starts at its frame, ON_AIR while RECORDING, FULL where the free stack is empty. Otherwise the
slot on top of the stack becomes a SPLIT scene from that frame on, with DISSOLVE 0, no tag, and the covering scene's
mark and grade, the trim added and clamped where it is baked, linked after the covering scene, whose other fields and
serial stand, and a SPLIT report of reason OK is written. The current slot stands. While a ripple is in flight, a
split of the scene it last visited puts the new scene, which carries its number, before its next slot: a visit there
skips it, and the ripple stands as it was before the split. -/
def Obligations.SplitCutsCoveringScene : Prop :=
  (∀ (id : FieldIdentity) (s : State), ∃ t, exec (.fieldStart id) s = .next t ∧
    (∀ f, s.requests.splitPending = some f → t.requests.splitPending = some f) ∧
    (s.requests.splitPending = none →
      (s.port.run = .running ∧ s.turnInversions.presentsPulse 6 = true →
        t.requests.splitPending = some s.position.frame) ∧
      (¬(s.port.run = .running ∧ s.turnInversions.presentsPulse 6 = true) → t.requests.splitPending = none))) ∧
  ∀ (s : State) (f : Int) (l : List Slot), s.port.run = .running → s.sequencer.activeStartTaken = false →
    s.engine.read = none → s.requests.splitPending = some f → s.requests.ripple = none →
    s.requests.notifyDue = false → entryWord s.cue s.requests.takeIndex 0 ≠ 1 → inRange f → isSceneList s.cue l →
    (let taken : State :=
       { s with
         sequencer := { s.sequencer with activeStartTaken := true }
         requests := { s.requests with splitPending := none } }
     let dropped (reason : Word) (cover : Slot) : Prop :=
       exec .activeStart s =
         .next
           (taken.hand
             { kind := .split, frame := f, slot := none, serial := 0
               detail := [reason, natWord cover.val, 0, 0, 0] })
     let starts (y : Slot) : Prop := listed s.cue y = true ∧ sceneStart s.cue y = f
     (∀ y, starts y → dropped 1 y) ∧
     ((∀ y, ¬starts y) → ∃ cover : Slot, (listed s.cue cover = true ∧ covers s.cue cover f = true) ∧
       (s.pass.state = .recording → dropped 2 cover) ∧
       (s.pass.state ≠ .recording → s.requests.freeStack = [] → dropped 3 cover) ∧
       ∀ (x : Slot) (free : List Slot), s.pass.state ≠ .recording → s.requests.freeStack = x :: free →
         sceneListLaw s.cue (x :: free) →
         ∃ t, exec .activeStart s = .next t ∧ t.requests.splitPending = none ∧ t.requests.freeStack = free ∧
           sceneListLaw t.cue free ∧ listed t.cue x = true ∧
           sceneStart t.cue x = f ∧ sceneDissolve t.cue x = 0 ∧ slotWordAt t.cue x 6 = 3 ∧ sceneTag t.cue x = none ∧
           sceneMark t.cue x = sceneMark s.cue cover ∧ slotWordAt t.cue x 7 = slotWordAt s.cue x 7 + 1 ∧
           (s.setup.splitBakesTrim = true ∧ s.engine.enable = true →
             ∀ k : Fin 10,
               (sceneGrade t.cue x)[k] = clampParam k ((sceneGrade s.cue cover)[k] + s.engine.deltas[k])) ∧
           (¬(s.setup.splitBakesTrim = true ∧ s.engine.enable = true) →
             ∀ k : Fin 10, (sceneGrade t.cue x)[k] = (sceneGrade s.cue cover)[k]) ∧
           (s.hasRoom 1 →
             (let bakes := s.setup.splitBakesTrim && s.engine.enable
              s.wrote t
                [{ kind := .split, frame := f, slot := some x, serial := slotWordAt t.cue x 7
                   detail :=
                     [0, natWord cover.val, sceneMark s.cue cover, if bakes then 1 else 0,
                       natWord
                         (clampedAmong (fun _ => bakes) fun k => (sceneGrade s.cue cover)[k] + s.engine.deltas[k])] }])) ∧
           sceneNext t.cue cover = some x ∧ scenePrev t.cue x = some cover ∧
           sceneNext t.cue x = sceneNext s.cue cover ∧
           (∀ k, k ≠ 1 → k < 32 → slotWordAt t.cue cover k = slotWordAt s.cue cover k) ∧
           t.tracker = s.tracker ∧ t.pass = s.pass ∧ t.engine = s.engine ∧ t.position = s.position ∧
           t.setup = s.setup ∧
           ∀ a, ¬inSceneFields a → ¬inRing a → Memory.read t.cue a = Memory.read s.cue a) ∧
     ∀ (r : Ripple) (cover x : Slot) (free : List Slot), s.pass.state ≠ .recording →
       s.requests.freeStack = x :: free → sceneListLaw s.cue (x :: free) → (∀ y, ¬starts y) →
       listed s.cue cover = true → covers s.cue cover f = true → sceneNext s.cue cover = some r.next →
       sceneMark s.cue cover = r.number → r.step = 1 → listed s.cue r.last = true →
       ∃ t, exec .activeStart { s with requests := { s.requests with ripple := some r } } = .next t ∧
         t.requests.ripple = some r ∧ t.requests.freeStack = free ∧ sceneListLaw t.cue free ∧
         sceneNext t.cue cover = some x ∧ sceneNext t.cue x = some r.next ∧ sceneStart t.cue x = f ∧
         sceneMark t.cue x = r.number ∧
         (∀ k, k ≠ 2 → k < 32 → slotWordAt t.cue r.next k = slotWordAt s.cue r.next k) ∧
         ∀ a, ¬inSceneFields a → ¬inRing a → Memory.read t.cue a = Memory.read s.cue a)

/-! ### Transfer passes -/

/-- R139, R140, R141, R142, R145: what a FIELD_START makes of the pass. While CUED: entry at the in-frame on the first
field of an A frame while LOCKED, MISSED_CUE past it while the film moves forward, waiting otherwise. While RECORDING,
a cadence-frame start that carries the expected frame counts a frame and completes, pauses or goes on, one below it is
REVERSED and one above it FRAME_SKIP; any other field must be phased and carry the frame on air, or LOCK_LOST. A PASS
STOP pulse taken after the judgement sets stop pending of a RECORDING pass. Any other pass stands. The PASS cause is
set at an entry into PAUSED, COMPLETE or FAULTED. -/
def Obligations.FieldStartJudgesPass : Prop :=
  ∀ (id : FieldIdentity) (s : State), ∃ t, exec (.fieldStart id) s = .next t ∧
    (let p := s.pass
     let f := s.position.frame
     let stop := s.turnInversions.presentsPulse 9
     let start : Prop :=
       t.sequencer.phase = some 0 ∨
         (s.setup.videoMode = .m60_32 ∧
           (t.sequencer.phase = some 2 ∨ t.sequencer.phase = some 5 ∨ t.sequencer.phase = some 7))
     let enters : Prop := f = p.inFrame ∧ t.sequencer.phase = some 0 ∧ t.sequencer.locked = true
     let missed : Prop := p.inFrame < f ∧ s.position.direction = .forward
     let faulted (c : Condition) : Prop :=
       t.pass =
         { p with
           state := .faulted, condition := c, stopPending := false
           expected := if p.state = .recording then p.expected - 1 else p.expected }
     let remaining := if p.openEnded then p.remaining else p.remaining - 1
     let completes : Prop := p.openEnded = false ∧ remaining = 0
     let counted : Pass := { p with recorded := p.recorded + 1, remaining := remaining }
     (p.state = .cued →
       (enters →
         t.pass =
           { p with
             state := .recording, expected := p.inFrame + 1, startFieldCount := t.sequencer.fieldCount
             stopPending := p.stopPending || stop }) ∧
       (¬enters → missed → faulted .missedCue) ∧ (¬enters → ¬missed → t.pass = p)) ∧
     (p.state = .recording → start →
       (f = p.expected → p.recorded < 4294967295 →
         (completes →
           t.pass = { counted with state := .complete, condition := .completed, stopPending := false }) ∧
         (¬completes → p.stopPending = true →
           t.pass = { counted with state := .paused, condition := .stopped, stopPending := false }) ∧
         (¬completes → p.stopPending = false →
           t.pass = { counted with expected := p.expected + 1, stopPending := stop })) ∧
       (f < p.expected → faulted .reversed) ∧ (p.expected < f → faulted .frameSkip)) ∧
     (p.state = .recording → ¬start →
       (t.sequencer.phase = none ∨ f ≠ p.expected - 1 → faulted .lockLost) ∧
       (t.sequencer.phase ≠ none → f = p.expected - 1 →
         t.pass = { p with stopPending := p.stopPending || stop })) ∧
     (p.state ≠ .cued → p.state ≠ .recording → t.pass = p) ∧
     (t.pass.state ≠ p.state → t.pass.state = .paused ∨ t.pass.state = .complete ∨ t.pass.state = .faulted →
       t.causeSet .pass = true) ∧
     t.generatorLevel .passGate = decide (t.pass.state = .recording))

/-- R119, R138, R142, R143, R144, R145, R150, R183: the pass requests. START PASS cues a pass from IDLE, COMPLETE or
FAULTED; STOP PASS sets stop pending while RECORDING; RESUME PASS cues a PAUSED pass at its expected frame; ABANDON
PASS ends a CUED or PAUSED pass IDLE and faults a RECORDING one. From any other state each is NOT_NOW, and START PASS
BAD_POSITION with its in-frame out of range. RESULT A and RESULT B are the codes of the state and the condition as
they stand after, and a change of state is written as one PASS report, whose codes are DEDUCED (log 31). -/
def Obligations.PassRequestsChangeThePass : Prop :=
  ([PassState.idle, .cued, .recording, .paused, .complete, .faulted].map PassState.code = List.range 6 ∧
    [Condition.none, .completed, .stopped, .abandoned, .missedCue, .frameSkip, .reversed, .lockLost, .referenceLost,
      .positionFault, .halted].map Condition.code = List.range 11) ∧
  ∀ (s : State) (i : Fin 32) (kind : Nat), s.OneRequest i kind → 0x12 ≤ kind → kind ≤ 0x15 →
    ∃ (t : State) (code : Nat), exec .activeStart s = .next t ∧
      finished t.cue i code (natDWord t.pass.state.code) (natDWord t.pass.condition.code) ∧
      (let p := s.pass
       let startable : Prop := p.state = .idle ∨ p.state = .complete ∨ p.state = .faulted
       let position := operandPosition s.cue i
       let count := operandCount s.cue i
       let refused (c : Nat) : Prop := code = c ∧ t.pass = p
       (kind = 0x12 →
         (¬startable → refused 8) ∧ (startable → ¬inRange position → refused 4) ∧
         (startable → inRange position →
           code = 0 ∧
           t.pass =
             { state := .cued, condition := .none, inFrame := position, requested := count, recorded := 0
               remaining := count, openEnded := decide (count = 0), stopPending := false, startFieldCount := 0
               expected := position })) ∧
       (kind = 0x13 →
         (p.state = .recording → code = 0 ∧ t.pass = { p with stopPending := true }) ∧
         (p.state ≠ .recording → refused 8)) ∧
       (kind = 0x14 →
         (p.state = .paused →
           code = 0 ∧ t.pass = { p with state := .cued, condition := .none, inFrame := p.expected }) ∧
         (p.state ≠ .paused → refused 8)) ∧
       (kind = 0x15 →
         (p.state = .cued ∨ p.state = .paused →
           code = 0 ∧ t.pass = { p with state := .idle, condition := .abandoned }) ∧
         (p.state = .recording →
           code = 0 ∧ t.causeSet .pass = true ∧
           t.pass =
             { p with state := .faulted, condition := .abandoned, stopPending := false, expected := p.expected - 1 }) ∧
         (startable → refused 8))) ∧
      (s.hasRoom 1 →
        s.wrote t
          (if t.pass.state = s.pass.state then [] else [passReport s.sequencer.fieldFrame s.pass.state t.pass])) ∧
      t.tracker = s.tracker ∧ t.engine = s.engine ∧ t.position = s.position ∧ t.setup = s.setup ∧
      t.requests = { s.requests with takeIndex := i + 1 } ∧
      ∀ a, ¬inEntryResults i a → ¬inPassBlock a → ¬inRing a → Memory.read t.cue a = Memory.read s.cue a

/-- R136, R137, R138, R140, R142, R145: every step keeps the law of the pass: recorded and remaining sum to requested,
the expected frame goes with the state, stop pending stands only while RECORDING, and the pass block shows the
controller's items. -/
def Obligations.PassStaysLawful : Prop :=
  ∀ s t : State, s.PositionLaw → s.PassLaw → step s = .next t → t.PassLaw

/-! ### Cue events and lines -/

/-- R152, R155, R156, R162, R163: a GPI_LINE_CHANGE gives the line its level, and each channel that selects its
generator the level, inverted while an inversion is in progress; no other channel changes. A rising channel sets the
edge-seen flag of every ALIGNED user on it that is not ignored, a changed one ends the holds on it. A LINE_HOLD_END
returns a DIRECT line to its channel's value and leaves every other line (a line without a hold is left alone: the
model's choice, log 13). -/
def Obligations.GeneralLinesReachTheirUsers : Prop :=
  (∀ (line : Fin 4) (level : Bool) (s : State), ∃ t, exec (.gpiLineChange line level) s = .next t ∧
    (∀ i : Fin 4, t.matrix.gpi[i] = if i = line then level else s.matrix.gpi[i]) ∧
    (∀ c : Fin 8,
      t.channel c =
        if s.setup.channelSelection[c].map Generator.number = some (12 + line.val) then
          Bool.xor level (s.matrix.inversion[c] == .inProgress)
        else s.channel c) ∧
    (∀ u : Fin 11,
      let counts : Bool :=
        if h : u.val < 6 then !(s.setup.gpoMode[u.val]'h).direct else decide (s.port.run ≠ .halted)
      (s.setup.userSelection[u] = none → t.matrix.edgeSeen[u] = s.matrix.edgeSeen[u]) ∧
      ∀ c, s.setup.userSelection[u] = some c →
        t.matrix.edgeSeen[u] = (s.matrix.edgeSeen[u] || (counts && !s.channel c && t.channel c))) ∧
    (∀ (g : Fin 6) (c : Fin 8), s.setup.userSelection[gpoUser g] = some c →
      t.matrix.hold[g] = if t.channel c = s.channel c then s.matrix.hold[g] else none) ∧
    (∀ g : Fin 6, s.setup.userSelection[gpoUser g] = none → t.matrix.hold[g] = s.matrix.hold[g]) ∧
    t =
      { s with
        matrix :=
          { s.matrix with gpi := t.matrix.gpi, edgeSeen := t.matrix.edgeSeen, hold := t.matrix.hold } }) ∧
  ∀ (line : Fin 6) (s : State), ∃ t, exec (.lineHoldEnd line) s = .next t ∧
    (∀ g : Fin 6, t.matrix.hold[g] = if g = line then none else s.matrix.hold[g]) ∧
    (∀ c : Fin 8, s.setup.userSelection[gpoUser line] = some c → s.setup.gpoMode[line].direct = true →
      t.gpo line = Bool.xor (s.channel c) s.setup.gpoMode[line].inverted) ∧
    (∀ g : Fin 6, g ≠ line → t.gpo g = s.gpo g) ∧
    t = { s with matrix := { s.matrix with hold := t.matrix.hold } }

/-- R103, R152, R153, R154, R155, R156, R160, R163: the matrix at a FIELD_START. Every inversion in progress ends and
every one pending starts; then a connected ALIGNED user that is not ignored presents high where its channel is high or
its edge-seen flag set, and presents a pulse exactly where the flag is set, the edge of an inversion counted; an
internal user that is off or ignored presents low and no pulse. The flags are then cleared: afterwards one is set
exactly where the channel rose or blipped at this FIELD_START. A DIRECT line holds a blip, and a change of its channel
ends a hold. An ALIGNED line drives its presented value under its polarity, an off line low. A REQUEST NOTIFY that
waited begins. That an ignored user's presented value is low is DEDUCED (log 28). -/
def Obligations.FieldStartPresentsUsers : Prop :=
  ∀ (id : FieldIdentity) (s : State), ∃ t, exec (.fieldStart id) s = .next t ∧
    (∀ c : Fin 8,
      (s.matrix.inversion[c] = .pending ↔ t.matrix.inversion[c] = .inProgress) ∧
      (s.matrix.inversion[c] ≠ .pending → t.matrix.inversion[c] = .none)) ∧
    (let turned (c : Fin 8) : Bool :=
       Bool.xor (s.signal s.setup.channelSelection[c]) (t.matrix.inversion[c] == .inProgress)
     let pulses := s.matrix.pulses
     let blipped (c : Fin 8) : Prop :=
       (s.setup.channelSelection[c] = some .fieldStart ∧ pulses.fieldStart = true) ∨
         (s.setup.channelSelection[c] = some .frameReference ∧ pulses.frameReference = true ∧
           t.matrix.pulses.frameReference = true) ∨
         (s.setup.channelSelection[c] = some .sceneChange ∧ pulses.sceneChange = true ∧
           t.matrix.pulses.sceneChange = true) ∨
         (s.setup.channelSelection[c] = some .requestNotify ∧ pulses.requestNotify = true ∧
           t.matrix.pulses.requestNotify = true)
     (∀ u : Fin 11,
       (∀ c, s.setup.userSelection[u] = some c → s.listens u →
         t.matrix.presented[u] = (s.matrix.edgeSeen[u] || turned c) ∧
         (s.turnInversions.presentsPulse u = true ↔
           s.matrix.edgeSeen[u] = true ∨ (s.channel c = false ∧ turned c = true)) ∧
         (t.matrix.edgeSeen[u] = true ↔ (turned c = false ∧ t.channel c = true) ∨ blipped c)) ∧
       (s.setup.userSelection[u] = none ∨ ¬s.listens u →
         s.turnInversions.presentsPulse u = false ∧ t.matrix.edgeSeen[u] = false ∧
         (6 ≤ u.val → t.matrix.presented[u] = false))) ∧
     ∀ (g : Fin 6) (c : Fin 8), s.setup.userSelection[gpoUser g] = some c → s.setup.gpoMode[g].direct = true →
       (blipped c → t.matrix.hold[g] = some { value := !t.channel c, period := s.setup.videoMode }) ∧
       (¬blipped c →
         t.matrix.hold[g] = if s.channel c = turned c ∧ turned c = t.channel c then s.matrix.hold[g] else none)) ∧
    (∀ g : Fin 6,
      (s.setup.userSelection[gpoUser g] = none → t.gpo g = false) ∧
      (∀ c, s.setup.userSelection[gpoUser g] = some c → s.setup.gpoMode[g].direct = false →
        t.gpo g = Bool.xor t.matrix.presented[gpoUser g] s.setup.gpoMode[g].inverted)) ∧
    t.matrix.pulses.requestNotify = s.matrix.notifyWaiting ∧ t.matrix.notifyWaiting = false ∧
    t.matrix.gpi = s.matrix.gpi

/-! ### Reports -/

/-- R165, R166, R167, R168, R170, R186: a record handed to the writer. It is discarded while the part is not RUNNING
or its kind is masked off. With room and no gap it is written at the place of the write count: KIND, FIELD COUNT,
FRAME, SLOT, EDIT SERIAL and the eight detail words, SEQUENCE with the sequence counter; both counts rise by 1 and the
REPORT cause is set where the unreleased number becomes the threshold. Without room it is dropped into the gap. With
room and a gap outstanding the GAP record is written first, and the handed record after it where there is still room.
The kinds are coded 1 to 12 in the order of R186. -/
def Obligations.HandedRecordIsWrittenOrDropped : Prop :=
  [ReportKind.scene, .hold, .slip, .badRead, .lock, .reference, .limit, .pass, .split, .mark, .live, .gap].map
      ReportKind.code = List.range' 1 12 ∧
  ∀ (s : State) (r : Record),
    (let w := s.writer
     let fc := s.sequencer.fieldCount
     let t := s.hand r
     let discarded : Prop :=
       s.port.run ≠ .running ∨ (r.kind = .scene ∧ s.setup.sceneEnable = false) ∨
         (r.kind = .hold ∧ s.setup.holdEnable = false)
     let holds (n : Nat) (q : Record) (count : DWord) : Prop :=
       recordStands t.cue (w.place n) (w.sequence + natWord n) count q
     let written (n : Nat) : Prop :=
       t.writer.writeCount = w.writeCount + natWord n ∧ t.writer.sequence = w.sequence + natWord n ∧
       t.writer.releaseCount = w.releaseCount ∧
       (∀ a, (∀ k, k < n → a < w.place k ∨ w.place k + 16 ≤ a) → Memory.read t.cue a = Memory.read s.cue a) ∧
       ∀ c : Cause,
         t.causeSet c =
           (s.causeSet c ||
             decide (c = .report ∧ w.unreleased < s.setup.reportThreshold ∧
               s.setup.reportThreshold ≤ w.unreleased + n))
     let firstDrop : Gap :=
       { dropped := 1, firstFieldCount := fc, firstFrame := r.frame, lastFieldCount := fc, lastFrame := r.frame
         kinds := 1 <<< (r.kind.code - 1) }
     (discarded → t = s) ∧
     (¬discarded →
       t =
         { s with
           writer := t.writer, cue := t.cue, port := { s.port with causes := t.port.causes } } ∧
       (w.unreleased < 512 → w.gap = none → written 1 ∧ holds 0 r fc ∧ t.writer.gap = none) ∧
       (512 ≤ w.unreleased → t.cue = s.cue ∧ t.port = s.port ∧
         (w.gap = none → t.writer = { w with gap := some firstDrop }) ∧
         ∀ g, w.gap = some g →
           t.writer =
             { w with
               gap :=
                 some
                   { g with
                     dropped := min 4294967295 (g.dropped + 1), lastFieldCount := fc, lastFrame := r.frame
                     kinds := g.kinds ||| (1 <<< (r.kind.code - 1)) } }) ∧
       ∀ g, w.gap = some g → w.unreleased < 512 →
         (let report : Record :=
            { kind := .gap, frame := g.firstFrame, slot := none, serial := 0
              detail :=
                bothWords (natDWord g.dropped) ++ bothWords g.lastFieldCount ++ bothWords (signedDWord g.lastFrame) ++
                  [g.kinds] }
          holds 0 report g.firstFieldCount ∧
          (w.unreleased < 511 → written 2 ∧ holds 1 r fc ∧ t.writer.gap = none) ∧
          (w.unreleased = 511 → written 1 ∧ t.writer.gap = some firstDrop))))

/-- R33, R68, R69, R132, R134, R150, R159, R186: the records a FIELD_START of a RUNNING part writes where the ring has
room, each block's in its order: REFERENCE of a restored reference and LOCK of a changed lock state; SPLIT of reason
BUSY; HOLD of a lag entered or ended and SCENE of a scene change, as the mask admits them; PASS of a changed pass
state; MARK of a pulse of the MARK user. The order between blocks is open (log 5), and so are the value words of an
absent first-field frame and of an absent tag, each on its own (log 8). DEDUCED are the phase and the first-field
frame in the LOCK report of an entry into LOCKED (log 26), the 0 in the words of a HOLD report that its other phase
uses (log 9) and the codes of a PASS report (log 31); MARK's EDIT SERIAL is the tracker's last resolved serial (the
model's choice, log 35). -/
def Obligations.FieldStartWritesItsReports : Prop :=
  ∀ (id : FieldIdentity) (s : State), s.hasRoom 7 → s.engine.read = none →
    ∃ (t : State) (rs : List Record) (absentFirst absentTag : DWord),
      exec (.fieldStart id) s = .next t ∧ s.wrote t rs ∧
      (let f := s.position.frame
       let due :=
         s.sequencer.alignPending = true ∨ s.sequencer.reference = .lost ∨ s.sequencer.lastIdentity = some id ∨
           s.turnInversions.presentsPulse 10 = true
       let sequencer : List Record :=
         (if s.sequencer.reference = .lost then
           [{ kind := .reference, frame := f, slot := none, serial := 0
              detail := [2, match id with | .field1 => 1 | .field2 => 2] }]
         else []) ++
           if t.sequencer.locked = s.sequencer.locked then []
           else
             [lockReport f t.sequencer.locked (if t.sequencer.locked = false ∧ t.sequencer.phase = none then 2 else 1)
               t.sequencer.phase (if due then none else s.sequencer.firstFieldFrame) absentFirst]
       let splits : List Record :=
         if s.turnInversions.presentsPulse 6 = true ∧ s.requests.splitPending ≠ none then
           [{ kind := .split, frame := f, slot := none, serial := 0, detail := [4, 0xFFFF] }]
         else []
       let last := s.tracker.lastResolved
       let tracker : List Record :=
         match t.tracker.latest with
         | some r =>
           let report (kind : ReportKind) (detail : List Word) : Record :=
             { kind := kind, frame := f, slot := some r.slot, serial := r.serial, detail := detail }
           let tag := sceneTag s.cue r.slot
           (if s.setup.holdEnable = true ∧ s.tracker.lagging ≠ t.tracker.lagging then
             [report .hold
               (if t.tracker.lagging then [1, 1, slotWord (last.map Prod.fst), natWord s.setup.walkLimit]
               else [2, 0, 0, 0, natWord s.tracker.heldCount, natWord r.steps])]
           else []) ++
             if s.setup.sceneEnable = true ∧ t.matrix.pulses.sceneChange = true then
               [report .scene
                 ([slotWord (last.map Prod.fst), (last.map Prod.snd).getD 0] ++
                   bothWords (signedDWord (sceneStart s.cue r.slot)) ++
                   [natWord r.dEff,
                     (slotWordAt s.cue r.slot 6 &&& 3) ||| (if tag.isSome then 0x8000 else 0)] ++
                   bothWords (match tag with | some v => v | none => absentTag))]
             else []
         | none => []
       let passes : List Record :=
         if t.pass.state = s.pass.state then [] else [passReport f s.pass.state t.pass]
       let marks : List Record :=
         match s.setup.userSelection[7] with
         | some c =>
           if s.turnInversions.presentsPulse 7 = true then
             [{ kind := .mark, frame := f, slot := t.tracker.lastResolved.map Prod.fst
                serial := (t.tracker.lastResolved.map Prod.snd).getD 0
                detail :=
                  [natWord c.val, natWord ((s.setup.channelSelection[c].map Generator.number).getD 0),
                    natWord t.pass.state.code] ++ bothWords (natDWord t.pass.recorded) }]
           else []
         | none => []
       rs.Perm (sequencer ++ splits ++ tracker ++ passes ++ marks) ∧ sequencer.Sublist rs ∧ tracker.Sublist rs)

/-- R164, R166, R167, R169: every step keeps the law of the ring: at most 512 records unreleased, the sequence counter
equal to the write count, the unreleased records standing in their places with SEQUENCE numbers that rise by 1, and a
gap that counts what it dropped. -/
def Obligations.RingStaysLawful : Prop :=
  ∀ s t : State, s.RingLaw → step s = .next t → t.RingLaw

/-! ### The status block -/

/-- R34, R70, R92, R98, R183: when the status block is written it shows the field, word by word as R183 lays it out.
It is written at a FIELD_START of a part that is HALTED, or RUNNING with the live trim record not read, under the
field's own values; otherwise at the thirteenth word read, under the same values but that those other blocks may have
moved are the moment's (DEDUCED, log 6). That a field which reads the record has its status block written at the
thirteenth word read, and not within its FIELD_START, is DEDUCED (log 2). Before the run start it is not written.
Outside the status block a FIELD_START of a HALTED part changes only the pass block. -/
def Obligations.StatusBlockShowsField : Prop :=
  (∀ (id : FieldIdentity) (s : State), s.engine.read = none →
    ∃ t, exec (.fieldStart id) s = .next t ∧
      (s.port.run ≠ .uninitialised → t.engine.read = none →
        statusShows t.cue t
          { perfCount := s.position.count, positionState := s.position.state, direction := s.position.direction
            writeCount := t.writer.writeCount, releaseCount := s.writer.releaseCount }) ∧
      (s.port.run = .halted →
        t.engine.read = none ∧ ∀ a, ¬inStatus a → ¬inPassBlock a → Memory.read t.cue a = Memory.read s.cue a) ∧
      (s.port.run = .uninitialised → ∀ a, inStatus a → Memory.read t.cue a = Memory.read s.cue a)) ∧
  ∀ (s : State) (read : LiveRead), s.engine.read = some read → read.words.length = 12 →
    ∃ t, exec .liveRecordWordRead s = .next t ∧ statusShows t.cue t read.moment
end

