-- ==== Sys2Proof/Laws/State.lean ====
section
/-! SUPPORT. What each update of the state leaves alone, and what it sets: one lemma per update, so that no proof unfolds
a record update. A conjunction tagged simp is one rewrite rule per conjunct. -/

namespace Sys2Proof.Machine

/-! ### What a plain update sets -/

@[simp] theorem State.setCause_causes (s : State) (c : Cause) : (s.setCause c).port.causes = s.port.causes ||| c.mask := rfl

@[simp] theorem State.setCauseIf_causes (s : State) (b : Bool) (c : Cause) : (s.setCauseIf b c).port.causes = if b then s.port.causes ||| c.mask else s.port.causes := by cases b <;> rfl

@[simp] theorem State.emptyLatch_latch (s : State) : s.emptyLatch.port.latch = none := rfl

@[simp] theorem State.drive_busData (s : State) (v : Word) : (s.drive v).busData = v := rfl

@[simp] theorem State.advancePointer_pointer (s : State) : s.advancePointer.port.pointer = s.port.pointer + 1 := rfl

@[simp] theorem State.setPositionState_state (s : State) (st : PositionState) : (s.setPositionState st).position.state = st := rfl

@[simp] theorem State.setPositionState_count (s : State) (st : PositionState) : (s.setPositionState st).position.count = s.position.count := rfl

@[simp] theorem State.setPositionState_gauge (s : State) (st : PositionState) : (s.setPositionState st).position.gauge = s.position.gauge := rfl

@[simp] theorem State.setRun_run (s : State) (r : RunState) : (s.setRun r).port.run = r := rfl

@[simp] theorem State.setRipple_ripple (s : State) (r : Option Ripple) : (s.setRipple r).requests.ripple = r := rfl

@[simp] theorem State.setSplitPending_splitPending (s : State) (f : Option Int) : (s.setSplitPending f).requests.splitPending = f := rfl

@[simp] theorem State.setSetupFault_setupFault (s : State) (v : Option Nat) : (s.setSetupFault v).requests.setupFault = v := rfl

@[simp] theorem State.setCurrent_current (s : State) (x : Slot) : (s.setCurrent x).tracker.current = x := rfl

@[simp] theorem State.advanceTake_takeIndex (s : State) : s.advanceTake.requests.takeIndex = s.requests.takeIndex + 1 := rfl

@[simp] theorem State.takeLevels_count (s : State) (a b : Bool) : (s.takeLevels a b).position.count = s.position.count := rfl

@[simp] theorem State.takeLevels_gauge (s : State) (a b : Bool) : (s.takeLevels a b).position.gauge = s.position.gauge := rfl

@[simp] theorem State.takeLevels_state (s : State) (a b : Bool) : (s.takeLevels a b).position.state = s.position.state := rfl

@[simp] theorem State.noteStep_direction (s : State) (d : StepDirection) : (s.noteStep d).position.direction = d.direction := rfl

@[simp] theorem State.noteStep_stillness (s : State) (d : StepDirection) : (s.noteStep d).position.stillness = .running s.setup.videoMode := rfl

@[simp] theorem State.noteStep_count (s : State) (d : StepDirection) : (s.noteStep d).position.count = s.position.count := rfl

@[simp] theorem State.noteStep_gauge (s : State) (d : StepDirection) : (s.noteStep d).position.gauge = s.position.gauge := rfl

@[simp] theorem State.noteStep_state (s : State) (d : StepDirection) : (s.noteStep d).position.state = s.position.state := rfl

@[simp] theorem State.drawWord_value (s : State) : s.drawWord.1 = Config.freeWord s.draws := rfl

@[simp] theorem State.drawWord_draws (s : State) : s.drawWord.2.draws = s.draws + 1 := rfl

@[simp] theorem State.setPass_pass (s : State) (p : Pass) : (s.setPass p).pass = p := by
  unfold State.setPass; dsimp only; split <;> rfl


/-! ### What an update leaves alone -/

/-- Setting a cause touches the causes alone. -/
@[simp] theorem State.setCause_frame (s : State) (c : Cause) :
    (s.setCause c).position = s.position ∧ (s.setCause c).sequencer = s.sequencer ∧
    (s.setCause c).tracker = s.tracker ∧ (s.setCause c).engine = s.engine ∧ (s.setCause c).requests = s.requests ∧
    (s.setCause c).pass = s.pass ∧ (s.setCause c).matrix = s.matrix ∧ (s.setCause c).writer = s.writer ∧
    (s.setCause c).setup = s.setup ∧ (s.setCause c).cue = s.cue ∧ (s.setCause c).busData = s.busData ∧
    (s.setCause c).pixOut = s.pixOut ∧ (s.setCause c).draws = s.draws ∧ (s.setCause c).pending = s.pending ∧
    (s.setCause c).port.pointer = s.port.pointer ∧ (s.setCause c).port.latch = s.port.latch ∧
    (s.setCause c).port.enables = s.port.enables ∧ (s.setCause c).port.run = s.port.run ∧
    (s.setCause c).port.ident = s.port.ident := by
  simp [State.setCause]

/-- Setting a cause on a condition touches the causes alone. -/
@[simp] theorem State.setCauseIf_frame (s : State) (b : Bool) (c : Cause) :
    (s.setCauseIf b c).position = s.position ∧ (s.setCauseIf b c).sequencer = s.sequencer ∧
    (s.setCauseIf b c).tracker = s.tracker ∧ (s.setCauseIf b c).engine = s.engine ∧
    (s.setCauseIf b c).requests = s.requests ∧ (s.setCauseIf b c).pass = s.pass ∧
    (s.setCauseIf b c).matrix = s.matrix ∧ (s.setCauseIf b c).writer = s.writer ∧
    (s.setCauseIf b c).setup = s.setup ∧ (s.setCauseIf b c).cue = s.cue ∧ (s.setCauseIf b c).busData = s.busData ∧
    (s.setCauseIf b c).pixOut = s.pixOut ∧ (s.setCauseIf b c).draws = s.draws ∧
    (s.setCauseIf b c).pending = s.pending ∧ (s.setCauseIf b c).port.pointer = s.port.pointer ∧
    (s.setCauseIf b c).port.latch = s.port.latch ∧ (s.setCauseIf b c).port.enables = s.port.enables ∧
    (s.setCauseIf b c).port.run = s.port.run ∧ (s.setCauseIf b c).port.ident = s.port.ident := by
  cases b <;> simp [State.setCauseIf]

/-- Emptying the latch touches the latch alone. -/
@[simp] theorem State.emptyLatch_frame (s : State) :
    s.emptyLatch.position = s.position ∧ s.emptyLatch.sequencer = s.sequencer ∧ s.emptyLatch.tracker = s.tracker ∧
    s.emptyLatch.engine = s.engine ∧ s.emptyLatch.requests = s.requests ∧ s.emptyLatch.pass = s.pass ∧
    s.emptyLatch.matrix = s.matrix ∧ s.emptyLatch.writer = s.writer ∧ s.emptyLatch.setup = s.setup ∧
    s.emptyLatch.cue = s.cue ∧ s.emptyLatch.busData = s.busData ∧ s.emptyLatch.pixOut = s.pixOut ∧
    s.emptyLatch.draws = s.draws ∧ s.emptyLatch.pending = s.pending ∧ s.emptyLatch.port.pointer = s.port.pointer ∧
    s.emptyLatch.port.causes = s.port.causes ∧ s.emptyLatch.port.enables = s.port.enables ∧
    s.emptyLatch.port.run = s.port.run ∧ s.emptyLatch.port.ident = s.port.ident := by
  simp [State.emptyLatch]

/-- Driving the bus touches the bus data alone. -/
@[simp] theorem State.drive_frame (s : State) (v : Word) :
    (s.drive v).position = s.position ∧ (s.drive v).sequencer = s.sequencer ∧ (s.drive v).tracker = s.tracker ∧
    (s.drive v).engine = s.engine ∧ (s.drive v).requests = s.requests ∧ (s.drive v).pass = s.pass ∧
    (s.drive v).matrix = s.matrix ∧ (s.drive v).writer = s.writer ∧ (s.drive v).port = s.port ∧
    (s.drive v).setup = s.setup ∧ (s.drive v).cue = s.cue ∧ (s.drive v).pixOut = s.pixOut ∧
    (s.drive v).draws = s.draws ∧ (s.drive v).pending = s.pending := by
  simp [State.drive]

/-- Advancing the pointer touches the pointer alone. -/
@[simp] theorem State.advancePointer_frame (s : State) :
    s.advancePointer.position = s.position ∧ s.advancePointer.sequencer = s.sequencer ∧
    s.advancePointer.tracker = s.tracker ∧ s.advancePointer.engine = s.engine ∧
    s.advancePointer.requests = s.requests ∧ s.advancePointer.pass = s.pass ∧ s.advancePointer.matrix = s.matrix ∧
    s.advancePointer.writer = s.writer ∧ s.advancePointer.setup = s.setup ∧ s.advancePointer.cue = s.cue ∧
    s.advancePointer.busData = s.busData ∧ s.advancePointer.pixOut = s.pixOut ∧ s.advancePointer.draws = s.draws ∧
    s.advancePointer.pending = s.pending ∧ s.advancePointer.port.latch = s.port.latch ∧
    s.advancePointer.port.causes = s.port.causes ∧ s.advancePointer.port.enables = s.port.enables ∧
    s.advancePointer.port.run = s.port.run ∧ s.advancePointer.port.ident = s.port.ident := by
  simp [State.advancePointer]

/-- Replacing the position state touches the counter alone. -/
@[simp] theorem State.setPositionState_frame (s : State) (st : PositionState) :
    (s.setPositionState st).sequencer = s.sequencer ∧ (s.setPositionState st).tracker = s.tracker ∧
    (s.setPositionState st).engine = s.engine ∧ (s.setPositionState st).requests = s.requests ∧
    (s.setPositionState st).pass = s.pass ∧ (s.setPositionState st).matrix = s.matrix ∧
    (s.setPositionState st).writer = s.writer ∧ (s.setPositionState st).port = s.port ∧
    (s.setPositionState st).setup = s.setup ∧ (s.setPositionState st).cue = s.cue ∧
    (s.setPositionState st).busData = s.busData ∧ (s.setPositionState st).pixOut = s.pixOut ∧
    (s.setPositionState st).draws = s.draws ∧ (s.setPositionState st).pending = s.pending := by
  simp [State.setPositionState]

/-- Setting the run state touches the run state alone. -/
@[simp] theorem State.setRun_frame (s : State) (r : RunState) :
    (s.setRun r).position = s.position ∧ (s.setRun r).sequencer = s.sequencer ∧ (s.setRun r).tracker = s.tracker ∧
    (s.setRun r).engine = s.engine ∧ (s.setRun r).requests = s.requests ∧ (s.setRun r).pass = s.pass ∧
    (s.setRun r).matrix = s.matrix ∧ (s.setRun r).writer = s.writer ∧ (s.setRun r).setup = s.setup ∧
    (s.setRun r).cue = s.cue ∧ (s.setRun r).busData = s.busData ∧ (s.setRun r).pixOut = s.pixOut ∧
    (s.setRun r).draws = s.draws ∧ (s.setRun r).pending = s.pending ∧ (s.setRun r).port.pointer = s.port.pointer ∧
    (s.setRun r).port.latch = s.port.latch ∧ (s.setRun r).port.causes = s.port.causes ∧
    (s.setRun r).port.enables = s.port.enables ∧ (s.setRun r).port.ident = s.port.ident := by
  simp [State.setRun]

/-- Replacing the ripple touches the ripple alone. -/
@[simp] theorem State.setRipple_frame (s : State) (r : Option Ripple) :
    (s.setRipple r).position = s.position ∧ (s.setRipple r).sequencer = s.sequencer ∧
    (s.setRipple r).tracker = s.tracker ∧ (s.setRipple r).engine = s.engine ∧ (s.setRipple r).pass = s.pass ∧
    (s.setRipple r).matrix = s.matrix ∧ (s.setRipple r).writer = s.writer ∧ (s.setRipple r).port = s.port ∧
    (s.setRipple r).setup = s.setup ∧ (s.setRipple r).cue = s.cue ∧ (s.setRipple r).busData = s.busData ∧
    (s.setRipple r).pixOut = s.pixOut ∧ (s.setRipple r).draws = s.draws ∧ (s.setRipple r).pending = s.pending ∧
    (s.setRipple r).requests.takeIndex = s.requests.takeIndex ∧
    (s.setRipple r).requests.rippleCounter = s.requests.rippleCounter ∧
    (s.setRipple r).requests.splitPending = s.requests.splitPending ∧
    (s.setRipple r).requests.setupFault = s.requests.setupFault ∧
    (s.setRipple r).requests.freeStack = s.requests.freeStack ∧
    (s.setRipple r).requests.notifyDue = s.requests.notifyDue := by
  simp [State.setRipple]

/-- Replacing the split pending touches it alone. -/
@[simp] theorem State.setSplitPending_frame (s : State) (f : Option Int) :
    (s.setSplitPending f).position = s.position ∧ (s.setSplitPending f).sequencer = s.sequencer ∧
    (s.setSplitPending f).tracker = s.tracker ∧ (s.setSplitPending f).engine = s.engine ∧
    (s.setSplitPending f).pass = s.pass ∧ (s.setSplitPending f).matrix = s.matrix ∧
    (s.setSplitPending f).writer = s.writer ∧ (s.setSplitPending f).port = s.port ∧
    (s.setSplitPending f).setup = s.setup ∧ (s.setSplitPending f).cue = s.cue ∧
    (s.setSplitPending f).busData = s.busData ∧ (s.setSplitPending f).pixOut = s.pixOut ∧
    (s.setSplitPending f).draws = s.draws ∧ (s.setSplitPending f).pending = s.pending ∧
    (s.setSplitPending f).requests.takeIndex = s.requests.takeIndex ∧
    (s.setSplitPending f).requests.ripple = s.requests.ripple ∧
    (s.setSplitPending f).requests.rippleCounter = s.requests.rippleCounter ∧
    (s.setSplitPending f).requests.setupFault = s.requests.setupFault ∧
    (s.setSplitPending f).requests.freeStack = s.requests.freeStack ∧
    (s.setSplitPending f).requests.notifyDue = s.requests.notifyDue := by
  simp [State.setSplitPending]

/-- Replacing the setup fault value touches it alone. -/
@[simp] theorem State.setSetupFault_frame (s : State) (v : Option Nat) :
    (s.setSetupFault v).position = s.position ∧ (s.setSetupFault v).sequencer = s.sequencer ∧
    (s.setSetupFault v).tracker = s.tracker ∧ (s.setSetupFault v).engine = s.engine ∧
    (s.setSetupFault v).pass = s.pass ∧ (s.setSetupFault v).matrix = s.matrix ∧
    (s.setSetupFault v).writer = s.writer ∧ (s.setSetupFault v).port = s.port ∧ (s.setSetupFault v).setup = s.setup ∧
    (s.setSetupFault v).cue = s.cue ∧ (s.setSetupFault v).busData = s.busData ∧
    (s.setSetupFault v).pixOut = s.pixOut ∧ (s.setSetupFault v).draws = s.draws ∧
    (s.setSetupFault v).pending = s.pending ∧ (s.setSetupFault v).requests.takeIndex = s.requests.takeIndex ∧
    (s.setSetupFault v).requests.ripple = s.requests.ripple ∧
    (s.setSetupFault v).requests.rippleCounter = s.requests.rippleCounter ∧
    (s.setSetupFault v).requests.splitPending = s.requests.splitPending ∧
    (s.setSetupFault v).requests.freeStack = s.requests.freeStack ∧
    (s.setSetupFault v).requests.notifyDue = s.requests.notifyDue := by
  simp [State.setSetupFault]

/-- Setting the current slot touches the tracker alone. -/
@[simp] theorem State.setCurrent_frame (s : State) (x : Slot) :
    (s.setCurrent x).position = s.position ∧ (s.setCurrent x).sequencer = s.sequencer ∧
    (s.setCurrent x).engine = s.engine ∧ (s.setCurrent x).requests = s.requests ∧ (s.setCurrent x).pass = s.pass ∧
    (s.setCurrent x).matrix = s.matrix ∧ (s.setCurrent x).writer = s.writer ∧ (s.setCurrent x).port = s.port ∧
    (s.setCurrent x).setup = s.setup ∧ (s.setCurrent x).cue = s.cue ∧ (s.setCurrent x).busData = s.busData ∧
    (s.setCurrent x).pixOut = s.pixOut ∧ (s.setCurrent x).draws = s.draws ∧ (s.setCurrent x).pending = s.pending := by
  simp [State.setCurrent]

/-- Moving the current slot off a scene touches the tracker alone. -/
@[simp] theorem State.leaveSlot_frame (s : State) (x : Slot) :
    (s.leaveSlot x).position = s.position ∧ (s.leaveSlot x).sequencer = s.sequencer ∧
    (s.leaveSlot x).engine = s.engine ∧ (s.leaveSlot x).requests = s.requests ∧ (s.leaveSlot x).pass = s.pass ∧
    (s.leaveSlot x).matrix = s.matrix ∧ (s.leaveSlot x).writer = s.writer ∧ (s.leaveSlot x).port = s.port ∧
    (s.leaveSlot x).setup = s.setup ∧ (s.leaveSlot x).cue = s.cue ∧ (s.leaveSlot x).busData = s.busData ∧
    (s.leaveSlot x).pixOut = s.pixOut ∧ (s.leaveSlot x).draws = s.draws ∧ (s.leaveSlot x).pending = s.pending := by
  unfold State.leaveSlot; split <;> simp

/-- Advancing the take index touches it alone. -/
@[simp] theorem State.advanceTake_frame (s : State) :
    s.advanceTake.position = s.position ∧ s.advanceTake.sequencer = s.sequencer ∧ s.advanceTake.tracker = s.tracker ∧
    s.advanceTake.engine = s.engine ∧ s.advanceTake.pass = s.pass ∧ s.advanceTake.matrix = s.matrix ∧
    s.advanceTake.writer = s.writer ∧ s.advanceTake.port = s.port ∧ s.advanceTake.setup = s.setup ∧
    s.advanceTake.cue = s.cue ∧ s.advanceTake.busData = s.busData ∧ s.advanceTake.pixOut = s.pixOut ∧
    s.advanceTake.draws = s.draws ∧ s.advanceTake.pending = s.pending ∧
    s.advanceTake.requests.ripple = s.requests.ripple ∧
    s.advanceTake.requests.rippleCounter = s.requests.rippleCounter ∧
    s.advanceTake.requests.splitPending = s.requests.splitPending ∧
    s.advanceTake.requests.setupFault = s.requests.setupFault ∧
    s.advanceTake.requests.freeStack = s.requests.freeStack ∧
    s.advanceTake.requests.notifyDue = s.requests.notifyDue := by
  simp [State.advanceTake]

/-- Taking the levels of the lines touches the counter alone. -/
@[simp] theorem State.takeLevels_frame (s : State) (a b : Bool) :
    (s.takeLevels a b).sequencer = s.sequencer ∧ (s.takeLevels a b).tracker = s.tracker ∧
    (s.takeLevels a b).engine = s.engine ∧ (s.takeLevels a b).requests = s.requests ∧
    (s.takeLevels a b).pass = s.pass ∧ (s.takeLevels a b).matrix = s.matrix ∧ (s.takeLevels a b).writer = s.writer ∧
    (s.takeLevels a b).port = s.port ∧ (s.takeLevels a b).setup = s.setup ∧ (s.takeLevels a b).cue = s.cue ∧
    (s.takeLevels a b).busData = s.busData ∧ (s.takeLevels a b).pixOut = s.pixOut ∧
    (s.takeLevels a b).draws = s.draws ∧ (s.takeLevels a b).pending = s.pending := by
  simp [State.takeLevels]

/-- Noting a step touches the counter alone. -/
@[simp] theorem State.noteStep_frame (s : State) (d : StepDirection) :
    (s.noteStep d).sequencer = s.sequencer ∧ (s.noteStep d).tracker = s.tracker ∧ (s.noteStep d).engine = s.engine ∧
    (s.noteStep d).requests = s.requests ∧ (s.noteStep d).pass = s.pass ∧ (s.noteStep d).matrix = s.matrix ∧
    (s.noteStep d).writer = s.writer ∧ (s.noteStep d).port = s.port ∧ (s.noteStep d).setup = s.setup ∧
    (s.noteStep d).cue = s.cue ∧ (s.noteStep d).busData = s.busData ∧ (s.noteStep d).pixOut = s.pixOut ∧
    (s.noteStep d).draws = s.draws ∧ (s.noteStep d).pending = s.pending := by
  simp [State.noteStep]

/-- Drawing a free word touches the draw counter alone. -/
@[simp] theorem State.drawWord_frame (s : State) :
    s.drawWord.2.position = s.position ∧ s.drawWord.2.sequencer = s.sequencer ∧ s.drawWord.2.tracker = s.tracker ∧
    s.drawWord.2.engine = s.engine ∧ s.drawWord.2.requests = s.requests ∧ s.drawWord.2.pass = s.pass ∧
    s.drawWord.2.matrix = s.matrix ∧ s.drawWord.2.writer = s.writer ∧ s.drawWord.2.port = s.port ∧
    s.drawWord.2.setup = s.setup ∧ s.drawWord.2.cue = s.cue ∧ s.drawWord.2.busData = s.busData ∧
    s.drawWord.2.pixOut = s.pixOut ∧ s.drawWord.2.pending = s.pending := by
  simp [State.drawWord]

/-- Drawing a free 32-bit value touches the draw counter alone. -/
@[simp] theorem State.drawDWord_frame (s : State) :
    s.drawDWord.2.position = s.position ∧ s.drawDWord.2.sequencer = s.sequencer ∧ s.drawDWord.2.tracker = s.tracker ∧
    s.drawDWord.2.engine = s.engine ∧ s.drawDWord.2.requests = s.requests ∧ s.drawDWord.2.pass = s.pass ∧
    s.drawDWord.2.matrix = s.matrix ∧ s.drawDWord.2.writer = s.writer ∧ s.drawDWord.2.port = s.port ∧
    s.drawDWord.2.setup = s.setup ∧ s.drawDWord.2.cue = s.cue ∧ s.drawDWord.2.busData = s.busData ∧
    s.drawDWord.2.pixOut = s.pixOut ∧ s.drawDWord.2.pending = s.pending := by
  simp [State.drawDWord]

/-- Carrying a value that may be absent touches the draw counter alone. -/
@[simp] theorem State.orFree_frame (s : State) (v : Option DWord) :
    (s.orFree v).2.position = s.position ∧ (s.orFree v).2.sequencer = s.sequencer ∧
    (s.orFree v).2.tracker = s.tracker ∧ (s.orFree v).2.engine = s.engine ∧ (s.orFree v).2.requests = s.requests ∧
    (s.orFree v).2.pass = s.pass ∧ (s.orFree v).2.matrix = s.matrix ∧ (s.orFree v).2.writer = s.writer ∧
    (s.orFree v).2.port = s.port ∧ (s.orFree v).2.setup = s.setup ∧ (s.orFree v).2.cue = s.cue ∧
    (s.orFree v).2.busData = s.busData ∧ (s.orFree v).2.pixOut = s.pixOut ∧ (s.orFree v).2.pending = s.pending := by
  cases v <;> simp [State.orFree]

/-- Carrying a change to the channels touches the matrix alone. -/
@[simp] theorem State.settle_frame (before s : State) :
    (State.settle before s).position = s.position ∧ (State.settle before s).sequencer = s.sequencer ∧
    (State.settle before s).tracker = s.tracker ∧ (State.settle before s).engine = s.engine ∧
    (State.settle before s).requests = s.requests ∧ (State.settle before s).pass = s.pass ∧
    (State.settle before s).writer = s.writer ∧ (State.settle before s).port = s.port ∧
    (State.settle before s).setup = s.setup ∧ (State.settle before s).cue = s.cue ∧
    (State.settle before s).busData = s.busData ∧ (State.settle before s).pixOut = s.pixOut ∧
    (State.settle before s).draws = s.draws ∧ (State.settle before s).pending = s.pending := by
  simp [State.settle]

/-- A blip touches the matrix alone. -/
@[simp] theorem State.blip_frame (s : State) (g : Generator) :
    (s.blip g).position = s.position ∧ (s.blip g).sequencer = s.sequencer ∧ (s.blip g).tracker = s.tracker ∧
    (s.blip g).engine = s.engine ∧ (s.blip g).requests = s.requests ∧ (s.blip g).pass = s.pass ∧
    (s.blip g).writer = s.writer ∧ (s.blip g).port = s.port ∧ (s.blip g).setup = s.setup ∧ (s.blip g).cue = s.cue ∧
    (s.blip g).busData = s.busData ∧ (s.blip g).pixOut = s.pixOut ∧ (s.blip g).draws = s.draws ∧
    (s.blip g).pending = s.pending := by
  simp [State.blip]

/-- Turning the inversions touches the matrix alone. -/
@[simp] theorem State.turnInversions_frame (s : State) :
    s.turnInversions.position = s.position ∧ s.turnInversions.sequencer = s.sequencer ∧
    s.turnInversions.tracker = s.tracker ∧ s.turnInversions.engine = s.engine ∧
    s.turnInversions.requests = s.requests ∧ s.turnInversions.pass = s.pass ∧ s.turnInversions.writer = s.writer ∧
    s.turnInversions.port = s.port ∧ s.turnInversions.setup = s.setup ∧ s.turnInversions.cue = s.cue ∧
    s.turnInversions.busData = s.busData ∧ s.turnInversions.pixOut = s.pixOut ∧ s.turnInversions.draws = s.draws ∧
    s.turnInversions.pending = s.pending := by
  simp [State.turnInversions, State.settle]

/-- Forming the presentation touches the matrix alone. -/
@[simp] theorem State.formPresentation_frame (s : State) :
    s.formPresentation.position = s.position ∧ s.formPresentation.sequencer = s.sequencer ∧
    s.formPresentation.tracker = s.tracker ∧ s.formPresentation.engine = s.engine ∧
    s.formPresentation.requests = s.requests ∧ s.formPresentation.pass = s.pass ∧
    s.formPresentation.writer = s.writer ∧ s.formPresentation.port = s.port ∧ s.formPresentation.setup = s.setup ∧
    s.formPresentation.cue = s.cue ∧ s.formPresentation.busData = s.busData ∧ s.formPresentation.pixOut = s.pixOut ∧
    s.formPresentation.draws = s.draws ∧ s.formPresentation.pending = s.pending := by
  simp [State.formPresentation]

/-- Clearing the internal users' flags touches the matrix alone. -/
@[simp] theorem State.clearInternalEdges_frame (s : State) :
    s.clearInternalEdges.position = s.position ∧ s.clearInternalEdges.sequencer = s.sequencer ∧
    s.clearInternalEdges.tracker = s.tracker ∧ s.clearInternalEdges.engine = s.engine ∧
    s.clearInternalEdges.requests = s.requests ∧ s.clearInternalEdges.pass = s.pass ∧
    s.clearInternalEdges.writer = s.writer ∧ s.clearInternalEdges.port = s.port ∧
    s.clearInternalEdges.setup = s.setup ∧ s.clearInternalEdges.cue = s.cue ∧
    s.clearInternalEdges.busData = s.busData ∧ s.clearInternalEdges.pixOut = s.pixOut ∧
    s.clearInternalEdges.draws = s.draws ∧ s.clearInternalEdges.pending = s.pending := by
  simp [State.clearInternalEdges]

/-- Pulsing channels touches the matrix alone. -/
@[simp] theorem State.pulseChannels_frame (s : State) (mask : Vector Bool 8) :
    (s.pulseChannels mask).position = s.position ∧ (s.pulseChannels mask).sequencer = s.sequencer ∧
    (s.pulseChannels mask).tracker = s.tracker ∧ (s.pulseChannels mask).engine = s.engine ∧
    (s.pulseChannels mask).requests = s.requests ∧ (s.pulseChannels mask).pass = s.pass ∧
    (s.pulseChannels mask).writer = s.writer ∧ (s.pulseChannels mask).port = s.port ∧
    (s.pulseChannels mask).setup = s.setup ∧ (s.pulseChannels mask).cue = s.cue ∧
    (s.pulseChannels mask).busData = s.busData ∧ (s.pulseChannels mask).pixOut = s.pixOut ∧
    (s.pulseChannels mask).draws = s.draws ∧ (s.pulseChannels mask).pending = s.pending := by
  simp [State.pulseChannels]

/-- A blip on a condition touches the matrix alone. -/
@[simp] theorem State.blipIf_frame (s : State) (b : Bool) (g : Generator) :
    (s.blipIf b g).position = s.position ∧ (s.blipIf b g).sequencer = s.sequencer ∧
    (s.blipIf b g).tracker = s.tracker ∧ (s.blipIf b g).engine = s.engine ∧ (s.blipIf b g).requests = s.requests ∧
    (s.blipIf b g).pass = s.pass ∧ (s.blipIf b g).writer = s.writer ∧ (s.blipIf b g).port = s.port ∧
    (s.blipIf b g).setup = s.setup ∧ (s.blipIf b g).cue = s.cue ∧ (s.blipIf b g).busData = s.busData ∧
    (s.blipIf b g).pixOut = s.pixOut ∧ (s.blipIf b g).draws = s.draws ∧ (s.blipIf b g).pending = s.pending := by
  cases b <;> simp [State.blipIf]

/-- Taking over the pulses of a field touches the matrix alone. -/
@[simp] theorem State.rollPulses_frame (s : State) (p : Pulses) :
    (s.rollPulses p).position = s.position ∧ (s.rollPulses p).sequencer = s.sequencer ∧
    (s.rollPulses p).tracker = s.tracker ∧ (s.rollPulses p).engine = s.engine ∧
    (s.rollPulses p).requests = s.requests ∧ (s.rollPulses p).pass = s.pass ∧ (s.rollPulses p).writer = s.writer ∧
    (s.rollPulses p).port = s.port ∧ (s.rollPulses p).setup = s.setup ∧ (s.rollPulses p).cue = s.cue ∧
    (s.rollPulses p).busData = s.busData ∧ (s.rollPulses p).pixOut = s.pixOut ∧ (s.rollPulses p).draws = s.draws ∧
    (s.rollPulses p).pending = s.pending := by
  simp [State.rollPulses]

/-- Taking selections touches the matrix and the set-up alone. -/
@[simp] theorem State.takeSelections_frame (s : State) (st : Setup) :
    (s.takeSelections st).position = s.position ∧ (s.takeSelections st).sequencer = s.sequencer ∧
    (s.takeSelections st).tracker = s.tracker ∧ (s.takeSelections st).engine = s.engine ∧
    (s.takeSelections st).requests = s.requests ∧ (s.takeSelections st).pass = s.pass ∧
    (s.takeSelections st).writer = s.writer ∧ (s.takeSelections st).port = s.port ∧
    (s.takeSelections st).cue = s.cue ∧ (s.takeSelections st).busData = s.busData ∧
    (s.takeSelections st).pixOut = s.pixOut ∧ (s.takeSelections st).draws = s.draws ∧
    (s.takeSelections st).pending = s.pending := by
  simp [State.takeSelections]

/-- Taking a set-up touches the counter, the sequencer, the matrix and the set-up alone. -/
@[simp] theorem State.takeSetup_frame (s : State) (st : Setup) :
    (s.takeSetup st).tracker = s.tracker ∧ (s.takeSetup st).engine = s.engine ∧
    (s.takeSetup st).requests = s.requests ∧ (s.takeSetup st).pass = s.pass ∧ (s.takeSetup st).writer = s.writer ∧
    (s.takeSetup st).port = s.port ∧ (s.takeSetup st).cue = s.cue ∧ (s.takeSetup st).busData = s.busData ∧
    (s.takeSetup st).pixOut = s.pixOut ∧ (s.takeSetup st).draws = s.draws ∧ (s.takeSetup st).pending = s.pending := by
  simp [State.takeSetup]

/-- New values of the pass touch the pass, the matrix and the pass block alone. -/
@[simp] theorem State.setPass_frame (s : State) (p : Pass) :
    (s.setPass p).position = s.position ∧ (s.setPass p).sequencer = s.sequencer ∧ (s.setPass p).tracker = s.tracker ∧
    (s.setPass p).engine = s.engine ∧ (s.setPass p).requests = s.requests ∧ (s.setPass p).writer = s.writer ∧
    (s.setPass p).port = s.port ∧ (s.setPass p).setup = s.setup ∧ (s.setPass p).busData = s.busData ∧
    (s.setPass p).pixOut = s.pixOut ∧ (s.setPass p).draws = s.draws ∧ (s.setPass p).pending = s.pending := by
  unfold State.setPass; dsimp only; split <;> simp

/-- A change of pass state touches the pass, the matrix, the pass block and the causes alone. -/
@[simp] theorem State.changePass_frame (s : State) (p : Pass) :
    (s.changePass p).1.position = s.position ∧ (s.changePass p).1.sequencer = s.sequencer ∧
    (s.changePass p).1.tracker = s.tracker ∧ (s.changePass p).1.engine = s.engine ∧
    (s.changePass p).1.requests = s.requests ∧ (s.changePass p).1.writer = s.writer ∧
    (s.changePass p).1.setup = s.setup ∧ (s.changePass p).1.busData = s.busData ∧
    (s.changePass p).1.pixOut = s.pixOut ∧ (s.changePass p).1.draws = s.draws ∧
    (s.changePass p).1.pending = s.pending ∧ (s.changePass p).1.port.pointer = s.port.pointer ∧
    (s.changePass p).1.port.latch = s.port.latch ∧ (s.changePass p).1.port.enables = s.port.enables ∧
    (s.changePass p).1.port.run = s.port.run ∧ (s.changePass p).1.port.ident = s.port.ident := by
  simp [State.changePass]

/-- A fault of the pass touches what a change of pass state touches. -/
@[simp] theorem State.faultPass_frame (s : State) (c : Condition) :
    (s.faultPass c).1.position = s.position ∧ (s.faultPass c).1.sequencer = s.sequencer ∧
    (s.faultPass c).1.tracker = s.tracker ∧ (s.faultPass c).1.engine = s.engine ∧
    (s.faultPass c).1.requests = s.requests ∧ (s.faultPass c).1.writer = s.writer ∧
    (s.faultPass c).1.setup = s.setup ∧ (s.faultPass c).1.busData = s.busData ∧ (s.faultPass c).1.pixOut = s.pixOut ∧
    (s.faultPass c).1.draws = s.draws ∧ (s.faultPass c).1.pending = s.pending ∧
    (s.faultPass c).1.port.pointer = s.port.pointer ∧ (s.faultPass c).1.port.latch = s.port.latch ∧
    (s.faultPass c).1.port.enables = s.port.enables ∧ (s.faultPass c).1.port.run = s.port.run ∧
    (s.faultPass c).1.port.ident = s.port.ident := by
  simp [State.faultPass]

/-- A fault that may reach the pass touches what a fault touches. -/
@[simp] theorem State.faultPassIf_frame (s : State) (b : Bool) (c : Condition) :
    (s.faultPassIf b c).1.position = s.position ∧ (s.faultPassIf b c).1.sequencer = s.sequencer ∧
    (s.faultPassIf b c).1.tracker = s.tracker ∧ (s.faultPassIf b c).1.engine = s.engine ∧
    (s.faultPassIf b c).1.requests = s.requests ∧ (s.faultPassIf b c).1.writer = s.writer ∧
    (s.faultPassIf b c).1.setup = s.setup ∧ (s.faultPassIf b c).1.busData = s.busData ∧
    (s.faultPassIf b c).1.pixOut = s.pixOut ∧ (s.faultPassIf b c).1.draws = s.draws ∧
    (s.faultPassIf b c).1.pending = s.pending ∧ (s.faultPassIf b c).1.port.pointer = s.port.pointer ∧
    (s.faultPassIf b c).1.port.latch = s.port.latch ∧ (s.faultPassIf b c).1.port.enables = s.port.enables ∧
    (s.faultPassIf b c).1.port.run = s.port.run ∧ (s.faultPassIf b c).1.port.ident = s.port.ident := by
  cases b <;> simp [State.faultPassIf]

/-- Setting stop pending touches the pass, the matrix and the pass block alone. -/
@[simp] theorem State.setStopPending_frame (s : State) :
    s.setStopPending.position = s.position ∧ s.setStopPending.sequencer = s.sequencer ∧
    s.setStopPending.tracker = s.tracker ∧ s.setStopPending.engine = s.engine ∧
    s.setStopPending.requests = s.requests ∧ s.setStopPending.writer = s.writer ∧ s.setStopPending.port = s.port ∧
    s.setStopPending.setup = s.setup ∧ s.setStopPending.busData = s.busData ∧ s.setStopPending.pixOut = s.pixOut ∧
    s.setStopPending.draws = s.draws ∧ s.setStopPending.pending = s.pending := by
  simp [State.setStopPending]

/-- A PASS STOP pulse touches the pass, the matrix and the pass block alone. -/
@[simp] theorem State.passStopPulse_frame (s : State) (b : Bool) :
    (s.passStopPulse b).position = s.position ∧ (s.passStopPulse b).sequencer = s.sequencer ∧
    (s.passStopPulse b).tracker = s.tracker ∧ (s.passStopPulse b).engine = s.engine ∧
    (s.passStopPulse b).requests = s.requests ∧ (s.passStopPulse b).writer = s.writer ∧
    (s.passStopPulse b).port = s.port ∧ (s.passStopPulse b).setup = s.setup ∧
    (s.passStopPulse b).busData = s.busData ∧ (s.passStopPulse b).pixOut = s.pixOut ∧
    (s.passStopPulse b).draws = s.draws ∧ (s.passStopPulse b).pending = s.pending := by
  unfold State.passStopPulse; split <;> simp

/-- Counting a frame touches the draw counter alone. -/
@[simp] theorem State.countFrame_frame (s : State) :
    s.countFrame.2.position = s.position ∧ s.countFrame.2.sequencer = s.sequencer ∧
    s.countFrame.2.tracker = s.tracker ∧ s.countFrame.2.engine = s.engine ∧ s.countFrame.2.requests = s.requests ∧
    s.countFrame.2.pass = s.pass ∧ s.countFrame.2.matrix = s.matrix ∧ s.countFrame.2.writer = s.writer ∧
    s.countFrame.2.port = s.port ∧ s.countFrame.2.setup = s.setup ∧ s.countFrame.2.cue = s.cue ∧
    s.countFrame.2.busData = s.busData ∧ s.countFrame.2.pixOut = s.pixOut ∧ s.countFrame.2.pending = s.pending := by
  unfold State.countFrame; split <;> simp

/-- Counting a frame of the pass touches the pass, the matrix, the pass block, the causes and the draw counter alone. -/
@[simp] theorem State.countPass_frame (s : State) :
    s.countPass.1.position = s.position ∧ s.countPass.1.sequencer = s.sequencer ∧ s.countPass.1.tracker = s.tracker ∧
    s.countPass.1.engine = s.engine ∧ s.countPass.1.requests = s.requests ∧ s.countPass.1.writer = s.writer ∧
    s.countPass.1.setup = s.setup ∧ s.countPass.1.busData = s.busData ∧ s.countPass.1.pixOut = s.pixOut ∧
    s.countPass.1.pending = s.pending ∧ s.countPass.1.port.pointer = s.port.pointer ∧
    s.countPass.1.port.latch = s.port.latch ∧ s.countPass.1.port.enables = s.port.enables ∧
    s.countPass.1.port.run = s.port.run ∧ s.countPass.1.port.ident = s.port.ident := by
  unfold State.countPass; dsimp only; split <;> simp

/-- The judgement of a cued pass touches the pass, the matrix, the pass block and the causes alone. -/
@[simp] theorem State.judgeCued_frame (s : State) :
    s.judgeCued.1.position = s.position ∧ s.judgeCued.1.sequencer = s.sequencer ∧ s.judgeCued.1.tracker = s.tracker ∧
    s.judgeCued.1.engine = s.engine ∧ s.judgeCued.1.requests = s.requests ∧ s.judgeCued.1.writer = s.writer ∧
    s.judgeCued.1.setup = s.setup ∧ s.judgeCued.1.busData = s.busData ∧ s.judgeCued.1.pixOut = s.pixOut ∧
    s.judgeCued.1.draws = s.draws ∧ s.judgeCued.1.pending = s.pending ∧ s.judgeCued.1.port.pointer = s.port.pointer ∧
    s.judgeCued.1.port.latch = s.port.latch ∧ s.judgeCued.1.port.enables = s.port.enables ∧
    s.judgeCued.1.port.run = s.port.run ∧ s.judgeCued.1.port.ident = s.port.ident := by
  unfold State.judgeCued; dsimp only; (repeat' split) <;> simp

/-- The judgement of a recording pass touches what counting a frame touches. -/
@[simp] theorem State.judgeRecording_frame (s : State) :
    s.judgeRecording.1.position = s.position ∧ s.judgeRecording.1.sequencer = s.sequencer ∧
    s.judgeRecording.1.tracker = s.tracker ∧ s.judgeRecording.1.engine = s.engine ∧
    s.judgeRecording.1.requests = s.requests ∧ s.judgeRecording.1.writer = s.writer ∧
    s.judgeRecording.1.setup = s.setup ∧ s.judgeRecording.1.busData = s.busData ∧
    s.judgeRecording.1.pixOut = s.pixOut ∧ s.judgeRecording.1.pending = s.pending ∧
    s.judgeRecording.1.port.pointer = s.port.pointer ∧ s.judgeRecording.1.port.latch = s.port.latch ∧
    s.judgeRecording.1.port.enables = s.port.enables ∧ s.judgeRecording.1.port.run = s.port.run ∧
    s.judgeRecording.1.port.ident = s.port.ident := by
  unfold State.judgeRecording; dsimp only; (repeat' split) <;> simp

/-- The judgement of a field touches what counting a frame touches. -/
@[simp] theorem State.judgePass_frame (s : State) :
    s.judgePass.1.position = s.position ∧ s.judgePass.1.sequencer = s.sequencer ∧ s.judgePass.1.tracker = s.tracker ∧
    s.judgePass.1.engine = s.engine ∧ s.judgePass.1.requests = s.requests ∧ s.judgePass.1.writer = s.writer ∧
    s.judgePass.1.setup = s.setup ∧ s.judgePass.1.busData = s.busData ∧ s.judgePass.1.pixOut = s.pixOut ∧
    s.judgePass.1.pending = s.pending ∧ s.judgePass.1.port.pointer = s.port.pointer ∧
    s.judgePass.1.port.latch = s.port.latch ∧ s.judgePass.1.port.enables = s.port.enables ∧
    s.judgePass.1.port.run = s.port.run ∧ s.judgePass.1.port.ident = s.port.ident := by
  unfold State.judgePass; split <;> simp

/-- Writing a record touches the ring, the writer and the causes alone. -/
@[simp] theorem State.appendRecord_frame (s : State) (r : Record) (fc : DWord) :
    (s.appendRecord r fc).position = s.position ∧ (s.appendRecord r fc).sequencer = s.sequencer ∧
    (s.appendRecord r fc).tracker = s.tracker ∧ (s.appendRecord r fc).engine = s.engine ∧
    (s.appendRecord r fc).requests = s.requests ∧ (s.appendRecord r fc).pass = s.pass ∧
    (s.appendRecord r fc).matrix = s.matrix ∧ (s.appendRecord r fc).setup = s.setup ∧
    (s.appendRecord r fc).busData = s.busData ∧ (s.appendRecord r fc).pixOut = s.pixOut ∧
    (s.appendRecord r fc).draws = s.draws ∧ (s.appendRecord r fc).pending = s.pending ∧
    (s.appendRecord r fc).port.pointer = s.port.pointer ∧ (s.appendRecord r fc).port.latch = s.port.latch ∧
    (s.appendRecord r fc).port.enables = s.port.enables ∧ (s.appendRecord r fc).port.run = s.port.run ∧
    (s.appendRecord r fc).port.ident = s.port.ident := by
  simp [State.appendRecord]

/-- Dropping a record touches the writer alone. -/
@[simp] theorem State.dropRecord_frame (s : State) (r : Record) :
    (s.dropRecord r).position = s.position ∧ (s.dropRecord r).sequencer = s.sequencer ∧
    (s.dropRecord r).tracker = s.tracker ∧ (s.dropRecord r).engine = s.engine ∧
    (s.dropRecord r).requests = s.requests ∧ (s.dropRecord r).pass = s.pass ∧ (s.dropRecord r).matrix = s.matrix ∧
    (s.dropRecord r).port = s.port ∧ (s.dropRecord r).setup = s.setup ∧ (s.dropRecord r).cue = s.cue ∧
    (s.dropRecord r).busData = s.busData ∧ (s.dropRecord r).pixOut = s.pixOut ∧ (s.dropRecord r).draws = s.draws ∧
    (s.dropRecord r).pending = s.pending := by
  simp [State.dropRecord]

/-- Writing or dropping a record touches the ring, the writer and the causes alone. -/
@[simp] theorem State.writeOrDrop_frame (s : State) (r : Record) :
    (s.writeOrDrop r).position = s.position ∧ (s.writeOrDrop r).sequencer = s.sequencer ∧
    (s.writeOrDrop r).tracker = s.tracker ∧ (s.writeOrDrop r).engine = s.engine ∧
    (s.writeOrDrop r).requests = s.requests ∧ (s.writeOrDrop r).pass = s.pass ∧ (s.writeOrDrop r).matrix = s.matrix ∧
    (s.writeOrDrop r).setup = s.setup ∧ (s.writeOrDrop r).busData = s.busData ∧ (s.writeOrDrop r).pixOut = s.pixOut ∧
    (s.writeOrDrop r).draws = s.draws ∧ (s.writeOrDrop r).pending = s.pending ∧
    (s.writeOrDrop r).port.pointer = s.port.pointer ∧ (s.writeOrDrop r).port.latch = s.port.latch ∧
    (s.writeOrDrop r).port.enables = s.port.enables ∧ (s.writeOrDrop r).port.run = s.port.run ∧
    (s.writeOrDrop r).port.ident = s.port.ident := by
  unfold State.writeOrDrop; split <;> simp

/-- Closing a gap touches the ring, the writer and the causes alone. -/
@[simp] theorem State.closeGap_frame (s : State) (g : Gap) :
    (s.closeGap g).position = s.position ∧ (s.closeGap g).sequencer = s.sequencer ∧
    (s.closeGap g).tracker = s.tracker ∧ (s.closeGap g).engine = s.engine ∧ (s.closeGap g).requests = s.requests ∧
    (s.closeGap g).pass = s.pass ∧ (s.closeGap g).matrix = s.matrix ∧ (s.closeGap g).setup = s.setup ∧
    (s.closeGap g).busData = s.busData ∧ (s.closeGap g).pixOut = s.pixOut ∧ (s.closeGap g).draws = s.draws ∧
    (s.closeGap g).pending = s.pending ∧ (s.closeGap g).port.pointer = s.port.pointer ∧
    (s.closeGap g).port.latch = s.port.latch ∧ (s.closeGap g).port.enables = s.port.enables ∧
    (s.closeGap g).port.run = s.port.run ∧ (s.closeGap g).port.ident = s.port.ident := by
  simp [State.closeGap]

/-- Handing a record touches the ring, the writer and the causes alone. -/
@[simp] theorem State.hand_frame (s : State) (r : Record) :
    (s.hand r).position = s.position ∧ (s.hand r).sequencer = s.sequencer ∧ (s.hand r).tracker = s.tracker ∧
    (s.hand r).engine = s.engine ∧ (s.hand r).requests = s.requests ∧ (s.hand r).pass = s.pass ∧
    (s.hand r).matrix = s.matrix ∧ (s.hand r).setup = s.setup ∧ (s.hand r).busData = s.busData ∧
    (s.hand r).pixOut = s.pixOut ∧ (s.hand r).draws = s.draws ∧ (s.hand r).pending = s.pending ∧
    (s.hand r).port.pointer = s.port.pointer ∧ (s.hand r).port.latch = s.port.latch ∧
    (s.hand r).port.enables = s.port.enables ∧ (s.hand r).port.run = s.port.run ∧
    (s.hand r).port.ident = s.port.ident := by
  unfold State.hand; (repeat' split) <;> simp

/-- Handing records touches the ring, the writer and the causes alone. -/
@[simp] theorem State.handEach_frame (s : State) (rs : List Record) :
    (s.handEach rs).position = s.position ∧ (s.handEach rs).sequencer = s.sequencer ∧
    (s.handEach rs).tracker = s.tracker ∧ (s.handEach rs).engine = s.engine ∧ (s.handEach rs).requests = s.requests ∧
    (s.handEach rs).pass = s.pass ∧ (s.handEach rs).matrix = s.matrix ∧ (s.handEach rs).setup = s.setup ∧
    (s.handEach rs).busData = s.busData ∧ (s.handEach rs).pixOut = s.pixOut ∧ (s.handEach rs).draws = s.draws ∧
    (s.handEach rs).pending = s.pending ∧ (s.handEach rs).port.pointer = s.port.pointer ∧
    (s.handEach rs).port.latch = s.port.latch ∧ (s.handEach rs).port.enables = s.port.enables ∧
    (s.handEach rs).port.run = s.port.run ∧ (s.handEach rs).port.ident = s.port.ident := by
  induction rs generalizing s with
  | nil => simp [State.handEach]
  | cons r rs ih => simp [State.handEach, ih]

/-- Handing records of several blocks touches the ring, the writer, the causes and the draw counter alone. -/
@[simp] theorem State.handMixed_frame (fuel : Nat) (s : State) (qs : List (List Record)) :
    (State.handMixed fuel s qs).position = s.position ∧ (State.handMixed fuel s qs).sequencer = s.sequencer ∧
    (State.handMixed fuel s qs).tracker = s.tracker ∧ (State.handMixed fuel s qs).engine = s.engine ∧
    (State.handMixed fuel s qs).requests = s.requests ∧ (State.handMixed fuel s qs).pass = s.pass ∧
    (State.handMixed fuel s qs).matrix = s.matrix ∧ (State.handMixed fuel s qs).setup = s.setup ∧
    (State.handMixed fuel s qs).busData = s.busData ∧ (State.handMixed fuel s qs).pixOut = s.pixOut ∧
    (State.handMixed fuel s qs).pending = s.pending ∧ (State.handMixed fuel s qs).port.pointer = s.port.pointer ∧
    (State.handMixed fuel s qs).port.latch = s.port.latch ∧
    (State.handMixed fuel s qs).port.enables = s.port.enables ∧ (State.handMixed fuel s qs).port.run = s.port.run ∧
    (State.handMixed fuel s qs).port.ident = s.port.ident := by
  induction fuel generalizing s qs with
  | zero => simp [State.handMixed]
  | succ fuel ih =>
    unfold State.handMixed
    split
    · simp
    · simp
    · dsimp only; split <;> simp [ih]

/-- Handing the records of one event touches the ring, the writer, the causes and the draw counter alone. -/
@[simp] theorem State.handTogether_frame (s : State) (qs : List (List Record)) :
    (s.handTogether qs).position = s.position ∧ (s.handTogether qs).sequencer = s.sequencer ∧
    (s.handTogether qs).tracker = s.tracker ∧ (s.handTogether qs).engine = s.engine ∧
    (s.handTogether qs).requests = s.requests ∧ (s.handTogether qs).pass = s.pass ∧
    (s.handTogether qs).matrix = s.matrix ∧ (s.handTogether qs).setup = s.setup ∧
    (s.handTogether qs).busData = s.busData ∧ (s.handTogether qs).pixOut = s.pixOut ∧
    (s.handTogether qs).pending = s.pending ∧ (s.handTogether qs).port.pointer = s.port.pointer ∧
    (s.handTogether qs).port.latch = s.port.latch ∧ (s.handTogether qs).port.enables = s.port.enables ∧
    (s.handTogether qs).port.run = s.port.run ∧ (s.handTogether qs).port.ident = s.port.ident := by
  simp [State.handTogether]

/-- A release touches the writer and the causes alone. -/
@[simp] theorem State.release_frame (s : State) (v : Word) :
    (s.release v).position = s.position ∧ (s.release v).sequencer = s.sequencer ∧ (s.release v).tracker = s.tracker ∧
    (s.release v).engine = s.engine ∧ (s.release v).requests = s.requests ∧ (s.release v).pass = s.pass ∧
    (s.release v).matrix = s.matrix ∧ (s.release v).setup = s.setup ∧ (s.release v).cue = s.cue ∧
    (s.release v).busData = s.busData ∧ (s.release v).pixOut = s.pixOut ∧ (s.release v).draws = s.draws ∧
    (s.release v).pending = s.pending ∧ (s.release v).port.pointer = s.port.pointer ∧
    (s.release v).port.latch = s.port.latch ∧ (s.release v).port.enables = s.port.enables ∧
    (s.release v).port.run = s.port.run ∧ (s.release v).port.ident = s.port.ident := by
  unfold State.release; dsimp only; split <;> simp

/-- A refused step touches the counter and the causes alone. -/
@[simp] theorem State.refuseStep_frame (s : State) (d : StepDirection) :
    (s.refuseStep d).1.sequencer = s.sequencer ∧ (s.refuseStep d).1.tracker = s.tracker ∧
    (s.refuseStep d).1.engine = s.engine ∧ (s.refuseStep d).1.requests = s.requests ∧
    (s.refuseStep d).1.pass = s.pass ∧ (s.refuseStep d).1.matrix = s.matrix ∧ (s.refuseStep d).1.writer = s.writer ∧
    (s.refuseStep d).1.setup = s.setup ∧ (s.refuseStep d).1.cue = s.cue ∧ (s.refuseStep d).1.busData = s.busData ∧
    (s.refuseStep d).1.pixOut = s.pixOut ∧ (s.refuseStep d).1.draws = s.draws ∧
    (s.refuseStep d).1.pending = s.pending ∧ (s.refuseStep d).1.port.pointer = s.port.pointer ∧
    (s.refuseStep d).1.port.latch = s.port.latch ∧ (s.refuseStep d).1.port.enables = s.port.enables ∧
    (s.refuseStep d).1.port.run = s.port.run ∧ (s.refuseStep d).1.port.ident = s.port.ident := by
  unfold State.refuseStep; split <;> simp

/-- A counted step touches the counter and the matrix alone. -/
@[simp] theorem State.countStep_frame (s : State) (d : StepDirection) :
    (s.countStep d).sequencer = s.sequencer ∧ (s.countStep d).tracker = s.tracker ∧
    (s.countStep d).engine = s.engine ∧ (s.countStep d).requests = s.requests ∧ (s.countStep d).pass = s.pass ∧
    (s.countStep d).writer = s.writer ∧ (s.countStep d).port = s.port ∧ (s.countStep d).setup = s.setup ∧
    (s.countStep d).cue = s.cue ∧ (s.countStep d).busData = s.busData ∧ (s.countStep d).pixOut = s.pixOut ∧
    (s.countStep d).draws = s.draws ∧ (s.countStep d).pending = s.pending := by
  simp [State.countStep]

/-- A perforation step touches the counter, the matrix and the causes alone. -/
@[simp] theorem State.perfStep_frame (s : State) (d : StepDirection) :
    (s.perfStep d).1.sequencer = s.sequencer ∧ (s.perfStep d).1.tracker = s.tracker ∧
    (s.perfStep d).1.engine = s.engine ∧ (s.perfStep d).1.requests = s.requests ∧ (s.perfStep d).1.pass = s.pass ∧
    (s.perfStep d).1.writer = s.writer ∧ (s.perfStep d).1.setup = s.setup ∧ (s.perfStep d).1.cue = s.cue ∧
    (s.perfStep d).1.busData = s.busData ∧ (s.perfStep d).1.pixOut = s.pixOut ∧ (s.perfStep d).1.draws = s.draws ∧
    (s.perfStep d).1.pending = s.pending ∧ (s.perfStep d).1.port.pointer = s.port.pointer ∧
    (s.perfStep d).1.port.latch = s.port.latch ∧ (s.perfStep d).1.port.enables = s.port.enables ∧
    (s.perfStep d).1.port.run = s.port.run ∧ (s.perfStep d).1.port.ident = s.port.ident := by
  unfold State.perfStep; dsimp only; split <;> simp

/-- A re-synchronisation touches the counter, the matrix and the causes alone. -/
@[simp] theorem State.resynchronise_frame (s : State) (g d : Int) :
    (s.resynchronise g d).1.sequencer = s.sequencer ∧ (s.resynchronise g d).1.tracker = s.tracker ∧
    (s.resynchronise g d).1.engine = s.engine ∧ (s.resynchronise g d).1.requests = s.requests ∧
    (s.resynchronise g d).1.pass = s.pass ∧ (s.resynchronise g d).1.writer = s.writer ∧
    (s.resynchronise g d).1.setup = s.setup ∧ (s.resynchronise g d).1.cue = s.cue ∧
    (s.resynchronise g d).1.busData = s.busData ∧ (s.resynchronise g d).1.pixOut = s.pixOut ∧
    (s.resynchronise g d).1.draws = s.draws ∧ (s.resynchronise g d).1.pending = s.pending ∧
    (s.resynchronise g d).1.port.pointer = s.port.pointer ∧ (s.resynchronise g d).1.port.latch = s.port.latch ∧
    (s.resynchronise g d).1.port.enables = s.port.enables ∧ (s.resynchronise g d).1.port.run = s.port.run ∧
    (s.resynchronise g d).1.port.ident = s.port.ident := by
  simp [State.resynchronise]

/-- A reading in FOLLOW touches the counter, the matrix and the causes alone. -/
@[simp] theorem State.followReading_frame (s : State) (g d : Int) :
    (s.followReading g d).1.sequencer = s.sequencer ∧ (s.followReading g d).1.tracker = s.tracker ∧
    (s.followReading g d).1.engine = s.engine ∧ (s.followReading g d).1.requests = s.requests ∧
    (s.followReading g d).1.pass = s.pass ∧ (s.followReading g d).1.writer = s.writer ∧
    (s.followReading g d).1.setup = s.setup ∧ (s.followReading g d).1.cue = s.cue ∧
    (s.followReading g d).1.busData = s.busData ∧ (s.followReading g d).1.pixOut = s.pixOut ∧
    (s.followReading g d).1.draws = s.draws ∧ (s.followReading g d).1.pending = s.pending ∧
    (s.followReading g d).1.port.pointer = s.port.pointer ∧ (s.followReading g d).1.port.latch = s.port.latch ∧
    (s.followReading g d).1.port.enables = s.port.enables ∧ (s.followReading g d).1.port.run = s.port.run ∧
    (s.followReading g d).1.port.ident = s.port.ident := by
  unfold State.followReading; (repeat' split) <;> simp

/-- A reading in WATCH touches the counter, the matrix and the causes alone. -/
@[simp] theorem State.watchReading_frame (s : State) (g d : Int) :
    (s.watchReading g d).1.sequencer = s.sequencer ∧ (s.watchReading g d).1.tracker = s.tracker ∧
    (s.watchReading g d).1.engine = s.engine ∧ (s.watchReading g d).1.requests = s.requests ∧
    (s.watchReading g d).1.pass = s.pass ∧ (s.watchReading g d).1.writer = s.writer ∧
    (s.watchReading g d).1.setup = s.setup ∧ (s.watchReading g d).1.cue = s.cue ∧
    (s.watchReading g d).1.busData = s.busData ∧ (s.watchReading g d).1.pixOut = s.pixOut ∧
    (s.watchReading g d).1.draws = s.draws ∧ (s.watchReading g d).1.pending = s.pending ∧
    (s.watchReading g d).1.port.pointer = s.port.pointer ∧ (s.watchReading g d).1.port.latch = s.port.latch ∧
    (s.watchReading g d).1.port.enables = s.port.enables ∧ (s.watchReading g d).1.port.run = s.port.run ∧
    (s.watchReading g d).1.port.ident = s.port.ident := by
  unfold State.watchReading; (repeat' split) <;> simp

/-- An edge reading touches the counter, the matrix and the causes alone. -/
@[simp] theorem State.edgeReading_frame (s : State) (v : BitVec 24) (b : Bool) :
    (s.edgeReading v b).1.sequencer = s.sequencer ∧ (s.edgeReading v b).1.tracker = s.tracker ∧
    (s.edgeReading v b).1.engine = s.engine ∧ (s.edgeReading v b).1.requests = s.requests ∧
    (s.edgeReading v b).1.pass = s.pass ∧ (s.edgeReading v b).1.writer = s.writer ∧
    (s.edgeReading v b).1.setup = s.setup ∧ (s.edgeReading v b).1.cue = s.cue ∧
    (s.edgeReading v b).1.busData = s.busData ∧ (s.edgeReading v b).1.pixOut = s.pixOut ∧
    (s.edgeReading v b).1.draws = s.draws ∧ (s.edgeReading v b).1.pending = s.pending ∧
    (s.edgeReading v b).1.port.pointer = s.port.pointer ∧ (s.edgeReading v b).1.port.latch = s.port.latch ∧
    (s.edgeReading v b).1.port.enables = s.port.enables ∧ (s.edgeReading v b).1.port.run = s.port.run ∧
    (s.edgeReading v b).1.port.ident = s.port.ident := by
  unfold State.edgeReading; dsimp only; (repeat' split) <;> simp

/-- Forming a LOCK record touches the draw counter alone. -/
@[simp] theorem State.lockRecord_frame (s : State) (c : LockCause) (p : Option Nat) (f : Option Int) :
    (s.lockRecord c p f).2.position = s.position ∧ (s.lockRecord c p f).2.sequencer = s.sequencer ∧
    (s.lockRecord c p f).2.tracker = s.tracker ∧ (s.lockRecord c p f).2.engine = s.engine ∧
    (s.lockRecord c p f).2.requests = s.requests ∧ (s.lockRecord c p f).2.pass = s.pass ∧
    (s.lockRecord c p f).2.matrix = s.matrix ∧ (s.lockRecord c p f).2.writer = s.writer ∧
    (s.lockRecord c p f).2.port = s.port ∧ (s.lockRecord c p f).2.setup = s.setup ∧
    (s.lockRecord c p f).2.cue = s.cue ∧ (s.lockRecord c p f).2.busData = s.busData ∧
    (s.lockRecord c p f).2.pixOut = s.pixOut ∧ (s.lockRecord c p f).2.pending = s.pending := by
  simp [State.lockRecord]

/-- The sequencer's work at a field touches the sequencer, the matrix, the causes and the draw counter alone. -/
@[simp] theorem State.takeField_frame (s : State) (id : FieldIdentity) (b : Bool) :
    (s.takeField id b).1.position = s.position ∧ (s.takeField id b).1.tracker = s.tracker ∧
    (s.takeField id b).1.engine = s.engine ∧ (s.takeField id b).1.requests = s.requests ∧
    (s.takeField id b).1.pass = s.pass ∧ (s.takeField id b).1.writer = s.writer ∧
    (s.takeField id b).1.setup = s.setup ∧ (s.takeField id b).1.cue = s.cue ∧
    (s.takeField id b).1.busData = s.busData ∧ (s.takeField id b).1.pixOut = s.pixOut ∧
    (s.takeField id b).1.pending = s.pending ∧ (s.takeField id b).1.port.pointer = s.port.pointer ∧
    (s.takeField id b).1.port.latch = s.port.latch ∧ (s.takeField id b).1.port.enables = s.port.enables ∧
    (s.takeField id b).1.port.run = s.port.run ∧ (s.takeField id b).1.port.ident = s.port.ident := by
  unfold State.takeField; dsimp only; split <;> simp

/-- The loss of the reference touches the sequencer, the matrix, the status block, the causes and the draw counter
alone. -/
@[simp] theorem State.loseReference_frame (s : State) :
    s.loseReference.1.position = s.position ∧ s.loseReference.1.tracker = s.tracker ∧
    s.loseReference.1.engine = s.engine ∧ s.loseReference.1.requests = s.requests ∧ s.loseReference.1.pass = s.pass ∧
    s.loseReference.1.writer = s.writer ∧ s.loseReference.1.setup = s.setup ∧ s.loseReference.1.busData = s.busData ∧
    s.loseReference.1.pixOut = s.pixOut ∧ s.loseReference.1.pending = s.pending ∧
    s.loseReference.1.port.pointer = s.port.pointer ∧ s.loseReference.1.port.latch = s.port.latch ∧
    s.loseReference.1.port.enables = s.port.enables ∧ s.loseReference.1.port.run = s.port.run ∧
    s.loseReference.1.port.ident = s.port.ident := by
  unfold State.loseReference; dsimp only; (repeat' split) <;> simp

/-- Forming a SCENE record touches the draw counter alone. -/
@[simp] theorem State.sceneRecord_frame (s : State) (t : Tracker) (r : Resolution) :
    (s.sceneRecord t r).2.position = s.position ∧ (s.sceneRecord t r).2.sequencer = s.sequencer ∧
    (s.sceneRecord t r).2.tracker = s.tracker ∧ (s.sceneRecord t r).2.engine = s.engine ∧
    (s.sceneRecord t r).2.requests = s.requests ∧ (s.sceneRecord t r).2.pass = s.pass ∧
    (s.sceneRecord t r).2.matrix = s.matrix ∧ (s.sceneRecord t r).2.writer = s.writer ∧
    (s.sceneRecord t r).2.port = s.port ∧ (s.sceneRecord t r).2.setup = s.setup ∧ (s.sceneRecord t r).2.cue = s.cue ∧
    (s.sceneRecord t r).2.busData = s.busData ∧ (s.sceneRecord t r).2.pixOut = s.pixOut ∧
    (s.sceneRecord t r).2.pending = s.pending := by
  simp [State.sceneRecord]

/-- A RESOLVED field touches the tracker, the matrix and the draw counter alone. -/
@[simp] theorem State.resolveCovered_frame (s : State) (c : Slot) (n : Nat) :
    (s.resolveCovered c n).state.position = s.position ∧ (s.resolveCovered c n).state.sequencer = s.sequencer ∧
    (s.resolveCovered c n).state.engine = s.engine ∧ (s.resolveCovered c n).state.requests = s.requests ∧
    (s.resolveCovered c n).state.pass = s.pass ∧ (s.resolveCovered c n).state.writer = s.writer ∧
    (s.resolveCovered c n).state.port = s.port ∧ (s.resolveCovered c n).state.setup = s.setup ∧
    (s.resolveCovered c n).state.cue = s.cue ∧ (s.resolveCovered c n).state.busData = s.busData ∧
    (s.resolveCovered c n).state.pixOut = s.pixOut ∧ (s.resolveCovered c n).state.pending = s.pending := by
  unfold State.resolveCovered; dsimp only; split <;> simp

/-- A HELD field touches the tracker, the matrix and the causes alone. -/
@[simp] theorem State.resolveHeld_frame (s : State) (c : Slot) (n : Nat) :
    (s.resolveHeld c n).state.position = s.position ∧ (s.resolveHeld c n).state.sequencer = s.sequencer ∧
    (s.resolveHeld c n).state.engine = s.engine ∧ (s.resolveHeld c n).state.requests = s.requests ∧
    (s.resolveHeld c n).state.pass = s.pass ∧ (s.resolveHeld c n).state.writer = s.writer ∧
    (s.resolveHeld c n).state.setup = s.setup ∧ (s.resolveHeld c n).state.cue = s.cue ∧
    (s.resolveHeld c n).state.busData = s.busData ∧ (s.resolveHeld c n).state.pixOut = s.pixOut ∧
    (s.resolveHeld c n).state.draws = s.draws ∧ (s.resolveHeld c n).state.pending = s.pending ∧
    (s.resolveHeld c n).state.port.pointer = s.port.pointer ∧ (s.resolveHeld c n).state.port.latch = s.port.latch ∧
    (s.resolveHeld c n).state.port.enables = s.port.enables ∧ (s.resolveHeld c n).state.port.run = s.port.run ∧
    (s.resolveHeld c n).state.port.ident = s.port.ident := by
  unfold State.resolveHeld; dsimp only; split <;> simp

/-- The tracker's work at a field touches the tracker, the matrix, the causes and the draw counter alone. -/
@[simp] theorem State.resolve_frame (s : State) :
    s.resolve.state.position = s.position ∧ s.resolve.state.sequencer = s.sequencer ∧
    s.resolve.state.engine = s.engine ∧ s.resolve.state.requests = s.requests ∧ s.resolve.state.pass = s.pass ∧
    s.resolve.state.writer = s.writer ∧ s.resolve.state.setup = s.setup ∧ s.resolve.state.cue = s.cue ∧
    s.resolve.state.busData = s.busData ∧ s.resolve.state.pixOut = s.pixOut ∧ s.resolve.state.pending = s.pending ∧
    s.resolve.state.port.pointer = s.port.pointer ∧ s.resolve.state.port.latch = s.port.latch ∧
    s.resolve.state.port.enables = s.port.enables ∧ s.resolve.state.port.run = s.port.run ∧
    s.resolve.state.port.ident = s.port.ident := by
  unfold State.resolve; dsimp only; (repeat' split) <;> simp

/-- Writing the status block touches cue memory alone. -/
@[simp] theorem State.writeStatus_frame (s : State) (f : FieldMoment) :
    (s.writeStatus f).position = s.position ∧ (s.writeStatus f).sequencer = s.sequencer ∧
    (s.writeStatus f).tracker = s.tracker ∧ (s.writeStatus f).engine = s.engine ∧
    (s.writeStatus f).requests = s.requests ∧ (s.writeStatus f).pass = s.pass ∧ (s.writeStatus f).matrix = s.matrix ∧
    (s.writeStatus f).writer = s.writer ∧ (s.writeStatus f).port = s.port ∧ (s.writeStatus f).setup = s.setup ∧
    (s.writeStatus f).busData = s.busData ∧ (s.writeStatus f).pixOut = s.pixOut ∧ (s.writeStatus f).draws = s.draws ∧
    (s.writeStatus f).pending = s.pending := by
  simp [State.writeStatus]

/-- The coefficient step touches the engine alone. -/
@[simp] theorem State.buildCoefficients_frame (s : State) :
    s.buildCoefficients.position = s.position ∧ s.buildCoefficients.sequencer = s.sequencer ∧
    s.buildCoefficients.tracker = s.tracker ∧ s.buildCoefficients.requests = s.requests ∧
    s.buildCoefficients.pass = s.pass ∧ s.buildCoefficients.matrix = s.matrix ∧
    s.buildCoefficients.writer = s.writer ∧ s.buildCoefficients.port = s.port ∧ s.buildCoefficients.setup = s.setup ∧
    s.buildCoefficients.cue = s.cue ∧ s.buildCoefficients.busData = s.busData ∧
    s.buildCoefficients.pixOut = s.pixOut ∧ s.buildCoefficients.draws = s.draws ∧
    s.buildCoefficients.pending = s.pending := by
  unfold State.buildCoefficients; (repeat' split) <;> simp

/-- The end of a live read touches the engine, cue memory, the writer, the causes and the draw counter alone. -/
@[simp] theorem State.endLiveRead_frame (s : State) (r : LiveRead) :
    (s.endLiveRead r).position = s.position ∧ (s.endLiveRead r).sequencer = s.sequencer ∧
    (s.endLiveRead r).tracker = s.tracker ∧ (s.endLiveRead r).requests = s.requests ∧
    (s.endLiveRead r).pass = s.pass ∧ (s.endLiveRead r).matrix = s.matrix ∧ (s.endLiveRead r).setup = s.setup ∧
    (s.endLiveRead r).busData = s.busData ∧ (s.endLiveRead r).pixOut = s.pixOut ∧
    (s.endLiveRead r).pending = s.pending ∧ (s.endLiveRead r).port.pointer = s.port.pointer ∧
    (s.endLiveRead r).port.latch = s.port.latch ∧ (s.endLiveRead r).port.enables = s.port.enables ∧
    (s.endLiveRead r).port.run = s.port.run ∧ (s.endLiveRead r).port.ident = s.port.ident := by
  unfold State.endLiveRead; dsimp only; (repeat' split) <;> simp

/-- A word read touches what the end of a live read touches. -/
@[simp] theorem State.liveWordRead_frame (s : State) (r : LiveRead) :
    (s.liveWordRead r).position = s.position ∧ (s.liveWordRead r).sequencer = s.sequencer ∧
    (s.liveWordRead r).tracker = s.tracker ∧ (s.liveWordRead r).requests = s.requests ∧
    (s.liveWordRead r).pass = s.pass ∧ (s.liveWordRead r).matrix = s.matrix ∧ (s.liveWordRead r).setup = s.setup ∧
    (s.liveWordRead r).busData = s.busData ∧ (s.liveWordRead r).pixOut = s.pixOut ∧
    (s.liveWordRead r).pending = s.pending ∧ (s.liveWordRead r).port.pointer = s.port.pointer ∧
    (s.liveWordRead r).port.latch = s.port.latch ∧ (s.liveWordRead r).port.enables = s.port.enables ∧
    (s.liveWordRead r).port.run = s.port.run ∧ (s.liveWordRead r).port.ident = s.port.ident := by
  unfold State.liveWordRead; dsimp only; split <;> simp

/-- Word reads touch what the end of a live read touches. -/
@[simp] theorem State.liveReads_frame (fuel : Nat) (s : State) :
    (State.liveReads fuel s).position = s.position ∧ (State.liveReads fuel s).sequencer = s.sequencer ∧
    (State.liveReads fuel s).tracker = s.tracker ∧ (State.liveReads fuel s).requests = s.requests ∧
    (State.liveReads fuel s).pass = s.pass ∧ (State.liveReads fuel s).matrix = s.matrix ∧
    (State.liveReads fuel s).setup = s.setup ∧ (State.liveReads fuel s).busData = s.busData ∧
    (State.liveReads fuel s).pixOut = s.pixOut ∧ (State.liveReads fuel s).pending = s.pending ∧
    (State.liveReads fuel s).port.pointer = s.port.pointer ∧ (State.liveReads fuel s).port.latch = s.port.latch ∧
    (State.liveReads fuel s).port.enables = s.port.enables ∧ (State.liveReads fuel s).port.run = s.port.run ∧
    (State.liveReads fuel s).port.ident = s.port.ident := by
  induction fuel generalizing s with
  | zero => simp [State.liveReads]
  | succ fuel ih => unfold State.liveReads; split <;> simp [ih]

/-- Making a live read whole touches what its end touches. -/
@[simp] theorem State.finishLiveRead_frame (s : State) :
    s.finishLiveRead.position = s.position ∧ s.finishLiveRead.sequencer = s.sequencer ∧
    s.finishLiveRead.tracker = s.tracker ∧ s.finishLiveRead.requests = s.requests ∧ s.finishLiveRead.pass = s.pass ∧
    s.finishLiveRead.matrix = s.matrix ∧ s.finishLiveRead.setup = s.setup ∧ s.finishLiveRead.busData = s.busData ∧
    s.finishLiveRead.pixOut = s.pixOut ∧ s.finishLiveRead.pending = s.pending ∧
    s.finishLiveRead.port.pointer = s.port.pointer ∧ s.finishLiveRead.port.latch = s.port.latch ∧
    s.finishLiveRead.port.enables = s.port.enables ∧ s.finishLiveRead.port.run = s.port.run ∧
    s.finishLiveRead.port.ident = s.port.ident := by
  simp [State.finishLiveRead]

/-- The engine's work at a field touches the engine and the status block alone. -/
@[simp] theorem State.engineField_frame (s : State) (b : Bool) :
    (s.engineField b).position = s.position ∧ (s.engineField b).sequencer = s.sequencer ∧
    (s.engineField b).tracker = s.tracker ∧ (s.engineField b).requests = s.requests ∧
    (s.engineField b).pass = s.pass ∧ (s.engineField b).matrix = s.matrix ∧ (s.engineField b).writer = s.writer ∧
    (s.engineField b).port = s.port ∧ (s.engineField b).setup = s.setup ∧ (s.engineField b).busData = s.busData ∧
    (s.engineField b).pixOut = s.pixOut ∧ (s.engineField b).draws = s.draws ∧
    (s.engineField b).pending = s.pending := by
  unfold State.engineField; (repeat' split) <;> simp

/-- A SPLIT pulse touches the split pending alone. -/
@[simp] theorem State.splitPulse_frame (s : State) (b : Bool) :
    (s.splitPulse b).1.position = s.position ∧ (s.splitPulse b).1.sequencer = s.sequencer ∧
    (s.splitPulse b).1.tracker = s.tracker ∧ (s.splitPulse b).1.engine = s.engine ∧
    (s.splitPulse b).1.pass = s.pass ∧ (s.splitPulse b).1.matrix = s.matrix ∧ (s.splitPulse b).1.writer = s.writer ∧
    (s.splitPulse b).1.port = s.port ∧ (s.splitPulse b).1.setup = s.setup ∧ (s.splitPulse b).1.cue = s.cue ∧
    (s.splitPulse b).1.busData = s.busData ∧ (s.splitPulse b).1.pixOut = s.pixOut ∧
    (s.splitPulse b).1.draws = s.draws ∧ (s.splitPulse b).1.pending = s.pending ∧
    (s.splitPulse b).1.requests.takeIndex = s.requests.takeIndex ∧
    (s.splitPulse b).1.requests.ripple = s.requests.ripple ∧
    (s.splitPulse b).1.requests.rippleCounter = s.requests.rippleCounter ∧
    (s.splitPulse b).1.requests.setupFault = s.requests.setupFault ∧
    (s.splitPulse b).1.requests.freeStack = s.requests.freeStack ∧
    (s.splitPulse b).1.requests.notifyDue = s.requests.notifyDue := by
  unfold State.splitPulse; (repeat' split) <;> simp

/-- The memory of the reset state is in canonical form. -/
theorem State.reset_cue_wf : Memory.wf State.reset.cue = true := rfl

end Sys2Proof.Machine
end

