-- ==== Sys2Proof/Laws/Frames.lean ====
section
/-! SUPPORT. What each request, the scan, the ripple, the split and the whole commands leave alone. -/

namespace Sys2Proof.Machine

/-- Finishing an entry touches cue memory, the causes and the notification due alone. -/
@[simp] theorem State.finishEntry_frame (s : State) (i : Fin 32) (r : Result) :
    (s.finishEntry i r).position = s.position ∧ (s.finishEntry i r).sequencer = s.sequencer ∧
    (s.finishEntry i r).tracker = s.tracker ∧ (s.finishEntry i r).engine = s.engine ∧
    (s.finishEntry i r).pass = s.pass ∧ (s.finishEntry i r).matrix = s.matrix ∧
    (s.finishEntry i r).writer = s.writer ∧ (s.finishEntry i r).setup = s.setup ∧
    (s.finishEntry i r).busData = s.busData ∧ (s.finishEntry i r).pixOut = s.pixOut ∧
    (s.finishEntry i r).draws = s.draws ∧ (s.finishEntry i r).pending = s.pending ∧
    (s.finishEntry i r).port.pointer = s.port.pointer ∧ (s.finishEntry i r).port.latch = s.port.latch ∧
    (s.finishEntry i r).port.enables = s.port.enables ∧ (s.finishEntry i r).port.run = s.port.run ∧
    (s.finishEntry i r).port.ident = s.port.ident ∧ (s.finishEntry i r).requests.takeIndex = s.requests.takeIndex ∧
    (s.finishEntry i r).requests.ripple = s.requests.ripple ∧
    (s.finishEntry i r).requests.rippleCounter = s.requests.rippleCounter ∧
    (s.finishEntry i r).requests.splitPending = s.requests.splitPending ∧
    (s.finishEntry i r).requests.setupFault = s.requests.setupFault ∧
    (s.finishEntry i r).requests.freeStack = s.requests.freeStack := by
  unfold State.finishEntry; dsimp only; split <;> simp

/-- Making a scene touches the scene table, the free stack and the draw counter alone. -/
@[simp] theorem State.makeScene_frame (s : State) (x : Slot) (rest : List Slot) (p d : Int) (o m : Word) (t : Option DWord) (g : Grade) :
    (s.makeScene x rest p d o m t g).position = s.position ∧
    (s.makeScene x rest p d o m t g).sequencer = s.sequencer ∧ (s.makeScene x rest p d o m t g).tracker = s.tracker ∧
    (s.makeScene x rest p d o m t g).engine = s.engine ∧ (s.makeScene x rest p d o m t g).pass = s.pass ∧
    (s.makeScene x rest p d o m t g).matrix = s.matrix ∧ (s.makeScene x rest p d o m t g).writer = s.writer ∧
    (s.makeScene x rest p d o m t g).port = s.port ∧ (s.makeScene x rest p d o m t g).setup = s.setup ∧
    (s.makeScene x rest p d o m t g).busData = s.busData ∧ (s.makeScene x rest p d o m t g).pixOut = s.pixOut ∧
    (s.makeScene x rest p d o m t g).pending = s.pending ∧
    (s.makeScene x rest p d o m t g).requests.takeIndex = s.requests.takeIndex ∧
    (s.makeScene x rest p d o m t g).requests.ripple = s.requests.ripple ∧
    (s.makeScene x rest p d o m t g).requests.rippleCounter = s.requests.rippleCounter ∧
    (s.makeScene x rest p d o m t g).requests.splitPending = s.requests.splitPending ∧
    (s.makeScene x rest p d o m t g).requests.setupFault = s.requests.setupFault ∧
    (s.makeScene x rest p d o m t g).requests.notifyDue = s.requests.notifyDue := by
  simp [State.makeScene]

/-- INSERT SCENE touches the scene table, the free stack and the draw counter alone. -/
@[simp] theorem State.insertScene_frame (s : State) (i : Fin 32) :
    (s.insertScene i).1.position = s.position ∧ (s.insertScene i).1.sequencer = s.sequencer ∧
    (s.insertScene i).1.tracker = s.tracker ∧ (s.insertScene i).1.engine = s.engine ∧
    (s.insertScene i).1.pass = s.pass ∧ (s.insertScene i).1.matrix = s.matrix ∧
    (s.insertScene i).1.writer = s.writer ∧ (s.insertScene i).1.port = s.port ∧ (s.insertScene i).1.setup = s.setup ∧
    (s.insertScene i).1.busData = s.busData ∧ (s.insertScene i).1.pixOut = s.pixOut ∧
    (s.insertScene i).1.pending = s.pending ∧ (s.insertScene i).1.requests.takeIndex = s.requests.takeIndex ∧
    (s.insertScene i).1.requests.ripple = s.requests.ripple ∧
    (s.insertScene i).1.requests.rippleCounter = s.requests.rippleCounter ∧
    (s.insertScene i).1.requests.splitPending = s.requests.splitPending ∧
    (s.insertScene i).1.requests.setupFault = s.requests.setupFault ∧
    (s.insertScene i).1.requests.notifyDue = s.requests.notifyDue := by
  unfold State.insertScene; dsimp only; (repeat' split) <;> simp

/-- DELETE SCENE touches the scene table, the current slot and the free stack alone. -/
@[simp] theorem State.deleteScene_frame (s : State) (i : Fin 32) :
    (s.deleteScene i).1.position = s.position ∧ (s.deleteScene i).1.sequencer = s.sequencer ∧
    (s.deleteScene i).1.engine = s.engine ∧ (s.deleteScene i).1.pass = s.pass ∧
    (s.deleteScene i).1.matrix = s.matrix ∧ (s.deleteScene i).1.writer = s.writer ∧
    (s.deleteScene i).1.port = s.port ∧ (s.deleteScene i).1.setup = s.setup ∧
    (s.deleteScene i).1.busData = s.busData ∧ (s.deleteScene i).1.pixOut = s.pixOut ∧
    (s.deleteScene i).1.draws = s.draws ∧ (s.deleteScene i).1.pending = s.pending ∧
    (s.deleteScene i).1.requests.takeIndex = s.requests.takeIndex ∧
    (s.deleteScene i).1.requests.ripple = s.requests.ripple ∧
    (s.deleteScene i).1.requests.rippleCounter = s.requests.rippleCounter ∧
    (s.deleteScene i).1.requests.splitPending = s.requests.splitPending ∧
    (s.deleteScene i).1.requests.setupFault = s.requests.setupFault ∧
    (s.deleteScene i).1.requests.notifyDue = s.requests.notifyDue := by
  unfold State.deleteScene; dsimp only; (repeat' split) <;> simp

/-- MOVE SCENE touches the scene table and the current slot alone. -/
@[simp] theorem State.moveScene_frame (s : State) (i : Fin 32) :
    (s.moveScene i).1.position = s.position ∧ (s.moveScene i).1.sequencer = s.sequencer ∧
    (s.moveScene i).1.engine = s.engine ∧ (s.moveScene i).1.requests = s.requests ∧ (s.moveScene i).1.pass = s.pass ∧
    (s.moveScene i).1.matrix = s.matrix ∧ (s.moveScene i).1.writer = s.writer ∧ (s.moveScene i).1.port = s.port ∧
    (s.moveScene i).1.setup = s.setup ∧ (s.moveScene i).1.busData = s.busData ∧ (s.moveScene i).1.pixOut = s.pixOut ∧
    (s.moveScene i).1.draws = s.draws ∧ (s.moveScene i).1.pending = s.pending := by
  unfold State.moveScene; dsimp only; (repeat' split) <;> simp

/-- REGRADE SCENE touches the scene table alone. -/
@[simp] theorem State.regradeScene_frame (s : State) (i : Fin 32) :
    (s.regradeScene i).1.position = s.position ∧ (s.regradeScene i).1.sequencer = s.sequencer ∧
    (s.regradeScene i).1.tracker = s.tracker ∧ (s.regradeScene i).1.engine = s.engine ∧
    (s.regradeScene i).1.requests = s.requests ∧ (s.regradeScene i).1.pass = s.pass ∧
    (s.regradeScene i).1.matrix = s.matrix ∧ (s.regradeScene i).1.writer = s.writer ∧
    (s.regradeScene i).1.port = s.port ∧ (s.regradeScene i).1.setup = s.setup ∧
    (s.regradeScene i).1.busData = s.busData ∧ (s.regradeScene i).1.pixOut = s.pixOut ∧
    (s.regradeScene i).1.draws = s.draws ∧ (s.regradeScene i).1.pending = s.pending := by
  unfold State.regradeScene; dsimp only; split
  · simp
  · split <;> simp

/-- SET DISSOLVE touches the scene table alone. -/
@[simp] theorem State.setDissolve_frame (s : State) (i : Fin 32) :
    (s.setDissolve i).1.position = s.position ∧ (s.setDissolve i).1.sequencer = s.sequencer ∧
    (s.setDissolve i).1.tracker = s.tracker ∧ (s.setDissolve i).1.engine = s.engine ∧
    (s.setDissolve i).1.requests = s.requests ∧ (s.setDissolve i).1.pass = s.pass ∧
    (s.setDissolve i).1.matrix = s.matrix ∧ (s.setDissolve i).1.writer = s.writer ∧
    (s.setDissolve i).1.port = s.port ∧ (s.setDissolve i).1.setup = s.setup ∧
    (s.setDissolve i).1.busData = s.busData ∧ (s.setDissolve i).1.pixOut = s.pixOut ∧
    (s.setDissolve i).1.draws = s.draws ∧ (s.setDissolve i).1.pending = s.pending := by
  unfold State.setDissolve; dsimp only; split
  · simp
  · split <;> simp

/-- STORE LIVE touches the scene table alone. -/
@[simp] theorem State.storeLive_frame (s : State) (i : Fin 32) :
    (s.storeLive i).1.position = s.position ∧ (s.storeLive i).1.sequencer = s.sequencer ∧
    (s.storeLive i).1.tracker = s.tracker ∧ (s.storeLive i).1.engine = s.engine ∧
    (s.storeLive i).1.requests = s.requests ∧ (s.storeLive i).1.pass = s.pass ∧ (s.storeLive i).1.matrix = s.matrix ∧
    (s.storeLive i).1.writer = s.writer ∧ (s.storeLive i).1.port = s.port ∧ (s.storeLive i).1.setup = s.setup ∧
    (s.storeLive i).1.busData = s.busData ∧ (s.storeLive i).1.pixOut = s.pixOut ∧ (s.storeLive i).1.draws = s.draws ∧
    (s.storeLive i).1.pending = s.pending := by
  unfold State.storeLive; dsimp only; split
  · simp
  · split <;> simp

/-- CLEAR LIST touches the scene table, the current slot and the free stack alone. -/
@[simp] theorem State.clearList_frame (s : State) :
    s.clearList.1.position = s.position ∧ s.clearList.1.sequencer = s.sequencer ∧ s.clearList.1.engine = s.engine ∧
    s.clearList.1.pass = s.pass ∧ s.clearList.1.matrix = s.matrix ∧ s.clearList.1.writer = s.writer ∧
    s.clearList.1.port = s.port ∧ s.clearList.1.setup = s.setup ∧ s.clearList.1.busData = s.busData ∧
    s.clearList.1.pixOut = s.pixOut ∧ s.clearList.1.draws = s.draws ∧ s.clearList.1.pending = s.pending ∧
    s.clearList.1.requests.takeIndex = s.requests.takeIndex ∧ s.clearList.1.requests.ripple = s.requests.ripple ∧
    s.clearList.1.requests.rippleCounter = s.requests.rippleCounter ∧
    s.clearList.1.requests.splitPending = s.requests.splitPending ∧
    s.clearList.1.requests.setupFault = s.requests.setupFault ∧
    s.clearList.1.requests.notifyDue = s.requests.notifyDue := by
  unfold State.clearList; dsimp only; (repeat' split) <;> simp

/-- APPLY SET-UP touches the counter, the sequencer, the matrix, the set-up and the setup fault value alone. -/
@[simp] theorem State.applySetup_frame (s : State) :
    s.applySetup.1.tracker = s.tracker ∧ s.applySetup.1.engine = s.engine ∧ s.applySetup.1.pass = s.pass ∧
    s.applySetup.1.writer = s.writer ∧ s.applySetup.1.port = s.port ∧ s.applySetup.1.cue = s.cue ∧
    s.applySetup.1.busData = s.busData ∧ s.applySetup.1.pixOut = s.pixOut ∧ s.applySetup.1.draws = s.draws ∧
    s.applySetup.1.pending = s.pending ∧ s.applySetup.1.requests.takeIndex = s.requests.takeIndex ∧
    s.applySetup.1.requests.ripple = s.requests.ripple ∧
    s.applySetup.1.requests.rippleCounter = s.requests.rippleCounter ∧
    s.applySetup.1.requests.splitPending = s.requests.splitPending ∧
    s.applySetup.1.requests.freeStack = s.requests.freeStack ∧
    s.applySetup.1.requests.notifyDue = s.requests.notifyDue := by
  unfold State.applySetup; (repeat' split) <;> simp

/-- LOCATE touches the current slot alone. -/
@[simp] theorem State.locate_frame (s : State) (i : Fin 32) :
    (s.locate i).1.position = s.position ∧ (s.locate i).1.sequencer = s.sequencer ∧
    (s.locate i).1.engine = s.engine ∧ (s.locate i).1.requests = s.requests ∧ (s.locate i).1.pass = s.pass ∧
    (s.locate i).1.matrix = s.matrix ∧ (s.locate i).1.writer = s.writer ∧ (s.locate i).1.port = s.port ∧
    (s.locate i).1.setup = s.setup ∧ (s.locate i).1.cue = s.cue ∧ (s.locate i).1.busData = s.busData ∧
    (s.locate i).1.pixOut = s.pixOut ∧ (s.locate i).1.draws = s.draws ∧ (s.locate i).1.pending = s.pending := by
  unfold State.locate; (repeat' split) <;> simp

/-- CADENCE ALIGN touches the sequencer alone. -/
@[simp] theorem State.cadenceAlign_frame (s : State) :
    s.cadenceAlign.1.position = s.position ∧ s.cadenceAlign.1.tracker = s.tracker ∧
    s.cadenceAlign.1.engine = s.engine ∧ s.cadenceAlign.1.requests = s.requests ∧ s.cadenceAlign.1.pass = s.pass ∧
    s.cadenceAlign.1.matrix = s.matrix ∧ s.cadenceAlign.1.writer = s.writer ∧ s.cadenceAlign.1.port = s.port ∧
    s.cadenceAlign.1.setup = s.setup ∧ s.cadenceAlign.1.cue = s.cue ∧ s.cadenceAlign.1.busData = s.busData ∧
    s.cadenceAlign.1.pixOut = s.pixOut ∧ s.cadenceAlign.1.draws = s.draws ∧ s.cadenceAlign.1.pending = s.pending := by
  simp [State.cadenceAlign]

/-- PULSE CHANNEL touches the matrix alone. -/
@[simp] theorem State.pulseChannel_frame (s : State) (i : Fin 32) :
    (s.pulseChannel i).1.position = s.position ∧ (s.pulseChannel i).1.sequencer = s.sequencer ∧
    (s.pulseChannel i).1.tracker = s.tracker ∧ (s.pulseChannel i).1.engine = s.engine ∧
    (s.pulseChannel i).1.requests = s.requests ∧ (s.pulseChannel i).1.pass = s.pass ∧
    (s.pulseChannel i).1.writer = s.writer ∧ (s.pulseChannel i).1.port = s.port ∧
    (s.pulseChannel i).1.setup = s.setup ∧ (s.pulseChannel i).1.cue = s.cue ∧
    (s.pulseChannel i).1.busData = s.busData ∧ (s.pulseChannel i).1.pixOut = s.pixOut ∧
    (s.pulseChannel i).1.draws = s.draws ∧ (s.pulseChannel i).1.pending = s.pending := by
  simp [State.pulseChannel]

/-- A probe touches its entry alone. -/
@[simp] theorem State.probeWith_frame (s : State) (i : Fin 32) (g : Grade) :
    (s.probeWith i g).1.position = s.position ∧ (s.probeWith i g).1.sequencer = s.sequencer ∧
    (s.probeWith i g).1.tracker = s.tracker ∧ (s.probeWith i g).1.engine = s.engine ∧
    (s.probeWith i g).1.requests = s.requests ∧ (s.probeWith i g).1.pass = s.pass ∧
    (s.probeWith i g).1.matrix = s.matrix ∧ (s.probeWith i g).1.writer = s.writer ∧
    (s.probeWith i g).1.port = s.port ∧ (s.probeWith i g).1.setup = s.setup ∧
    (s.probeWith i g).1.busData = s.busData ∧ (s.probeWith i g).1.pixOut = s.pixOut ∧
    (s.probeWith i g).1.draws = s.draws ∧ (s.probeWith i g).1.pending = s.pending := by
  simp [State.probeWith]

/-- PROBE touches its entry alone. -/
@[simp] theorem State.probe_frame (s : State) (i : Fin 32) :
    (s.probe i).1.position = s.position ∧ (s.probe i).1.sequencer = s.sequencer ∧ (s.probe i).1.tracker = s.tracker ∧
    (s.probe i).1.engine = s.engine ∧ (s.probe i).1.requests = s.requests ∧ (s.probe i).1.pass = s.pass ∧
    (s.probe i).1.matrix = s.matrix ∧ (s.probe i).1.writer = s.writer ∧ (s.probe i).1.port = s.port ∧
    (s.probe i).1.setup = s.setup ∧ (s.probe i).1.busData = s.busData ∧ (s.probe i).1.pixOut = s.pixOut ∧
    (s.probe i).1.draws = s.draws ∧ (s.probe i).1.pending = s.pending := by
  unfold State.probe; (repeat' split) <;> simp

/-- START PASS touches the pass, the matrix, cue memory, the writer and the causes alone. -/
@[simp] theorem State.startPass_frame (s : State) (i : Fin 32) :
    (s.startPass i).1.position = s.position ∧ (s.startPass i).1.sequencer = s.sequencer ∧
    (s.startPass i).1.tracker = s.tracker ∧ (s.startPass i).1.engine = s.engine ∧
    (s.startPass i).1.requests = s.requests ∧ (s.startPass i).1.setup = s.setup ∧
    (s.startPass i).1.busData = s.busData ∧ (s.startPass i).1.pixOut = s.pixOut ∧ (s.startPass i).1.draws = s.draws ∧
    (s.startPass i).1.pending = s.pending ∧ (s.startPass i).1.port.pointer = s.port.pointer ∧
    (s.startPass i).1.port.latch = s.port.latch ∧ (s.startPass i).1.port.enables = s.port.enables ∧
    (s.startPass i).1.port.run = s.port.run ∧ (s.startPass i).1.port.ident = s.port.ident := by
  unfold State.startPass passDone; dsimp only; (repeat' split) <;> simp

/-- STOP PASS touches the pass, the matrix and the pass block alone. -/
@[simp] theorem State.stopPass_frame (s : State) :
    s.stopPass.1.position = s.position ∧ s.stopPass.1.sequencer = s.sequencer ∧ s.stopPass.1.tracker = s.tracker ∧
    s.stopPass.1.engine = s.engine ∧ s.stopPass.1.requests = s.requests ∧ s.stopPass.1.writer = s.writer ∧
    s.stopPass.1.port = s.port ∧ s.stopPass.1.setup = s.setup ∧ s.stopPass.1.busData = s.busData ∧
    s.stopPass.1.pixOut = s.pixOut ∧ s.stopPass.1.draws = s.draws ∧ s.stopPass.1.pending = s.pending := by
  unfold State.stopPass; (repeat' split) <;> simp

/-- RESUME PASS touches the pass, the matrix, cue memory, the writer and the causes alone. -/
@[simp] theorem State.resumePass_frame (s : State) :
    s.resumePass.1.position = s.position ∧ s.resumePass.1.sequencer = s.sequencer ∧
    s.resumePass.1.tracker = s.tracker ∧ s.resumePass.1.engine = s.engine ∧ s.resumePass.1.requests = s.requests ∧
    s.resumePass.1.setup = s.setup ∧ s.resumePass.1.busData = s.busData ∧ s.resumePass.1.pixOut = s.pixOut ∧
    s.resumePass.1.draws = s.draws ∧ s.resumePass.1.pending = s.pending ∧
    s.resumePass.1.port.pointer = s.port.pointer ∧ s.resumePass.1.port.latch = s.port.latch ∧
    s.resumePass.1.port.enables = s.port.enables ∧ s.resumePass.1.port.run = s.port.run ∧
    s.resumePass.1.port.ident = s.port.ident := by
  unfold State.resumePass passDone; dsimp only; (repeat' split) <;> simp

/-- ABANDON PASS touches the pass, the matrix, cue memory, the writer and the causes alone. -/
@[simp] theorem State.abandonPass_frame (s : State) :
    s.abandonPass.1.position = s.position ∧ s.abandonPass.1.sequencer = s.sequencer ∧
    s.abandonPass.1.tracker = s.tracker ∧ s.abandonPass.1.engine = s.engine ∧ s.abandonPass.1.requests = s.requests ∧
    s.abandonPass.1.setup = s.setup ∧ s.abandonPass.1.busData = s.busData ∧ s.abandonPass.1.pixOut = s.pixOut ∧
    s.abandonPass.1.draws = s.draws ∧ s.abandonPass.1.pending = s.pending ∧
    s.abandonPass.1.port.pointer = s.port.pointer ∧ s.abandonPass.1.port.latch = s.port.latch ∧
    s.abandonPass.1.port.enables = s.port.enables ∧ s.abandonPass.1.port.run = s.port.run ∧
    s.abandonPass.1.port.ident = s.port.ident := by
  unfold State.abandonPass passDone; dsimp only; (repeat' split) <;> simp

/-- The end of a ripple touches its entry, the causes, the ripple and the notification due alone. -/
@[simp] theorem State.endRipple_frame (s : State) (r : Ripple) (c : ResultCode) :
    (s.endRipple r c).position = s.position ∧ (s.endRipple r c).sequencer = s.sequencer ∧
    (s.endRipple r c).tracker = s.tracker ∧ (s.endRipple r c).engine = s.engine ∧ (s.endRipple r c).pass = s.pass ∧
    (s.endRipple r c).matrix = s.matrix ∧ (s.endRipple r c).writer = s.writer ∧ (s.endRipple r c).setup = s.setup ∧
    (s.endRipple r c).busData = s.busData ∧ (s.endRipple r c).pixOut = s.pixOut ∧ (s.endRipple r c).draws = s.draws ∧
    (s.endRipple r c).pending = s.pending ∧ (s.endRipple r c).port.pointer = s.port.pointer ∧
    (s.endRipple r c).port.latch = s.port.latch ∧ (s.endRipple r c).port.enables = s.port.enables ∧
    (s.endRipple r c).port.run = s.port.run ∧ (s.endRipple r c).port.ident = s.port.ident ∧
    (s.endRipple r c).requests.takeIndex = s.requests.takeIndex ∧
    (s.endRipple r c).requests.rippleCounter = s.requests.rippleCounter ∧
    (s.endRipple r c).requests.splitPending = s.requests.splitPending ∧
    (s.endRipple r c).requests.setupFault = s.requests.setupFault ∧
    (s.endRipple r c).requests.freeStack = s.requests.freeStack := by
  simp [State.endRipple]

/-- RIPPLE touches its entry, the causes and the request processor alone. -/
@[simp] theorem State.takeRipple_frame (s : State) (i : Fin 32) :
    (s.takeRipple i).position = s.position ∧ (s.takeRipple i).sequencer = s.sequencer ∧
    (s.takeRipple i).tracker = s.tracker ∧ (s.takeRipple i).engine = s.engine ∧ (s.takeRipple i).pass = s.pass ∧
    (s.takeRipple i).matrix = s.matrix ∧ (s.takeRipple i).writer = s.writer ∧ (s.takeRipple i).setup = s.setup ∧
    (s.takeRipple i).busData = s.busData ∧ (s.takeRipple i).pixOut = s.pixOut ∧ (s.takeRipple i).draws = s.draws ∧
    (s.takeRipple i).pending = s.pending ∧ (s.takeRipple i).port.pointer = s.port.pointer ∧
    (s.takeRipple i).port.latch = s.port.latch ∧ (s.takeRipple i).port.enables = s.port.enables ∧
    (s.takeRipple i).port.run = s.port.run ∧ (s.takeRipple i).port.ident = s.port.ident ∧
    (s.takeRipple i).requests.takeIndex = s.requests.takeIndex ∧
    (s.takeRipple i).requests.splitPending = s.requests.splitPending ∧
    (s.takeRipple i).requests.setupFault = s.requests.setupFault ∧
    (s.takeRipple i).requests.freeStack = s.requests.freeStack := by
  unfold State.takeRipple; dsimp only; (repeat' split) <;> simp

/-- CANCEL RIPPLE touches the entry of the ripple, the causes and the request processor alone. -/
@[simp] theorem State.cancelRipple_frame (s : State) :
    s.cancelRipple.1.position = s.position ∧ s.cancelRipple.1.sequencer = s.sequencer ∧
    s.cancelRipple.1.tracker = s.tracker ∧ s.cancelRipple.1.engine = s.engine ∧ s.cancelRipple.1.pass = s.pass ∧
    s.cancelRipple.1.matrix = s.matrix ∧ s.cancelRipple.1.writer = s.writer ∧ s.cancelRipple.1.setup = s.setup ∧
    s.cancelRipple.1.busData = s.busData ∧ s.cancelRipple.1.pixOut = s.pixOut ∧ s.cancelRipple.1.draws = s.draws ∧
    s.cancelRipple.1.pending = s.pending ∧ s.cancelRipple.1.port.pointer = s.port.pointer ∧
    s.cancelRipple.1.port.latch = s.port.latch ∧ s.cancelRipple.1.port.enables = s.port.enables ∧
    s.cancelRipple.1.port.run = s.port.run ∧ s.cancelRipple.1.port.ident = s.port.ident ∧
    s.cancelRipple.1.requests.takeIndex = s.requests.takeIndex ∧
    s.cancelRipple.1.requests.rippleCounter = s.requests.rippleCounter ∧
    s.cancelRipple.1.requests.splitPending = s.requests.splitPending ∧
    s.cancelRipple.1.requests.setupFault = s.requests.setupFault ∧
    s.cancelRipple.1.requests.freeStack = s.requests.freeStack := by
  unfold State.cancelRipple; (repeat' split) <;> simp

/-- What follows a visit touches cue memory, the causes and the request processor alone. -/
@[simp] theorem State.afterVisit_frame (s : State) (r : Ripple) :
    (s.afterVisit r).position = s.position ∧ (s.afterVisit r).sequencer = s.sequencer ∧
    (s.afterVisit r).tracker = s.tracker ∧ (s.afterVisit r).engine = s.engine ∧ (s.afterVisit r).pass = s.pass ∧
    (s.afterVisit r).matrix = s.matrix ∧ (s.afterVisit r).writer = s.writer ∧ (s.afterVisit r).setup = s.setup ∧
    (s.afterVisit r).busData = s.busData ∧ (s.afterVisit r).pixOut = s.pixOut ∧ (s.afterVisit r).draws = s.draws ∧
    (s.afterVisit r).pending = s.pending ∧ (s.afterVisit r).port.pointer = s.port.pointer ∧
    (s.afterVisit r).port.latch = s.port.latch ∧ (s.afterVisit r).port.enables = s.port.enables ∧
    (s.afterVisit r).port.run = s.port.run ∧ (s.afterVisit r).port.ident = s.port.ident ∧
    (s.afterVisit r).requests.takeIndex = s.requests.takeIndex ∧
    (s.afterVisit r).requests.rippleCounter = s.requests.rippleCounter ∧
    (s.afterVisit r).requests.splitPending = s.requests.splitPending ∧
    (s.afterVisit r).requests.setupFault = s.requests.setupFault ∧
    (s.afterVisit r).requests.freeStack = s.requests.freeStack := by
  unfold State.afterVisit; (repeat' split) <;> simp

/-- A visit touches cue memory, the causes and the request processor alone. -/
@[simp] theorem State.visit_frame (s : State) (r : Ripple) :
    (s.visit r).position = s.position ∧ (s.visit r).sequencer = s.sequencer ∧ (s.visit r).tracker = s.tracker ∧
    (s.visit r).engine = s.engine ∧ (s.visit r).pass = s.pass ∧ (s.visit r).matrix = s.matrix ∧
    (s.visit r).writer = s.writer ∧ (s.visit r).setup = s.setup ∧ (s.visit r).busData = s.busData ∧
    (s.visit r).pixOut = s.pixOut ∧ (s.visit r).draws = s.draws ∧ (s.visit r).pending = s.pending ∧
    (s.visit r).port.pointer = s.port.pointer ∧ (s.visit r).port.latch = s.port.latch ∧
    (s.visit r).port.enables = s.port.enables ∧ (s.visit r).port.run = s.port.run ∧
    (s.visit r).port.ident = s.port.ident ∧ (s.visit r).requests.takeIndex = s.requests.takeIndex ∧
    (s.visit r).requests.rippleCounter = s.requests.rippleCounter ∧
    (s.visit r).requests.splitPending = s.requests.splitPending ∧
    (s.visit r).requests.setupFault = s.requests.setupFault ∧
    (s.visit r).requests.freeStack = s.requests.freeStack := by
  unfold State.visit; (repeat' split) <;> simp

/-- Visits touch cue memory, the causes and the request processor alone. -/
@[simp] theorem State.visits_frame (fuel : Nat) (s : State) :
    (State.visits fuel s).position = s.position ∧ (State.visits fuel s).sequencer = s.sequencer ∧
    (State.visits fuel s).tracker = s.tracker ∧ (State.visits fuel s).engine = s.engine ∧
    (State.visits fuel s).pass = s.pass ∧ (State.visits fuel s).matrix = s.matrix ∧
    (State.visits fuel s).writer = s.writer ∧ (State.visits fuel s).setup = s.setup ∧
    (State.visits fuel s).busData = s.busData ∧ (State.visits fuel s).pixOut = s.pixOut ∧
    (State.visits fuel s).draws = s.draws ∧ (State.visits fuel s).pending = s.pending ∧
    (State.visits fuel s).port.pointer = s.port.pointer ∧ (State.visits fuel s).port.latch = s.port.latch ∧
    (State.visits fuel s).port.enables = s.port.enables ∧ (State.visits fuel s).port.run = s.port.run ∧
    (State.visits fuel s).port.ident = s.port.ident ∧
    (State.visits fuel s).requests.takeIndex = s.requests.takeIndex ∧
    (State.visits fuel s).requests.rippleCounter = s.requests.rippleCounter ∧
    (State.visits fuel s).requests.splitPending = s.requests.splitPending ∧
    (State.visits fuel s).requests.setupFault = s.requests.setupFault ∧
    (State.visits fuel s).requests.freeStack = s.requests.freeStack := by
  induction fuel generalizing s with
  | zero => simp [State.visits]
  | succ fuel ih => unfold State.visits; split <;> simp [ih]

/-- The visits of an ACTIVE START touch cue memory, the causes and the request processor alone. -/
@[simp] theorem State.rippleVisits_frame (s : State) :
    s.rippleVisits.position = s.position ∧ s.rippleVisits.sequencer = s.sequencer ∧
    s.rippleVisits.tracker = s.tracker ∧ s.rippleVisits.engine = s.engine ∧ s.rippleVisits.pass = s.pass ∧
    s.rippleVisits.matrix = s.matrix ∧ s.rippleVisits.writer = s.writer ∧ s.rippleVisits.setup = s.setup ∧
    s.rippleVisits.busData = s.busData ∧ s.rippleVisits.pixOut = s.pixOut ∧ s.rippleVisits.draws = s.draws ∧
    s.rippleVisits.pending = s.pending ∧ s.rippleVisits.port.pointer = s.port.pointer ∧
    s.rippleVisits.port.latch = s.port.latch ∧ s.rippleVisits.port.enables = s.port.enables ∧
    s.rippleVisits.port.run = s.port.run ∧ s.rippleVisits.port.ident = s.port.ident ∧
    s.rippleVisits.requests.takeIndex = s.requests.takeIndex ∧
    s.rippleVisits.requests.rippleCounter = s.requests.rippleCounter ∧
    s.rippleVisits.requests.splitPending = s.requests.splitPending ∧
    s.rippleVisits.requests.setupFault = s.requests.setupFault ∧
    s.rippleVisits.requests.freeStack = s.requests.freeStack := by
  unfold State.rippleVisits; (repeat' split) <;> simp

/-- The first visits of an ACTIVE START touch cue memory, the causes and the request processor alone. -/
@[simp] theorem State.rippleVisitsUpTo_frame (n : Nat) (s : State) :
    (s.rippleVisitsUpTo n).position = s.position ∧ (s.rippleVisitsUpTo n).sequencer = s.sequencer ∧
    (s.rippleVisitsUpTo n).tracker = s.tracker ∧ (s.rippleVisitsUpTo n).engine = s.engine ∧
    (s.rippleVisitsUpTo n).pass = s.pass ∧ (s.rippleVisitsUpTo n).matrix = s.matrix ∧
    (s.rippleVisitsUpTo n).writer = s.writer ∧ (s.rippleVisitsUpTo n).setup = s.setup ∧
    (s.rippleVisitsUpTo n).busData = s.busData ∧ (s.rippleVisitsUpTo n).pixOut = s.pixOut ∧
    (s.rippleVisitsUpTo n).draws = s.draws ∧ (s.rippleVisitsUpTo n).pending = s.pending := by
  unfold State.rippleVisitsUpTo; (repeat' split) <;> simp

/-- As many visits as the step allows are all the visits of the ACTIVE START. -/
theorem State.rippleVisitsUpTo_all (n : Nat) (s : State) (h : ∀ r, s.requests.ripple = some r → r.step ≤ n) :
    s.rippleVisitsUpTo n = s.rippleVisits := by
  unfold State.rippleVisitsUpTo State.rippleVisits
  split
  · next r hr => rw [Nat.min_eq_right (h r hr)]
  · rfl

/-- A split made touches the scene table, the free stack, the ripple and the draw counter alone. -/
@[simp] theorem State.makeSplit_frame (s : State) (f : Int) (c x : Slot) (rest : List Slot) :
    (s.makeSplit f c x rest).position = s.position ∧ (s.makeSplit f c x rest).sequencer = s.sequencer ∧
    (s.makeSplit f c x rest).tracker = s.tracker ∧ (s.makeSplit f c x rest).engine = s.engine ∧
    (s.makeSplit f c x rest).pass = s.pass ∧ (s.makeSplit f c x rest).matrix = s.matrix ∧
    (s.makeSplit f c x rest).writer = s.writer ∧ (s.makeSplit f c x rest).port = s.port ∧
    (s.makeSplit f c x rest).setup = s.setup ∧ (s.makeSplit f c x rest).busData = s.busData ∧
    (s.makeSplit f c x rest).pixOut = s.pixOut ∧ (s.makeSplit f c x rest).pending = s.pending ∧
    (s.makeSplit f c x rest).requests.takeIndex = s.requests.takeIndex ∧
    (s.makeSplit f c x rest).requests.rippleCounter = s.requests.rippleCounter ∧
    (s.makeSplit f c x rest).requests.splitPending = s.requests.splitPending ∧
    (s.makeSplit f c x rest).requests.setupFault = s.requests.setupFault ∧
    (s.makeSplit f c x rest).requests.notifyDue = s.requests.notifyDue := by
  simp [State.makeSplit]

/-- A split touches cue memory, the free stack, the ripple, the writer, the causes and the draw counter alone. -/
@[simp] theorem State.split_frame (s : State) (f : Int) :
    (s.split f).position = s.position ∧ (s.split f).sequencer = s.sequencer ∧ (s.split f).tracker = s.tracker ∧
    (s.split f).engine = s.engine ∧ (s.split f).pass = s.pass ∧ (s.split f).matrix = s.matrix ∧
    (s.split f).setup = s.setup ∧ (s.split f).busData = s.busData ∧ (s.split f).pixOut = s.pixOut ∧
    (s.split f).pending = s.pending ∧ (s.split f).port.pointer = s.port.pointer ∧
    (s.split f).port.latch = s.port.latch ∧ (s.split f).port.enables = s.port.enables ∧
    (s.split f).port.run = s.port.run ∧ (s.split f).port.ident = s.port.ident ∧
    (s.split f).requests.takeIndex = s.requests.takeIndex ∧
    (s.split f).requests.rippleCounter = s.requests.rippleCounter ∧
    (s.split f).requests.splitPending = s.requests.splitPending ∧
    (s.split f).requests.setupFault = s.requests.setupFault ∧
    (s.split f).requests.notifyDue = s.requests.notifyDue := by
  unfold State.split; dsimp only; (repeat' split) <;> simp

/-- The pending split touches what a split touches, and is cleared. -/
@[simp] theorem State.executeSplit_frame (s : State) :
    s.executeSplit.position = s.position ∧ s.executeSplit.sequencer = s.sequencer ∧
    s.executeSplit.tracker = s.tracker ∧ s.executeSplit.engine = s.engine ∧ s.executeSplit.pass = s.pass ∧
    s.executeSplit.matrix = s.matrix ∧ s.executeSplit.setup = s.setup ∧ s.executeSplit.busData = s.busData ∧
    s.executeSplit.pixOut = s.pixOut ∧ s.executeSplit.pending = s.pending ∧
    s.executeSplit.port.pointer = s.port.pointer ∧ s.executeSplit.port.latch = s.port.latch ∧
    s.executeSplit.port.enables = s.port.enables ∧ s.executeSplit.port.run = s.port.run ∧
    s.executeSplit.port.ident = s.port.ident ∧ s.executeSplit.requests.takeIndex = s.requests.takeIndex ∧
    s.executeSplit.requests.rippleCounter = s.requests.rippleCounter ∧
    s.executeSplit.requests.setupFault = s.requests.setupFault ∧
    s.executeSplit.requests.notifyDue = s.requests.notifyDue := by
  unfold State.executeSplit; (repeat' split) <;> simp

/-- An entry taken leaves the engine, the bus, the picture and the queue alone. -/
@[simp] theorem State.takeEntry_frame (s : State) (i : Fin 32) :
    (s.takeEntry i).engine = s.engine ∧ (s.takeEntry i).busData = s.busData ∧ (s.takeEntry i).pixOut = s.pixOut ∧
    (s.takeEntry i).pending = s.pending ∧ (s.takeEntry i).port.pointer = s.port.pointer ∧
    (s.takeEntry i).port.latch = s.port.latch ∧ (s.takeEntry i).port.enables = s.port.enables ∧
    (s.takeEntry i).port.run = s.port.run ∧ (s.takeEntry i).port.ident = s.port.ident ∧
    (s.takeEntry i).requests.takeIndex = s.requests.takeIndex ∧
    (s.takeEntry i).requests.splitPending = s.requests.splitPending := by
  unfold State.takeEntry finishWith; split <;> simp

/-- The scan leaves the engine, the bus, the picture and the queue alone. -/
@[simp] theorem State.scan_frame (fuel : Nat) (s : State) :
    (State.scan fuel s).engine = s.engine ∧ (State.scan fuel s).busData = s.busData ∧
    (State.scan fuel s).pixOut = s.pixOut ∧ (State.scan fuel s).pending = s.pending ∧
    (State.scan fuel s).port.pointer = s.port.pointer ∧ (State.scan fuel s).port.latch = s.port.latch ∧
    (State.scan fuel s).port.enables = s.port.enables ∧ (State.scan fuel s).port.run = s.port.run ∧
    (State.scan fuel s).port.ident = s.port.ident ∧
    (State.scan fuel s).requests.splitPending = s.requests.splitPending := by
  induction fuel generalizing s with
  | zero => simp [State.scan]
  | succ fuel ih => unfold State.scan; split <;> simp [ih]

/-- Raising REQUEST NOTIFY touches the notification due and the matrix alone. -/
@[simp] theorem State.raiseNotify_frame (s : State) :
    s.raiseNotify.position = s.position ∧ s.raiseNotify.sequencer = s.sequencer ∧ s.raiseNotify.tracker = s.tracker ∧
    s.raiseNotify.engine = s.engine ∧ s.raiseNotify.pass = s.pass ∧ s.raiseNotify.writer = s.writer ∧
    s.raiseNotify.port = s.port ∧ s.raiseNotify.setup = s.setup ∧ s.raiseNotify.cue = s.cue ∧
    s.raiseNotify.busData = s.busData ∧ s.raiseNotify.pixOut = s.pixOut ∧ s.raiseNotify.draws = s.draws ∧
    s.raiseNotify.pending = s.pending ∧ s.raiseNotify.requests.takeIndex = s.requests.takeIndex ∧
    s.raiseNotify.requests.ripple = s.requests.ripple ∧
    s.raiseNotify.requests.rippleCounter = s.requests.rippleCounter ∧
    s.raiseNotify.requests.splitPending = s.requests.splitPending ∧
    s.raiseNotify.requests.setupFault = s.requests.setupFault ∧
    s.raiseNotify.requests.freeStack = s.requests.freeStack := by
  unfold State.raiseNotify; dsimp only; (repeat' split) <;> simp

/-- The active-start flag taken changes that flag alone. -/
@[simp] theorem State.takeActiveFlag_eq (s : State) :
    s.takeActiveFlag = { s with sequencer := { s.sequencer with activeStartTaken := true } } := rfl

/-- The handling of an ACTIVE START leaves the engine, the bus, the picture, the queue and the port but for the causes
alone. -/
@[simp] theorem State.handleActiveStart_frame (s : State) :
    s.handleActiveStart.engine = s.engine ∧ s.handleActiveStart.busData = s.busData ∧
    s.handleActiveStart.pixOut = s.pixOut ∧ s.handleActiveStart.pending = s.pending ∧
    s.handleActiveStart.port.pointer = s.port.pointer ∧ s.handleActiveStart.port.latch = s.port.latch ∧
    s.handleActiveStart.port.enables = s.port.enables ∧ s.handleActiveStart.port.run = s.port.run ∧
    s.handleActiveStart.port.ident = s.port.ident := by
  simp [State.handleActiveStart]

/-! ### Whole commands -/

/-- A FIELD START leaves the counter, the set-up, the bus, the picture and the queue alone, and of the request
processor and the port touches the split pending and the causes alone. -/
@[simp] theorem State.fieldStart_frame (s : State) (id : FieldIdentity) :
    (s.fieldStart id).position = s.position ∧ (s.fieldStart id).setup = s.setup ∧
    (s.fieldStart id).busData = s.busData ∧ (s.fieldStart id).pixOut = s.pixOut ∧
    (s.fieldStart id).pending = s.pending ∧ (s.fieldStart id).port.pointer = s.port.pointer ∧
    (s.fieldStart id).port.latch = s.port.latch ∧ (s.fieldStart id).port.enables = s.port.enables ∧
    (s.fieldStart id).port.run = s.port.run ∧ (s.fieldStart id).port.ident = s.port.ident ∧
    (s.fieldStart id).requests.takeIndex = s.requests.takeIndex ∧
    (s.fieldStart id).requests.ripple = s.requests.ripple ∧
    (s.fieldStart id).requests.rippleCounter = s.requests.rippleCounter ∧
    (s.fieldStart id).requests.setupFault = s.requests.setupFault ∧
    (s.fieldStart id).requests.freeStack = s.requests.freeStack ∧
    (s.fieldStart id).requests.notifyDue = s.requests.notifyDue := by
  simp [State.fieldStart]

/-- The loss of the reference leaves the counter, the tracker, the request processor, the set-up, the bus, the picture
and the queue alone. -/
@[simp] theorem State.expireReference_frame (s : State) :
    s.expireReference.position = s.position ∧ s.expireReference.tracker = s.tracker ∧
    s.expireReference.requests = s.requests ∧ s.expireReference.setup = s.setup ∧
    s.expireReference.busData = s.busData ∧ s.expireReference.pixOut = s.pixOut ∧
    s.expireReference.pending = s.pending ∧ s.expireReference.port.pointer = s.port.pointer ∧
    s.expireReference.port.latch = s.port.latch ∧ s.expireReference.port.enables = s.port.enables ∧
    s.expireReference.port.run = s.port.run ∧ s.expireReference.port.ident = s.port.ident := by
  simp [State.expireReference]

/-- An ACTIVE START passed on leaves the engine, the bus, the picture and the queue alone. -/
@[simp] theorem State.passActiveStart_frame (s : State) :
    s.passActiveStart.engine = s.engine ∧ s.passActiveStart.busData = s.busData ∧
    s.passActiveStart.pixOut = s.pixOut ∧ s.passActiveStart.pending = s.pending ∧
    s.passActiveStart.port.pointer = s.port.pointer ∧ s.passActiveStart.port.latch = s.port.latch ∧
    s.passActiveStart.port.enables = s.port.enables ∧ s.passActiveStart.port.run = s.port.run ∧
    s.passActiveStart.port.ident = s.port.ident := by
  unfold State.passActiveStart; (repeat' split) <;> simp

/-- What a reset finds done of an ACTIVE START leaves the bus, the picture and the queue alone. -/
@[simp] theorem State.untilReset_frame (s : State) (w : ResetMoment) :
    (s.untilReset w).busData = s.busData ∧ (s.untilReset w).pixOut = s.pixOut ∧
    (s.untilReset w).pending = s.pending := by
  unfold State.untilReset; dsimp only; (repeat' split) <;> simp

/-- A reset of a part that is not RUNNING, or that has taken its flag, finds nothing in hand. -/
theorem State.untilReset_closed (s : State) (w : ResetMoment)
    (h : s.port.run ≠ .running ∨ s.sequencer.activeStartTaken = true) : s.untilReset w = s := by
  rcases h with h | h <;> simp [State.untilReset, h]

/-- A halt leaves the counter, the sequencer, the tracker, the request processor, the set-up, the bus, the picture and
the queue alone. -/
@[simp] theorem State.halt_frame (s : State) :
    s.halt.position = s.position ∧ s.halt.sequencer = s.sequencer ∧ s.halt.tracker = s.tracker ∧
    s.halt.requests = s.requests ∧ s.halt.setup = s.setup ∧ s.halt.busData = s.busData ∧ s.halt.pixOut = s.pixOut ∧
    s.halt.pending = s.pending ∧ s.halt.port.pointer = s.port.pointer ∧ s.halt.port.latch = s.port.latch ∧
    s.halt.port.enables = s.port.enables ∧ s.halt.port.ident = s.port.ident := by
  simp [State.halt]

/-- The list laid out touches the scene table and the free stack alone. -/
@[simp] theorem State.layOut_frame (s : State) :
    s.layOut.position = s.position ∧ s.layOut.sequencer = s.sequencer ∧ s.layOut.tracker = s.tracker ∧
    s.layOut.engine = s.engine ∧ s.layOut.pass = s.pass ∧ s.layOut.matrix = s.matrix ∧ s.layOut.writer = s.writer ∧
    s.layOut.port = s.port ∧ s.layOut.setup = s.setup ∧ s.layOut.busData = s.busData ∧ s.layOut.pixOut = s.pixOut ∧
    s.layOut.draws = s.draws ∧ s.layOut.pending = s.pending ∧ s.layOut.requests.takeIndex = s.requests.takeIndex ∧
    s.layOut.requests.ripple = s.requests.ripple ∧ s.layOut.requests.rippleCounter = s.requests.rippleCounter ∧
    s.layOut.requests.splitPending = s.requests.splitPending ∧ s.layOut.requests.setupFault = s.requests.setupFault ∧
    s.layOut.requests.notifyDue = s.requests.notifyDue := by
  simp [State.layOut]

/-- The tracker set touches the tracker and the matrix alone. -/
@[simp] theorem State.startTracker_frame (s : State) :
    s.startTracker.position = s.position ∧ s.startTracker.sequencer = s.sequencer ∧
    s.startTracker.engine = s.engine ∧ s.startTracker.requests = s.requests ∧ s.startTracker.pass = s.pass ∧
    s.startTracker.writer = s.writer ∧ s.startTracker.port = s.port ∧ s.startTracker.setup = s.setup ∧
    s.startTracker.cue = s.cue ∧ s.startTracker.busData = s.busData ∧ s.startTracker.pixOut = s.pixOut ∧
    s.startTracker.draws = s.draws ∧ s.startTracker.pending = s.pending := by
  simp [State.startTracker]

/-- One entry aborted touches cue memory, the causes and the notification due alone. -/
@[simp] theorem State.abortTaken_frame (s : State) (i : Fin 32) :
    (s.abortTaken i).position = s.position ∧ (s.abortTaken i).sequencer = s.sequencer ∧
    (s.abortTaken i).tracker = s.tracker ∧ (s.abortTaken i).engine = s.engine ∧ (s.abortTaken i).pass = s.pass ∧
    (s.abortTaken i).matrix = s.matrix ∧ (s.abortTaken i).writer = s.writer ∧ (s.abortTaken i).setup = s.setup ∧
    (s.abortTaken i).busData = s.busData ∧ (s.abortTaken i).pixOut = s.pixOut ∧ (s.abortTaken i).draws = s.draws ∧
    (s.abortTaken i).pending = s.pending ∧ (s.abortTaken i).port.pointer = s.port.pointer ∧
    (s.abortTaken i).port.latch = s.port.latch ∧ (s.abortTaken i).port.enables = s.port.enables ∧
    (s.abortTaken i).port.run = s.port.run ∧ (s.abortTaken i).port.ident = s.port.ident ∧
    (s.abortTaken i).requests.takeIndex = s.requests.takeIndex ∧
    (s.abortTaken i).requests.ripple = s.requests.ripple ∧
    (s.abortTaken i).requests.rippleCounter = s.requests.rippleCounter ∧
    (s.abortTaken i).requests.splitPending = s.requests.splitPending ∧
    (s.abortTaken i).requests.setupFault = s.requests.setupFault ∧
    (s.abortTaken i).requests.freeStack = s.requests.freeStack := by
  unfold State.abortTaken; (repeat' split) <;> simp

theorem State.foldl_abortTaken_frame (is : List (Fin 32)) (s : State) :
    (is.foldl State.abortTaken s).position = s.position ∧ (is.foldl State.abortTaken s).sequencer = s.sequencer ∧
    (is.foldl State.abortTaken s).tracker = s.tracker ∧ (is.foldl State.abortTaken s).engine = s.engine ∧
    (is.foldl State.abortTaken s).pass = s.pass ∧ (is.foldl State.abortTaken s).matrix = s.matrix ∧
    (is.foldl State.abortTaken s).writer = s.writer ∧ (is.foldl State.abortTaken s).setup = s.setup ∧
    (is.foldl State.abortTaken s).busData = s.busData ∧ (is.foldl State.abortTaken s).pixOut = s.pixOut ∧
    (is.foldl State.abortTaken s).draws = s.draws ∧ (is.foldl State.abortTaken s).pending = s.pending ∧
    (is.foldl State.abortTaken s).port.pointer = s.port.pointer ∧
    (is.foldl State.abortTaken s).port.latch = s.port.latch ∧
    (is.foldl State.abortTaken s).port.enables = s.port.enables ∧ (is.foldl State.abortTaken s).port.run = s.port.run ∧
    (is.foldl State.abortTaken s).port.ident = s.port.ident ∧
    (is.foldl State.abortTaken s).requests.freeStack = s.requests.freeStack ∧
    (is.foldl State.abortTaken s).requests.setupFault = s.requests.setupFault := by
  induction is generalizing s with
  | nil => simp
  | cons i is ih => simp [ih]

/-- Every TAKEN entry aborted touches cue memory, the causes and the notification due alone. -/
@[simp] theorem State.abortAllTaken_frame (s : State) :
    s.abortAllTaken.position = s.position ∧ s.abortAllTaken.sequencer = s.sequencer ∧
    s.abortAllTaken.tracker = s.tracker ∧ s.abortAllTaken.engine = s.engine ∧ s.abortAllTaken.pass = s.pass ∧
    s.abortAllTaken.matrix = s.matrix ∧ s.abortAllTaken.writer = s.writer ∧ s.abortAllTaken.setup = s.setup ∧
    s.abortAllTaken.busData = s.busData ∧ s.abortAllTaken.pixOut = s.pixOut ∧ s.abortAllTaken.draws = s.draws ∧
    s.abortAllTaken.pending = s.pending ∧ s.abortAllTaken.port.pointer = s.port.pointer ∧
    s.abortAllTaken.port.latch = s.port.latch ∧ s.abortAllTaken.port.enables = s.port.enables ∧
    s.abortAllTaken.port.run = s.port.run ∧ s.abortAllTaken.port.ident = s.port.ident ∧
    s.abortAllTaken.requests.freeStack = s.requests.freeStack ∧
    s.abortAllTaken.requests.setupFault = s.requests.setupFault := by
  simp [State.abortAllTaken, State.foldl_abortTaken_frame]

/-- The request processor set touches cue memory, the causes and its own items alone. -/
@[simp] theorem State.startRequests_frame (s : State) :
    s.startRequests.position = s.position ∧ s.startRequests.sequencer = s.sequencer ∧
    s.startRequests.tracker = s.tracker ∧ s.startRequests.engine = s.engine ∧ s.startRequests.pass = s.pass ∧
    s.startRequests.matrix = s.matrix ∧ s.startRequests.writer = s.writer ∧ s.startRequests.setup = s.setup ∧
    s.startRequests.busData = s.busData ∧ s.startRequests.pixOut = s.pixOut ∧ s.startRequests.draws = s.draws ∧
    s.startRequests.pending = s.pending ∧ s.startRequests.port.pointer = s.port.pointer ∧
    s.startRequests.port.latch = s.port.latch ∧ s.startRequests.port.enables = s.port.enables ∧
    s.startRequests.port.run = s.port.run ∧ s.startRequests.port.ident = s.port.ident ∧
    s.startRequests.requests.freeStack = s.requests.freeStack ∧
    s.startRequests.requests.setupFault = s.requests.setupFault := by
  simp [State.startRequests]

/-- The pass controller set touches the pass, the matrix and the pass block alone. -/
@[simp] theorem State.startPassController_frame (s : State) :
    s.startPassController.position = s.position ∧ s.startPassController.sequencer = s.sequencer ∧
    s.startPassController.tracker = s.tracker ∧ s.startPassController.engine = s.engine ∧
    s.startPassController.requests = s.requests ∧ s.startPassController.writer = s.writer ∧
    s.startPassController.port = s.port ∧ s.startPassController.setup = s.setup ∧
    s.startPassController.busData = s.busData ∧ s.startPassController.pixOut = s.pixOut ∧
    s.startPassController.draws = s.draws ∧ s.startPassController.pending = s.pending := by
  simp [State.startPassController]

/-- The writer set touches the writer and the ring alone. -/
@[simp] theorem State.startWriter_frame (s : State) :
    s.startWriter.position = s.position ∧ s.startWriter.sequencer = s.sequencer ∧ s.startWriter.tracker = s.tracker ∧
    s.startWriter.engine = s.engine ∧ s.startWriter.requests = s.requests ∧ s.startWriter.pass = s.pass ∧
    s.startWriter.matrix = s.matrix ∧ s.startWriter.port = s.port ∧ s.startWriter.setup = s.setup ∧
    s.startWriter.busData = s.busData ∧ s.startWriter.pixOut = s.pixOut ∧ s.startWriter.draws = s.draws ∧
    s.startWriter.pending = s.pending := by
  simp [State.startWriter]

/-- Run-start initialisation leaves the engine, the bus, the picture, the draw counter and the queue alone. -/
@[simp] theorem State.initialise_frame (s : State) (st : Setup) :
    (s.initialise st).engine = s.engine ∧ (s.initialise st).busData = s.busData ∧
    (s.initialise st).pixOut = s.pixOut ∧ (s.initialise st).draws = s.draws ∧ (s.initialise st).pending = s.pending ∧
    (s.initialise st).port.pointer = s.port.pointer ∧ (s.initialise st).port.latch = s.port.latch ∧
    (s.initialise st).port.enables = s.port.enables ∧ (s.initialise st).port.ident = s.port.ident := by
  simp [State.initialise]

/-- A run start leaves the engine, the bus, the picture, the draw counter and the queue alone. -/
@[simp] theorem State.runStart_frame (s : State) :
    s.runStart.engine = s.engine ∧ s.runStart.busData = s.busData ∧ s.runStart.pixOut = s.pixOut ∧
    s.runStart.draws = s.draws ∧ s.runStart.pending = s.pending ∧ s.runStart.port.pointer = s.port.pointer ∧
    s.runStart.port.latch = s.port.latch ∧ s.runStart.port.enables = s.port.enables ∧
    s.runStart.port.ident = s.port.ident := by
  unfold State.runStart; (repeat' split) <;> simp

end Sys2Proof.Machine
end

