-- ==== Sys2Proof/Laws/Memory.lean ====
section
/-! SUPPORT. The laws of cue memory: reading after writing, and the canonical form, which every operation keeps. -/

namespace Sys2Proof.Machine

/-! ### Reading -/

@[simp] theorem Memory.read_nil (a : Nat) : Memory.read [] a = Memory.unlisted := rfl

theorem Memory.read_dropCell (m : Memory) (a b : Nat) :
    Memory.read (Memory.dropCell a m) b = if b = a then Memory.unlisted else Memory.read m b := by
  induction m with
  | nil => simp [Memory.dropCell]
  | cons c rest ih =>
    obtain ⟨k, v⟩ := c
    by_cases hk : k = a <;> by_cases hb : b = a <;> simp_all [Memory.dropCell, Memory.read]
    intro h; exact absurd h.symm hb

theorem Memory.read_insertCell (m : Memory) (a b : Nat) (w : Word) (h : Memory.read m a = Memory.unlisted)
    (hm : ∀ c ∈ m, c.1 ≠ a) :
    Memory.read (Memory.insertCell a w m) b = if b = a then w else Memory.read m b := by
  induction m with
  | nil =>
    by_cases hb : b = a
    · simp [Memory.insertCell, Memory.read, hb]
    · have : ¬a = b := fun e => hb e.symm
      simp [Memory.insertCell, Memory.read, hb, this]
  | cons c rest ih =>
    obtain ⟨k, v⟩ := c
    have hk : k ≠ a := hm (k, v) (by simp)
    have hr : ∀ c ∈ rest, c.1 ≠ a := fun c hc => hm c (by simp [hc])
    have hu : Memory.read rest a = Memory.unlisted := by simpa [Memory.read, hk] using h
    by_cases hlt : a < k
    · by_cases hb : b = a
      · simp [Memory.insertCell, hlt, Memory.read, hb]
      · have : ¬a = b := fun e => hb e.symm
        simp [Memory.insertCell, hlt, Memory.read, hb, this]
    · simp only [Memory.insertCell, hlt, if_false, Memory.read, ih hu hr]
      by_cases hb : b = a
      · have : ¬k = b := fun e => hk (e.trans hb)
        simp [hb, hk]
      · simp [hb]

theorem Memory.mem_dropCell (m : Memory) (a : Nat) (c : Nat × Word) :
    c ∈ Memory.dropCell a m ↔ c ∈ m ∧ c.1 ≠ a := by
  induction m with
  | nil => simp [Memory.dropCell]
  | cons d rest ih =>
    obtain ⟨k, v⟩ := d
    by_cases hk : k = a
    · simp only [Memory.dropCell, hk, if_true, ih, List.mem_cons]
      constructor
      · rintro ⟨h, h'⟩; exact ⟨.inr h, h'⟩
      · rintro ⟨rfl | h, h'⟩
        · exact absurd rfl h'
        · exact ⟨h, h'⟩
    · simp only [Memory.dropCell, hk, if_false, ih, List.mem_cons]
      constructor
      · rintro (rfl | ⟨h, h'⟩)
        · exact ⟨.inl rfl, hk⟩
        · exact ⟨.inr h, h'⟩
      · rintro ⟨rfl | h, h'⟩
        · exact .inl rfl
        · exact .inr ⟨h, h'⟩

/-- Reading after a write: the word written at its address, the word before everywhere else. -/
theorem Memory.read_write (m : Memory) (a b : Nat) (w : Word) :
    Memory.read (Memory.write m a w) b = if b = a then w else Memory.read m b := by
  unfold Memory.write
  split
  · next h => rw [Memory.read_dropCell]; simp [h]
  · rw [Memory.read_insertCell _ _ _ _ (by simp [Memory.read_dropCell])
      (fun c hc => ((Memory.mem_dropCell m a c).mp hc).2), Memory.read_dropCell]
    by_cases hb : b = a <;> simp [hb]

@[simp] theorem Memory.read_write_same (m : Memory) (a : Nat) (w : Word) : Memory.read (Memory.write m a w) a = w := by
  simp [Memory.read_write]

theorem Memory.read_write_other (m : Memory) (a b : Nat) (w : Word) (h : b ≠ a) :
    Memory.read (Memory.write m a w) b = Memory.read m b := by simp [Memory.read_write, h]

@[simp] theorem Memory.writeAll_nil (m : Memory) : Memory.writeAll m [] = m := rfl

@[simp] theorem Memory.writeAll_cons (m : Memory) (c : Nat × Word) (cs : List (Nat × Word)) :
    Memory.writeAll m (c :: cs) = Memory.writeAll (Memory.write m c.1 c.2) cs := rfl

theorem Memory.writeAll_append (m : Memory) (xs ys : List (Nat × Word)) :
    Memory.writeAll m (xs ++ ys) = Memory.writeAll (Memory.writeAll m xs) ys := by
  induction xs generalizing m with
  | nil => rfl
  | cons x xs ih => simp [ih]

/-- An address that none of the written cells names keeps its word. -/
theorem Memory.read_writeAll_other (m : Memory) (cs : List (Nat × Word)) (b : Nat) (h : ∀ c ∈ cs, c.1 ≠ b) :
    Memory.read (Memory.writeAll m cs) b = Memory.read m b := by
  induction cs generalizing m with
  | nil => rfl
  | cons c cs ih =>
    rw [Memory.writeAll_cons, ih _ fun d hd => h d (by simp [hd]),
      Memory.read_write_other _ _ _ _ fun e => h c (by simp) e.symm]

/-- Cells with distinct addresses: each reads as it was written. -/
theorem Memory.read_writeAll_mem (m : Memory) (cs : List (Nat × Word)) (c : Nat × Word) (hc : c ∈ cs)
    (h : cs.Pairwise fun x y => x.1 ≠ y.1) : Memory.read (Memory.writeAll m cs) c.1 = c.2 := by
  induction cs generalizing m with
  | nil => simp at hc
  | cons d ds ih =>
    rw [List.pairwise_cons] at h
    rw [Memory.writeAll_cons]
    rcases List.mem_cons.mp hc with rfl | hc
    · rw [Memory.read_writeAll_other _ _ _ fun e he => (h.1 e he).symm, Memory.read_write_same]
    · exact ih _ hc h.2

theorem Memory.read_clearRange (m : Memory) (first past a : Nat) :
    Memory.read (Memory.clearRange m first past) a =
      if first ≤ a ∧ a < past then Memory.unlisted else Memory.read m a := by
  induction m with
  | nil => simp [Memory.clearRange]
  | cons c rest ih =>
    obtain ⟨k, v⟩ := c
    simp only [Memory.clearRange] at ih
    simp only [Memory.clearRange, List.filter_cons]
    by_cases hk : k < first ∨ past ≤ k
    · simp only [hk, decide_true, if_true, Memory.read]
      by_cases hka : k = a
      · have : ¬(first ≤ a ∧ a < past) := by omega
        simp [hka, this]
      · simp only [hka, if_false]; exact ih
    · simp only [hk, decide_false, Bool.false_eq_true, if_false, ih, Memory.read]
      by_cases hka : k = a
      · have : first ≤ a ∧ a < past := by omega
        simp [this]
      · simp [hka]

/-! ### The cells of values -/

@[simp] theorem cellsFrom_nil (a : Nat) : cellsFrom a [] = [] := rfl

@[simp] theorem cellsFrom_cons (a : Nat) (w : Word) (ws : List Word) :
    cellsFrom a (w :: ws) = (a, w) :: cellsFrom (a + 1) ws := rfl

/-- The cells of a run of words lie in the run. -/
theorem mem_cellsFrom (a : Nat) (ws : List Word) (c : Nat × Word) (h : c ∈ cellsFrom a ws) :
    a ≤ c.1 ∧ c.1 < a + ws.length := by
  induction ws generalizing a with
  | nil => simp at h
  | cons w ws ih =>
    rcases List.mem_cons.mp h with rfl | h
    · simp
    · have := ih (a + 1) h
      simp only [List.length_cons]
      omega

/-- The n-th word of a run of words reads back where it was written. -/
theorem Memory.read_writeAll_cellsFrom (m : Memory) (a n : Nat) (ws : List Word) (h : n < ws.length) :
    Memory.read (Memory.writeAll m (cellsFrom a ws)) (a + n) = ws[n] := by
  induction ws generalizing m a n with
  | nil => simp at h
  | cons w ws ih =>
    rw [cellsFrom_cons, Memory.writeAll_cons]
    cases n with
    | zero =>
      rw [Memory.read_writeAll_other]
      · simp
      · intro c hc
        have := (mem_cellsFrom (a + 1) ws c hc).1
        simp only [Nat.add_zero]; omega
    | succ n =>
      have := ih (Memory.write m a w) (a + 1) n (by simpa using h)
      rw [show a + (n + 1) = a + 1 + n by omega, this]
      rfl

/-! ### Canonical form -/

@[simp] theorem Memory.wf_nil : Memory.wf [] = true := rfl

/-- The canonical form, said once: addresses strictly rising and below the size, no word that an unlisted address reads
as. -/
theorem Memory.wf_iff (m : Memory) :
    Memory.wf m = true ↔ (m.Pairwise fun x y => x.1 < y.1) ∧ ∀ c ∈ m, c.1 < cueSize ∧ c.2 ≠ Memory.unlisted := by
  induction m with
  | nil => simp
  | cons c rest ih =>
    obtain ⟨a, w⟩ := c
    cases rest with
    | nil => simp [Memory.wf]
    | cons d rest =>
      obtain ⟨b, v⟩ := d
      simp only [Memory.wf, Bool.and_eq_true, decide_eq_true_eq, bne_iff_ne, ih, List.pairwise_cons, List.mem_cons,
        forall_eq_or_imp]
      constructor
      · rintro ⟨⟨hab, hw⟩, ⟨hb, hp⟩, ⟨hb', hv⟩, hr⟩
        refine ⟨⟨⟨hab, fun x hx => ?_⟩, hb, hp⟩, ⟨by omega, hw⟩, ⟨hb', hv⟩, hr⟩
        have := hb x hx
        omega
      · rintro ⟨⟨⟨hab, -⟩, hb, hp⟩, ⟨-, hw⟩, h, hr⟩
        exact ⟨⟨hab, hw⟩, ⟨hb, hp⟩, h, hr⟩

theorem Memory.dropCell_eq_filter (a : Nat) (m : Memory) :
    Memory.dropCell a m = m.filter fun c => decide (c.1 ≠ a) := by
  induction m with
  | nil => rfl
  | cons c rest ih =>
    obtain ⟨k, v⟩ := c
    by_cases hk : k = a <;> simp [Memory.dropCell, hk, ih]

theorem Memory.wf_filter (m : Memory) (p : Nat × Word → Bool) (h : Memory.wf m = true) :
    Memory.wf (m.filter p) = true := by
  rw [Memory.wf_iff] at h ⊢
  exact ⟨h.1.filter p, fun c hc => h.2 c (List.mem_filter.mp hc).1⟩

theorem Memory.mem_insertCell (m : Memory) (a : Nat) (w : Word) (c : Nat × Word) :
    c ∈ Memory.insertCell a w m ↔ c = (a, w) ∨ c ∈ m := by
  induction m with
  | nil => simp [Memory.insertCell]
  | cons d rest ih =>
    obtain ⟨k, v⟩ := d
    by_cases hlt : a < k
    · simp [Memory.insertCell, hlt]
    · simp only [Memory.insertCell, hlt, if_false, List.mem_cons, ih]
      constructor
      · rintro (h | h | h) <;> simp [h]
      · rintro (h | h | h) <;> simp [h]

theorem Memory.wf_insertCell (m : Memory) (a : Nat) (w : Word) (h : Memory.wf m = true) (ha : a < cueSize)
    (hw : w ≠ Memory.unlisted) (hm : ∀ c ∈ m, c.1 ≠ a) : Memory.wf (Memory.insertCell a w m) = true := by
  rw [Memory.wf_iff] at h ⊢
  refine ⟨?_, fun c hc => ?_⟩
  · have hp := h.1
    clear h
    induction m with
    | nil => simp [Memory.insertCell]
    | cons d rest ih =>
      obtain ⟨k, v⟩ := d
      rw [List.pairwise_cons] at hp
      have hk : k ≠ a := hm (k, v) (by simp)
      by_cases hlt : a < k
      · rw [Memory.insertCell, if_pos hlt]
        simp only [List.pairwise_cons, List.mem_cons, forall_eq_or_imp]
        exact ⟨⟨hlt, fun x hx => lt_trans hlt (hp.1 x hx)⟩, hp.1, hp.2⟩
      · simp only [Memory.insertCell, hlt, if_false, List.pairwise_cons]
        refine ⟨fun x hx => ?_, ih (fun c hc => hm c (by simp [hc])) hp.2⟩
        rcases (Memory.mem_insertCell rest a w x).mp hx with rfl | hx
        · exact lt_of_le_of_ne (Nat.le_of_not_lt hlt) hk
        · exact hp.1 x hx
  · rcases (Memory.mem_insertCell m a w c).mp hc with rfl | hc
    · exact ⟨ha, hw⟩
    · exact h.2 c hc

/-- A write below the size keeps the canonical form. -/
theorem Memory.wf_write (m : Memory) (a : Nat) (w : Word) (h : Memory.wf m = true) (ha : a < cueSize) :
    Memory.wf (Memory.write m a w) = true := by
  have hd : Memory.wf (Memory.dropCell a m) = true := by
    rw [Memory.dropCell_eq_filter]; exact Memory.wf_filter m _ h
  unfold Memory.write
  split
  · exact hd
  · next hw => exact Memory.wf_insertCell _ a w hd ha hw fun c hc => ((Memory.mem_dropCell m a c).mp hc).2

/-- Writes below the size keep the canonical form. -/
theorem Memory.wf_writeAll (m : Memory) (cs : List (Nat × Word)) (h : Memory.wf m = true)
    (hc : ∀ c ∈ cs, c.1 < cueSize) : Memory.wf (Memory.writeAll m cs) = true := by
  induction cs generalizing m with
  | nil => exact h
  | cons c cs ih =>
    rw [Memory.writeAll_cons]
    exact ih _ (Memory.wf_write m c.1 c.2 h (hc c (by simp))) fun d hd => hc d (by simp [hd])

/-- Clearing a range keeps the canonical form. -/
theorem Memory.wf_clearRange (m : Memory) (first past : Nat) (h : Memory.wf m = true) :
    Memory.wf (Memory.clearRange m first past) = true := Memory.wf_filter m _ h

/-- A run of words that ends below the size keeps the canonical form. -/
theorem Memory.wf_writeAll_cellsFrom (m : Memory) (a : Nat) (ws : List Word) (h : Memory.wf m = true)
    (ha : a + ws.length ≤ cueSize) : Memory.wf (Memory.writeAll m (cellsFrom a ws)) = true :=
  Memory.wf_writeAll m _ h fun c hc => by have := mem_cellsFrom a ws c hc; omega

end Sys2Proof.Machine
end

