-- ==== Sys2Proof/WellFormed.lean ====
section
/-! DEFINITION. Which commands are well formed. Every operand but one is held in a type that admits exactly the manual's
values; the contents a RAM powers up with are the exception. -/

namespace Sys2Proof

/-- The contents of a RAM as a list of the words that are not 0, addresses strictly rising. -/
def ramCanonical : List (Addr × Word) → Bool
  | [] => true
  | [(_, w)] => w != 0
  | (a, w) :: (b, v) :: rest => decide (a < b) && (w != 0) && ramCanonical ((b, v) :: rest)

/-- A command is well formed when the RAM contents it carries, if any, are in canonical form. -/
def Instr.wellFormed : Instr → Bool
  | .powerOnReset _ _ _ ram => ramCanonical ram
  | .portReset => true
  | .runStart => true
  | .halt => true
  | .resume => true
  | .identRead => true
  | .attentionWrite _ => true
  | .attentionEnableWrite _ => true
  | .pointerLowWrite _ => true
  | .pointerHighWrite _ => true
  | .registerWriteOther _ => true
  | .dataRead => true
  | .dataWrite _ => true
  | .reportReleaseWrite _ => true
  | .perfLineChange _ _ => true
  | .stillnessTimerExpiry => true
  | .edgeReading _ _ => true
  | .fieldStart _ => true
  | .referenceTimerExpiry => true
  | .activeStart => true
  | .gpiLineChange _ _ => true
  | .lineHoldEnd _ => true
  | .pixel _ _ _ => true
  | .registerRead _ => true
  | .liveRecordWordRead => true

end Sys2Proof
end

