-- ==== Sys2Proof/Tests/Slice0.lean ====
section
/-! SUPPORT. Tests of single steps against the manual's worked examples and tables, and a witness for the hypotheses of
each obligation. -/

namespace Sys2Proof.Tests

set_option Elab.async false

open Sys2Proof.Machine

/-! ### Small states -/

/-- The state a command leaves. -/
def after (c : Instr) (s : State) : State :=
  match exec c s with
  | .next t => t
  | .fault _ => s
  | .refused _ => s

/-- A state with words of cue memory written. -/
def withCells (s : State) (cells : List (Nat × Word)) : State := { s with cue := Memory.writeAll s.cue cells }

/-- A state at a frame under gauge 4. -/
def atCount (s : State) (count : Int) : State := { s with position := { s.position with count := count } }

/-- A part RUNNING under the default set-up with the base scene alone and slot 1 on top of a short stack. -/
def running : State :=
  { State.reset with
    port := { State.reset.port with run := .running }
    requests := { State.reset.requests with freeStack := [1, 2] }
    cue := Memory.writeAll [] baseSceneCells }

/-- A part with one scene more, slot 1 at frame 100 with serial 1. -/
def twoScenes : State :=
  withCells { running with requests := { running.requests with freeStack := [2] } }
    [(0x1001, 1), (0x1020, 1), (0x1021, 0xFFFF), (0x1022, 0), (0x1024, 100), (0x1026, 2), (0x1027, 1)]

/-- Entry 0 POSTED with a KIND and other words by number, its ACTIVE START still to come. -/
def posted (s : State) (kind : Word) (words : List (Nat × Word)) : State :=
  withCells { s with sequencer := { s.sequencer with activeStartTaken := false } }
    ([(0x400, 1), (0x401, kind)] ++ words.map fun w => (0x400 + w.1, w.2))

/-- The default set-up block. -/
def defaultBlock : List (Nat × Word) :=
  [(0, 4), (7, 1), (8, 16), (9, 8), (10, 64), (11, 940), (13, 1), (14, 64), (15, 3), (16, 8)]

/-- A grade in the order of R104. -/
def grade (l : List Int) : Grade := Vector.ofFn fun k => l.getD k.val 0

/-! ### Well-formed commands -/

theorem test_ram_zero_word_refused : (Instr.powerOnReset false false 0 [(5, 0)]).wellFormed = false := by decide

theorem test_ram_falling_refused : (Instr.powerOnReset false false 0 [(6, 1), (5, 1)]).wellFormed = false := by decide

theorem test_ram_repeated_refused : (Instr.powerOnReset false false 0 [(5, 1), (5, 2)]).wellFormed = false := by decide

theorem test_ram_rising_admitted : (Instr.powerOnReset false false 0 [(5, 1), (6, 2)]).wellFormed = true := by decide

/-! ### The queue and the table -/

/-- The table gives no row any bits, so no word spells a command. -/
theorem test_no_word_spells_a_command :
    decodeTableWord 16 1 = none ∧ State.withFetchWord running 16 1 = running := by decide +kernel

theorem test_queue_is_first_in_first_out :
    (match step { running with pending := [.pointerLowWrite 7, .pointerLowWrite 9] } with
      | .next t => (t.port.pointer, t.pending)
      | .fault _ => (0, [])
      | .refused _ => (0, [])) = (7, [.pointerLowWrite 9]) := by decide +kernel

/-! ### Resets and run control -/

/-- R180, R162: the lines are followed at once. -/
theorem test_power_on_takes_lines :
    (after (.powerOnReset true false 5 [(0x1FFFF, 9)]) running).matrix.gpi = #v[true, false, true, false] ∧
      Memory.read (after (.powerOnReset true false 5 [(0x1FFFF, 9)]) running).cue 0x1FFFF = 9 := by decide +kernel

/-- R172: a port reset keeps cue memory and leaves the part UNINITIALISED. -/
theorem test_port_reset_keeps_memory :
    (after .portReset running).cue = running.cue ∧ (after .portReset running).port.run = .uninitialised := by
  decide +kernel

/-- R114, R178: GAUGE 0 is refused at offset 0, with the SETUP cause. -/
theorem test_run_start_refuses_gauge_zero :
    (after .runStart State.reset).requests.setupFault = some 0 ∧
      (after .runStart State.reset).port.causes = 0x40 := by decide +kernel

/-- R99: a reset after one taking of a scan of two leaves the first entry finished, the second POSTED. -/
theorem test_reset_within_scan :
    (let s :=
       withCells { twoScenes with sequencer := { twoScenes.sequencer with activeStartTaken := false } }
         [(0x400, 1), (0x401, 0x10), (0x408, 1), (0x440, 1), (0x441, 0x10)]
     let t := after (.registerWriteOther (.resetWithin (.scan 1))) s
     t.port.run = .uninitialised ∧ entryWord t.cue 0 0 = 3 ∧ entryWord t.cue 1 0 = 1) := by decide +kernel

theorem test_resume_from_halted :
    (after .resume { running with port := { running.port with run := .halted } }).port.run = .running := by
  decide +kernel

/-- R148: a halt faults a CUED pass. -/
theorem test_halt_faults_cued_pass :
    (after .halt { running with pass := { running.pass with state := .cued } }).pass.condition = .halted := by
  decide +kernel

/-- R173: a write to IDENT is ignored. -/
theorem test_ident_write_ignored : after (.registerWriteOther (.ident 0xFFFF)) running = running := by decide +kernel

/-! ### The host port -/

/-- R177. -/
theorem test_ident_alternates :
    (after .identRead running).busData = 0x4120 ∧
      (after .identRead { running with port := { running.port with ident := .revision } }).busData = 0x0003 := by
  decide +kernel

theorem test_attention_write_clears_ones :
    (after (.attentionWrite 0x0005) { running with port := { running.port with causes := 0x47 } }).port.causes = 0x42 :=
  by decide +kernel

theorem test_enable_write_replaces_set :
    (after (.attentionEnableWrite 0x0081) { running with port := { running.port with enables := 0x7E } }).port.enables
      = 0x01 := by decide +kernel

theorem test_pointer_low_keeps_bit_16 :
    (after (.pointerLowWrite 0x1234) { running with port := { running.port with pointer := 0x1FFFF } }).port.pointer
      = 0x11234 := by decide +kernel

theorem test_pointer_high_takes_bit_0 :
    (after (.pointerHighWrite 0xFFFE) { running with port := { running.port with pointer := 0x1ABCD } }).port.pointer
      = 0x0ABCD := by decide +kernel

/-- R173: offset 6 is DATA, offset 7 REPORT RELEASE. -/
theorem test_register_offsets :
    hostRead 6 = .dataRead ∧ hostWrite 7 1010 = .reportReleaseWrite 1010 := by decide

/-- R175: a read of a high word captures the low word with its address. -/
theorem test_data_read_captures_low_word :
    (after .dataRead
        (withCells { running with port := { running.port with pointer := 0x102 } } [(0x102, 1), (0x103, 2)])).port.latch
      = some (0x103, 2) := by decide +kernel

theorem test_data_read_returns_captured_word :
    (after .dataRead
        (withCells { running with port := { running.port with pointer := 0x103, latch := some (0x103, 7) } }
          [(0x103, 2)])).busData = 7 := by decide +kernel

/-- R174: the word after the last of a writable region is discarded. -/
theorem test_data_write_at_region_boundary :
    (after (.dataWrite 1) { running with port := { running.port with pointer := 0x0FF } }).port.causes = 0 ∧
      (after (.dataWrite 1) { running with port := { running.port with pointer := 0x100 } }).port.causes = 0x10 := by
  decide +kernel

theorem test_data_write_wraps_pointer :
    (after (.dataWrite 1) { running with port := { running.port with pointer := 0x1FFFF } }).port.pointer = 0 := by
  decide +kernel

/-- 10.10: a release to 1,010 against a write count of 1,004 and a release count of 1,002 is clamped. -/
theorem test_release_clamped :
    (after (.reportReleaseWrite 1010)
        { running with writer := { running.writer with writeCount := 1004, releaseCount := 1002 } }).writer.releaseCount
      = 1004 := by decide +kernel

/-- 10.10: a release to 1,002 passes over 512 records and is taken whole. -/
theorem test_release_of_512 :
    (after (.reportReleaseWrite 1002)
        { running with writer := { running.writer with writeCount := 1002, releaseCount := 490 } }).port.causes = 0 := by
  decide +kernel

/-- R173: CONTROL shows RUN, INITIALISED, SETUP FAULT and the offset. -/
theorem test_control_register :
    (after (.registerRead .control) { running with requests := { running.requests with setupFault := some 41 } }).busData
      = 0x2907 := by decide +kernel

/-! ### Film position -/

/-- 1.7: the forward step from 3 to 4 under gauge 4 enters frame 1 at phase 0. -/
theorem test_forward_step_enters_frame_one :
    (after (.perfLineChange false false)
        { atCount running 3 with position := { (atCount running 3).position with perfB := true } }).position.frame = 1 := by
  decide +kernel

/-- 1.7: the reverse step from 0 gives frame −1 at phase 3. -/
theorem test_reverse_step_below_zero :
    (after (.perfLineChange false true) running).position.frame = -1 ∧
      (after (.perfLineChange false true) running).position.phase = 3 := by decide +kernel

theorem test_stillness_expiry :
    (after .stillnessTimerExpiry
        { running with
          position := { running.position with direction := .forward, stillness := .running .m60_32 } }).position.direction
      = .stopped := by decide +kernel

/-- 1.7: FOLLOW with EDGE BASE 500,000, READER OFFSET +3, TOLERANCE 1, SUSPECT holding 2 at P = 4,882. -/
def suspectPart : State :=
  { atCount running 4882 with
    position := { (atCount running 4882).position with state := .suspect 2 }
    setup := { running.setup with edgeMode := .follow, edgeBase := 500000, readerOffset := 3 } }

theorem test_slip_is_followed :
    (after (.edgeReading 501225 true) suspectPart).position.count = 4890 ∧
      (after (.edgeReading 501225 true) suspectPart).port.causes = 0x08 := by decide +kernel

theorem test_other_difference_replaces_suspect :
    (after (.edgeReading 501226 true) suspectPart).position.state = .suspect 3 := by decide +kernel

/-! ### Fields, lines -/

/-- 2.7: field 2 of the example: identity 1 from unphased gives phase 0, unjudged. -/
theorem test_field_one_finds_phase_zero :
    (after (.fieldStart .field1) { running with sequencer := { running.sequencer with lastIdentity := some .field2 } }
      ).sequencer.phase = some 0 := by decide +kernel

/-- R25: the same identity twice makes a re-phase fall due. -/
theorem test_repeated_field_two_unphases :
    (after (.fieldStart .field2)
        { running with
          sequencer :=
            { running.sequencer with lastIdentity := some .field2, phase := some 1, firstFieldFrame := some 0 } }
      ).sequencer.phase = none := by decide +kernel

theorem test_reference_loss :
    (after .referenceTimerExpiry running).sequencer.reference = .lost ∧
      (after .referenceTimerExpiry running).port.causes = 0x08 := by decide +kernel

theorem test_second_active_start_ignored : after .activeStart running = running := by decide +kernel

/-- R162, R156: a DIRECT line follows GPI2, and a rising edge is counted for SPLIT. -/
def gpiPart : State :=
  { running with
    setup :=
      { running.setup with
        channelSelection := #v[some .gpi2, none, none, none, none, none, none, none]
        userSelection := #v[some 0, none, none, none, none, none, some 0, none, none, none, none]
        gpoMode :=
          #v[⟨true, false⟩, ⟨false, false⟩, ⟨false, false⟩, ⟨false, false⟩, ⟨false, false⟩, ⟨false, false⟩] } }

theorem test_gpi_reaches_line_and_user :
    (after (.gpiLineChange 2 true) gpiPart).gpo 0 = true ∧
      (after (.gpiLineChange 2 true) gpiPart).matrix.edgeSeen[6] = true := by decide +kernel

theorem test_hold_ends :
    (after (.lineHoldEnd 0)
        { gpiPart with
          matrix := { gpiPart.matrix with hold := #v[some ⟨true, .m60_32⟩, none, none, none, none, none] } }).gpo 0
      = false := by decide +kernel

/-! ### The picture (5.9) -/

/-- 5.9: codes (400, 500, 600) come out as 457, 502, 492. -/
theorem test_pixel_worked_case :
    (after (.pixel 400 500 600)
        { running with
          engine :=
            { running.engine with
              coefficients := grade [-20, 0, 10, 1100, 1024, 980, 100, 0, -200, 300] } }).pixOut = ⟨457, 502, 492⟩ := by
  decide +kernel

/-- 5.9: a negative under the neutral set: (100, 900, 1023) comes out as (923, 123, 64). -/
theorem test_pixel_negative :
    (after (.pixel 100 900 1023) { running with setup := { running.setup with negative := true } }).pixOut
      = ⟨923, 123, 64⟩ := by decide +kernel

/-- 5.9: n 3 of a D_eff of 4 from 1024 to 1100 gives 1070; a blend from 105 to 100 at one half gives 102. -/
theorem test_blend_worked_case : blendParam 1024 1100 3 4 = 1070 ∧ blendParam 105 100 1 1 = 102 := by decide

/-- R78: the first word read is CLOSE, word 12 of the record. -/
theorem test_first_word_read_is_close :
    (after .liveRecordWordRead
        (withCells { running with engine := { running.engine with read := some ⟨[], running.moment⟩ } } [(0x20C, 77)])
      ).engine.read = some ⟨[77], running.moment⟩ := by decide +kernel

/-! ### Requests, passes and reports -/

/-- 1.7: a change to gauge 3 at P = 4,890 keeps frame 1,222, P becoming 3,666. -/
theorem test_gauge_change_keeps_frame :
    ({ running.position with count := 4890, state := .suspect (-5) }.takeSetup .three).count = 3666 := by decide

/-- 5.9: the probe of slot 3 gives 940, 500, 64 and luma 625. -/
theorem test_probe_worked_case :
    (let out := transform (grade [10, 0, 0, 1100, 1024, 1024, 0, 0, 0, 256]) Setup.default 1023 500 0
     (out.red, out.green, out.blue, out.luma)) = (940, 500, 64, 625) := by decide

/-- R106: an insert at frame 50 takes the slot on top, 2, and links it before the scene at 100. -/
theorem test_insert_links_in_order :
    (let t := after .activeStart (posted twoScenes 1 [(11, 50), (16, 1)])
     sceneNext t.cue 0 = some 2 ∧ sceneNext t.cue 2 = some 1 ∧ entryWord t.cue 0 0 = 3) := by decide +kernel

/-- R107: the base scene cannot be deleted. -/
theorem test_delete_base_refused :
    entryWord (after .activeStart (posted twoScenes 2 [(8, 0)])).cue 0 3 = 3 := by decide +kernel

/-- "Decoding a PASS record": words 9 to 11 give in-frame 500 and expected frame 504, words 12 to 14 recorded 4; word
8 has RECORDING, FAULTED by the pass block's code (log 31), open-ended and ABANDONED. -/
theorem test_pass_record_words :
    (passDetail .recording
        { Pass.initial with
          state := .faulted, condition := .abandoned, inFrame := 500, expected := 504, recorded := 4, openEnded := true }
      ).take 7 = [0x2583, 0x0001, 0xF400, 0x01F8, 0x0000, 0x0400, 0x0000] := by decide

/-! ### Witnesses: a concrete state and operands for the hypotheses of each obligation, clause by clause -/

/-- A command answers a next state. -/
def completes (c : Instr) (s : State) : Bool :=
  match exec c s with
  | .next _ => true
  | .fault _ => false
  | .refused _ => false

theorem exec_after {c : Instr} {s : State} (h : completes c s = true) : exec c s = .next (after c s) := by
  unfold completes at h
  unfold after
  split at h <;> simp_all

/-- A state with one command waiting. -/
def queued (c : Instr) (s : State) : State := { s with pending := [c] }

theorem step_after {c : Instr} {s : State} (h : completes c { s with pending := [] } = true) :
    step (queued c s) = .next (after c { s with pending := [] }) := exec_after h

/-- Every slot outside a list, as a free stack. -/
@[irreducible] def freeOutside (l : List Slot) : List Slot := (List.finRange 1024).filter fun y => decide (y ∉ l)

theorem nodup_freeOutside (l : List Slot) : (freeOutside l).Nodup := by
  unfold freeOutside
  exact (List.nodup_finRange 1024).filter _

theorem mem_freeOutside {l : List Slot} {x : Slot} : x ∈ freeOutside l ↔ x ∉ l := by
  unfold freeOutside
  rw [List.mem_filter]
  exact ⟨fun h => of_decide_eq_true h.2, fun h => ⟨List.mem_finRange x, decide_eq_true h⟩⟩

theorem law_of_list {m : Memory} {l : List Slot} (h : isSceneList m l) : sceneListLaw m (freeOutside l) :=
  ⟨l, h, nodup_freeOutside l, fun _ => mem_freeOutside⟩

/-- The same with one slot outside the list put on top. -/
theorem law_of_list_cons {m : Memory} {l : List Slot} {x : Slot} (h : isSceneList m l) (hx : x ∉ l) :
    sceneListLaw m (x :: freeOutside (x :: l)) := by
  refine ⟨l, h, List.nodup_cons.mpr ⟨?_, nodup_freeOutside _⟩, fun y => ?_⟩
  · rw [mem_freeOutside]; simp
  · rw [List.mem_cons, mem_freeOutside]
    by_cases hy : y = x
    · simp [hy, hx]
    · simp [hy]

/-- A state with a free stack. -/
def withStack (s : State) (free : List Slot) : State := { s with requests := { s.requests with freeStack := free } }

/-- A state with a pass. -/
def withPass (s : State) (p : Pass) : State := { s with pass := p }

/-- A pass RECORDING frame 10, of one frame. -/
def recordingPass : Pass :=
  { Pass.initial with
    state := .recording, inFrame := 10, requested := 1, remaining := 1, expected := 11 }

/-- A memory reads 0 past its last cell. -/
theorem read_past {m : Memory} {a : Nat} (h : ∀ c ∈ m, c.1 < a) : Memory.read m a = 0 := by
  induction m with
  | nil => rfl
  | cons c rest ih =>
    have hc := h c (by simp)
    rw [Memory.read, if_neg (by omega)]
    exact ih fun d hd => h d (by simp [hd])

/-- A list of the first four slots, checked on those slots alone. -/
theorem sceneList_of_small {m : Memory} {l : List Slot} (hm : ∀ c ∈ m, c.1 < 0x1080) (hl : ∀ x ∈ l, x.val < 4)
    (h : l.head? = some 0 ∧ slotWordAt m 0 2 = 0xFFFF ∧ sceneStart m 0 = -65536 ∧ linkedRun m l ∧ l.Nodup ∧
      (∀ x ∈ l, inRange (sceneStart m x)) ∧ sceneDissolve m 0 = 0)
    (hs : ∀ n : Fin 4, slotWordAt m (Fin.castLE (by decide) n) 0 = if Fin.castLE (by decide) n ∈ l then 1 else 0) :
    isSceneList m l := by
  obtain ⟨h1, h2, h3, h4, h5, h6, h7⟩ := h
  refine ⟨h1, h2, h3, h4, h5, fun x => ?_, h6, h7⟩
  by_cases hx : x.val < 4
  · exact hs ⟨x.val, hx⟩
  · rw [if_neg fun hm => hx (hl x hm)]
    refine read_past fun c hc => ?_
    have := hm c hc
    simp only [slotBase, sceneBase]
    omega

theorem running_list : isSceneList running.cue [0] := by
  refine sceneList_of_small (by decide +kernel) (by decide +kernel) ?_ (by decide +kernel)
  simp only [linkedRun, inRange, List.head?]
  decide +kernel

theorem twoScenes_list : isSceneList twoScenes.cue [0, 1] := by
  refine sceneList_of_small (by decide +kernel) (by decide +kernel) ?_ (by decide +kernel)
  simp only [linkedRun, inRange, List.head?]
  decide +kernel

/-- `running` with the whole free stack. -/
def lawful : State := withStack running (freeOutside [0])

theorem witness_StepTakesFrontCommand :
    exec (.pointerLowWrite 7) { running with pending := [] } =
      .next (after (.pointerLowWrite 7) { running with pending := [] }) := rfl

theorem witness_EveryCommandCompletesWithinItsBlocks :
    mayChange (.pixel 1 2 3) .cue = false ∧ mayChange .runStart .engine = false ∧ mayChange .portReset .cue = false :=
  by decide

theorem not_partWrites_low {a : Nat} (h : a < 0x100) : ¬partWrites a := by
  simp only [partWrites, inStatus, inPassBlock, inResults, inEntryResults, resultWord, inScenes, inRing, entryBase,
    requestBase]
  rintro (h | h | ⟨i, k, h, e⟩ | h | h) <;> omega

/-- The unused word after the status block's last. -/
theorem not_partWrites_status_end : ¬partWrites 0x122 := by
  simp only [partWrites, inStatus, inPassBlock, inResults, inEntryResults, resultWord, inScenes, inRing, entryBase,
    requestBase]
  rintro (h | h | ⟨i, k, h, e⟩ | h | h) <;> omega

theorem witness_CueMemoryHasItsWriters :
    (completes (.fieldStart .field1) running = true ∧ ¬partWrites 0 ∧ ¬partWrites 0x122) ∧
    (inScenes 0x1000 ∧ inScenes 0x8FFF ∧ inRing 0x9000 ∧ inRing 0xAFFF ∧
      inEntry 0 0x43F ∧ entryWord (withCells running [(0x400, 2)]).cue 0 0 = 2) ∧
    (let s := posted twoScenes 2 [(8, 1)]
     completes .activeStart s = true ∧ Memory.read (after .activeStart s).cue 0x1020 ≠ Memory.read s.cue 0x1020) ∧
    (let s := posted twoScenes 2 [(8, 1)]
     let c : Instr := .registerWriteOther (.resetWithin (.scan 4))
     completes c s = true ∧ Memory.read (after c s).cue 0x1020 ≠ Memory.read s.cue 0x1020) ∧
    completes (.powerOnReset false false 0 [(0x1000, 1)]) running = true ∧
    Memory.read (after (.powerOnReset false false 0 [(0x1000, 1)]) State.reset).cue 0x1000 ≠
      Memory.read State.reset.cue 0x1000 := by
  refine ⟨⟨by decide +kernel, not_partWrites_low (by decide), not_partWrites_status_end⟩, ?_, ?_, ?_, ?_, ?_⟩
  · simp only [inScenes, inRing, inEntry]; decide +kernel
  · decide +kernel
  · decide +kernel
  · decide +kernel
  · decide +kernel

theorem witness_MemoryAndSetupStayLegal :
    step (queued (.fieldStart .field1) running) = .next (after (.fieldStart .field1) { running with pending := [] }) ∧
    Memory.wf running.cue = true ∧ running.setup.Valid :=
  ⟨step_after (by decide +kernel), by decide +kernel, by unfold Setup.Valid; decide +kernel⟩

theorem witness_ResetsAreSafe :
    Memory.wf running.cue = true ∧ completes .portReset running = true ∧
      completes (.registerWriteOther (.resetWithin (.visits 1))) running = true ∧
      completes (.powerOnReset true false 3 [(5, 9)]) running = true := by decide +kernel

theorem witness_ResetsGiveResetValues :
    ([((5 : Addr), (9 : Word)), (6, 1)].Pairwise fun x y => x.1 ≠ y.1) ∧
    (∀ c ∈ [((5 : Addr), (9 : Word)), (6, 1)], c.1 ≠ 7) ∧ State.reset.port.run ≠ .running ∧
    running.sequencer.activeStartTaken = true := by
  refine ⟨by simp, by simp, by decide, by decide⟩

/-- A part not yet initialised with a valid block in cue memory, and with word 41 spoilt. -/
def readyPart : State := withCells State.reset defaultBlock
def spoiltPart : State := withCells readyPart [(41, 4)]

theorem witness_RunStartRefusesOffendingBlock :
    State.reset.port.run = .uninitialised ∧ spoiltPart.port.run = .uninitialised ∧
    ¬validSetupWord 0 (Memory.read State.reset.cue 0) (Memory.read State.reset.cue 10) ∧
    ¬validSetupWord 41 (Memory.read spoiltPart.cue 41) (Memory.read spoiltPart.cue 10) ∧
    ∀ o, o < 41 → validSetupWord o (Memory.read spoiltPart.cue o) (Memory.read spoiltPart.cue 10) := by
  refine ⟨rfl, rfl, fun h => absurd (h.1 rfl) (by decide +kernel), fun h => ?_, fun o ho => ?_⟩
  · exact absurd (h.2.2.2.2.2.2.2.2.2.2.2.2.2.2 ⟨by decide, by decide⟩) (by decide +kernel)
  · refine ⟨?_, ?_, ?_, ?_, ?_, ?_, ?_, ?_, ?_, ?_, ?_, ?_, ?_, ?_, ?_⟩ <;> revert o <;> decide +kernel

theorem readyPart_valid : validSetupBlock readyPart.cue := by
  intro o ho
  refine ⟨?_, ?_, ?_, ?_, ?_, ?_, ?_, ?_, ?_, ?_, ?_, ?_, ?_, ?_, ?_⟩ <;> revert o <;> decide +kernel

theorem witness_RunStartLaysOutSceneList :
    readyPart.port.run = .uninitialised ∧ validSetupBlock readyPart.cue ∧ Memory.wf readyPart.cue = true :=
  ⟨rfl, readyPart_valid, by decide +kernel⟩

/-- The ready part with a TAKEN entry that asks for a notice. -/
def takenPart : State := withCells readyPart [(0x400, 2), (0x402, 1)]

theorem witness_RunStartInitialisesBlocks :
    takenPart.port.run = .uninitialised ∧ validSetupBlock takenPart.cue ∧ entryWord takenPart.cue 0 0 = 2 ∧
      takenPart.UninitialisedLaw ∧ takenPart.position.gauge = .four ∧ Memory.read takenPart.cue 0 = 4 ∧
      notifyFlag takenPart.cue 0 = true ∧ entryWord takenPart.cue 31 0 ≠ 2 ∧ inRing 0x9001 ∧ 0x9001 % 16 ≠ 0 := by
  refine ⟨rfl, ?_, by decide +kernel, fun _ => ⟨rfl, rfl, rfl, rfl, rfl, rfl⟩, rfl, by decide +kernel, ?_⟩
  · intro o ho
    have h : Memory.read takenPart.cue o = Memory.read readyPart.cue o := by revert o; decide +kernel
    rw [h]
    exact readyPart_valid o ho
  · unfold inRing; decide +kernel

theorem witness_HaltStopsTheWork :
    running.port.run = .running ∧ running.engine.read = none ∧ running.hasRoom 1 ∧
      (withPass running { Pass.initial with state := .cued }).pass.state = .cued ∧
      (withPass running recordingPass).port.run = .running ∧
      (withPass running recordingPass).pass.state = .recording := by
  unfold State.hasRoom
  decide +kernel

theorem witness_ControlWriteTakenByRunState :
    (0x8001 : Word).getLsbD 15 = true ∧
    ((0x0001 : Word).getLsbD 15 = false ∧ (0x0001 : Word).getLsbD 0 = true) ∧
    ((0x7FFE : Word).getLsbD 15 = false ∧ (0x7FFE : Word).getLsbD 0 = false) ∧
    running.port.run = .running ∧ { running.port with run := .halted }.run = .halted ∧
    State.reset.port.run ≠ .running := by decide

/-- A HALTED part. -/
def haltedPart : State := after .halt running

theorem witness_IdlePartHolds :
    (haltedPart.port.run = .halted ∧ haltedPart.pass.state ≠ .cued ∧ haltedPart.pass.state ≠ .recording ∧
      haltedPart.engine.read = none ∧ completes (.fieldStart .field1) haltedPart = true ∧ inScenes 0x1000) ∧
    State.reset.UninitialisedLaw ∧ State.reset.LiveReadLaw ∧
    step (queued .runStart State.reset) = .next (after .runStart { State.reset with pending := [] }) := by
  refine ⟨?_, fun _ => ⟨rfl, rfl, rfl, rfl, rfl, rfl⟩, fun _ => rfl, step_after (by decide +kernel)⟩
  unfold inScenes
  decide +kernel

/-! #### The host port -/

theorem witness_AttentionCausesAndEnables :
    completes .halt running = true ∧ completes .resume haltedPart = true ∧ completes .runStart readyPart = true ∧
      (running.setCause .setup).causeSet .setup = true ∧ completes .portReset running = true ∧
      completes (.powerOnReset true false 15 []) running = true := by decide +kernel

theorem witness_RegistersReadAndWriteTheirItems :
    running.port.ident = .code ∧ { running.port with ident := .revision }.ident = .revision ∧
    (∀ o, running.requests.setupFault = some o → o < 42) ∧
    (∀ o, { running.requests with setupFault := some 41 }.setupFault = some o → o < 42) := by
  refine ⟨rfl, rfl, fun o h => ?_, fun o h => ?_⟩
  · simp [running, State.reset] at h
  · simp at h; omega

theorem witness_DataWriteByRegion :
    (hostOwned 0 ∧ hostOwned 0xFF ∧ hostOwned 0x200 ∧ hostOwned 0x2FF ∧ hostOwned 0xC00 ∧ hostOwned 0xFFF ∧
      hostOwned 0xB000 ∧ hostOwned 0x1FFFF) ∧
    (¬hostOwned 0x100 ∧ ¬hostOwned 0x1FF ∧ ¬hostOwned 0x300 ∧ ¬hostOwned 0x3FF ∧ ¬hostOwned 0x1000 ∧
      ¬hostOwned 0xAFFF) ∧
    (0x400 = entryBase 0 + 0 ∧ 0xBFF = entryBase 31 + 63 ∧ 0xBC0 = entryBase 31 + 0) ∧
    entryWord (withCells running [(0x400, 2)]).cue 0 0 = 2 ∧ entryWord running.cue 31 0 ≠ 2 := by
  refine ⟨?_, ?_, by decide, by decide +kernel⟩ <;> simp only [hostOwned] <;> decide

/-- The pointer at an address. -/
def pointing (s : State) (a : Addr) : State := { s with port := { s.port with pointer := a } }

theorem witness_PairLatchCapturesLowWord :
    (let s := { pointing running 0x103 with port := { (pointing running 0x103).port with latch := some (0x103, 7) } }
     s.port.latch = some (s.port.pointer, 7)) ∧
    ((pointing running 0x100).port.latch = none ∧ (pointing running 0x30E).port.latch = none) ∧
    (0x121 ∉ [0x100, 0x102, 0x11F, 0x302, 0x304, 0x306, 0x308, 0x30B, 0x30E]) ∧
    hostAccess (.registerRead .control) = true ∧ completes (.registerRead .control) running = true ∧
    completes .portReset running = true ∧ completes (.powerOnReset true false 15 []) running = true := by
  decide +kernel

/-- The events of the two reads: a field, the live words and a perforation edge. -/
def fieldEvents : List Instr := [.fieldStart .field1, .liveRecordWordRead, .perfLineChange false true]

theorem witness_PairLatchCapturesLowWord_twoReads :
    (pointing running 0x30E).port.latch = none ∧
    (pointing running 0x30E).port.pointer.toNat ∈ [0x100, 0x102, 0x11F, 0x302, 0x304, 0x306, 0x308, 0x30B, 0x30E] ∧
    (∀ c ∈ fieldEvents, partEvent c = true) ∧
    ∃ t u v, exec .dataRead (pointing running 0x30E) = .next t ∧ runAll fieldEvents t = .next u ∧
      exec .dataRead u = .next v :=
  ⟨by decide, by decide, by decide, _, _, _, rfl, rfl, rfl⟩

theorem witness_ReleaseIsClampedToWrittenRecords :
    (let s := { running with writer := { running.writer with writeCount := 5, releaseCount := 65535 } }
     (4 + 65536 - s.writer.releaseCount.toNat) % 65536 ≤
       (s.writer.writeCount.toNat + 65536 - s.writer.releaseCount.toNat) % 65536 ∧
     (s.writer.writeCount.toNat + 65536 - s.writer.releaseCount.toNat) % 65536 <
      (6 + 65536 - s.writer.releaseCount.toNat) % 65536) := by decide

/-! #### Film position -/

/-- The edge decoder with B high. -/
def edgeHigh (s : State) : State := { s with position := { s.position with perfB := true } }

/-- A position state. -/
def inState (s : State) (st : PositionState) : State := { s with position := { s.position with state := st } }

theorem witness_PerforationStepIsCounted :
    ¬(running.position.perfA = false ∧ true = false ∧ running.position.perfB ≠ true) ∧
    ((edgeHigh running).position.perfA = false ∧ (edgeHigh running).position.perfB = !false ∧
      running.position.perfB = !true) ∧
    ((4 : Int) * -65536 ≤ (atCount running (4 * -65536 + 1)).position.count - 1 ∧
      (atCount running (4 * 1048575 + 2)).position.count + 1 ≤ 4 * 1048575 + 3) ∧
    ((after (.perfLineChange false true) running).position.stillness ≠ .stopped ∧
      running.position.stillness = .stopped) ∧
    running.position.gauge.perfs = 4 := by decide +kernel

theorem witness_StepAtLimitIsRefused :
    (running.position.perfA = false ∧ running.position.perfB = !true) ∧
    (atCount running (4 * -65536)).position.count = 4 * -65536 ∧
    (atCount (edgeHigh running) (4 * 1048575 + 3)).position.count = 4 * 1048575 + (4 - 1) ∧
    (∃ e, (inState (atCount running (4 * -65536)) (.limit .low)).position.state = .limit e) ∧
    (∀ e, (atCount running (4 * -65536)).position.state ≠ .limit e) ∧ running.position.gauge.perfs = 4 := by
  refine ⟨by decide, rfl, rfl, ⟨.low, rfl⟩, fun e => ?_, rfl⟩
  simp [atCount, running, State.reset]

/-- The difference of a reading, as the statements compute it. -/
def difference (v : BitVec 24) (s : State) : Int := v.toNat - s.setup.edgeBase - s.setup.readerOffset - s.position.frame

theorem witness_FollowModeReading :
    running.setup.edgeMode = .off ∧ suspectPart.setup.edgeMode = .follow ∧
    (inState suspectPart (.limit .high)).position.state = .limit .high ∧
    (inState suspectPart .good).position.state = .good ∧ suspectPart.position.state = .suspect 2 ∧
    (difference 501224 suspectPart).natAbs ≤ suspectPart.setup.edgeTolerance ∧
    (suspectPart.setup.edgeTolerance < (difference 501225 suspectPart).natAbs ∧ difference 501225 suspectPart = 2) ∧
    (suspectPart.setup.edgeTolerance < (difference 501226 suspectPart).natAbs ∧ difference 501226 suspectPart ≠ 2) := by
  decide +kernel

/-- `suspectPart` in WATCH mode, in a position state. -/
def watching (st : PositionState) : State :=
  inState { suspectPart with setup := { suspectPart.setup with edgeMode := .watch } } st

/-- `watching` with SLIP on channel 0, to a DIRECT line and the MARK user, and a pass RECORDING. -/
def slipUsers : State :=
  { withPass (watching .good) recordingPass with
    setup :=
      { (watching .good).setup with
        channelSelection := #v[some .slip, none, none, none, none, none, none, none]
        userSelection := #v[some 0, none, none, none, none, none, none, some 0, none, none, none]
        gpoMode := gpiPart.setup.gpoMode } }

theorem witness_WatchModeReading :
    (watching .good).setup.edgeMode = .watch ∧ (watching (.limit .low)).position.state = .limit .low ∧
    ((watching .good).position.state = .good ∧ (watching .fault).position.state = .fault) ∧
    (difference 501224 (watching .good)).natAbs ≤ (watching .good).setup.edgeTolerance ∧
    ¬(difference 501225 (watching .good)).natAbs ≤ (watching .good).setup.edgeTolerance ∧
    ¬(difference 501225 (watching .fault)).natAbs ≤ (watching .fault).setup.edgeTolerance ∧
    (watching .good).pass.state ≠ .recording ∧
    ((withPass (watching .good) recordingPass).pass.state = .recording ∧ slipUsers.hasRoom 2 ∧
      slipUsers.setup.edgeMode = .watch ∧ slipUsers.position.state = .good ∧ slipUsers.pass.state = .recording) ∧
    (slipUsers.setup.userSelection[(7 : Fin 11)] = some 0 ∧ slipUsers.listens 7 ∧
      slipUsers.setup.channelSelection[(0 : Fin 8)] = some .slip) ∧
    (slipUsers.setup.userSelection[gpoUser 0] = some 0 ∧ slipUsers.setup.gpoMode[(0 : Fin 6)].direct = true) := by
  unfold State.hasRoom State.listens
  decide +kernel

/-- At the low end of the range, at LIMIT. -/
def lowEnd : State := inState (atCount running (4 * -65536)) (.limit .low)

theorem witness_PositionStaysLawful :
    lowEnd.PositionLaw ∧ suspectPart.PositionLaw ∧
    step (queued (.perfLineChange false true) lowEnd) =
      .next (after (.perfLineChange false true) { lowEnd with pending := [] }) := by
  refine ⟨⟨rfl, by unfold inRange; decide, by unfold inRange; decide, ?_, ?_, fun _ => rfl, ?_⟩,
    ⟨rfl, by unfold inRange; decide, by unfold inRange; decide, fun _ _ => rfl, ?_, ?_, ?_⟩, step_after (by decide +kernel)⟩
  · simp [lowEnd, inState]
  · simp [lowEnd, inState]
  · simp [lowEnd, inState]
  all_goals simp [suspectPart]

/-! #### Fields -/

/-- A part whose last identity was field 2 and whose cadence stands at a phase. -/
def phased (phase first : Nat) (good : Nat) : State :=
  { running with
    sequencer :=
      { running.sequencer with
        lastIdentity := some (if phase % 2 = 0 then .field1 else .field2), phase := some phase
        firstFieldFrame := some first, goodCount := good, locked := decide (good = 4) }
    tracker := { running.tracker with lastResolved := some (0, 0) } }

/-- A re-phase falls due, as the statements say it. -/
def dueAt (id : FieldIdentity) (s : State) : Bool :=
  s.sequencer.alignPending || s.sequencer.reference == .lost || s.sequencer.lastIdentity == some id ||
    s.turnInversions.presentsPulse 10

theorem witness_FieldStartPlacesField :
    dueAt .field2 (phased 1 0 0) = true ∧
    (dueAt .field1 running = false ∧ running.sequencer.phase = none) ∧
    (dueAt .field1 (phased 9 0 4) = false ∧ (phased 9 0 4).sequencer.phase = some 9) ∧
    (phased 9 0 4).setup.videoMode = .m60_32 := by decide +kernel

/-- The phase a FIELD_START leaves. -/
def phaseAfter (id : FieldIdentity) (s : State) : Option Nat := (after (.fieldStart id) s).sequencer.phase

theorem witness_FieldStartJudgesLock :
    phaseAfter .field2 running = none ∧
    (phaseAfter .field1 running = some 0 ∧ running.sequencer.firstFieldFrame = none) ∧
    (phaseAfter .field1 (atCount (phased 9 0 3) 4) = some 0 ∧ dueAt .field1 (phased 9 0 3) = false ∧
      (phased 9 0 3).sequencer.firstFieldFrame = some 0 ∧ (atCount (phased 9 0 3) 4).position.frame = 0 + 1 ∧
      (phased 9 0 3).position.frame ≠ 0 + 1) ∧
    (phaseAfter .field1 (phased 1 0 4) = some 2 ∧ (phased 1 0 4).setup.videoMode = .m60_32) ∧
    (phaseAfter .field2 (phased 0 0 4) = some 1 ∧ (phased 0 0 4).sequencer.firstFieldFrame = some 0 ∧
      (phased 0 0 4).position.frame = 0 ∧ (atCount (phased 0 0 4) 4).position.frame ≠ 0) := by decide +kernel

theorem witness_ReferenceExpiryLosesCadence :
    { running.sequencer with timer := .stopped }.timer = .stopped ∧
    (running.sequencer.timer ≠ .stopped ∧ running.engine.read = none ∧ running.port.run ≠ .uninitialised ∧
      running.hasRoom 3) ∧
    ((phased 9 9 4).sequencer.locked = true ∧ (phased 9 9 4).hasRoom 3 ∧ (phased 9 9 4).engine.read = none) ∧
    (withPass running recordingPass).pass.state = .recording := by
  unfold State.hasRoom
  decide +kernel

/-- The sequencer law of a part, checked. -/
theorem phased_law : (phased 9 0 4).SequencerLaw := by
  refine ⟨?_, ?_, ?_, ?_, ?_, ?_⟩ <;> simp [phased, running, State.reset, Setup.default, VideoMode.cycleLength]

theorem witness_SequencerStaysLawful :
    (phased 9 0 4).SequencerLaw ∧
    step (queued (.fieldStart .field1) (phased 9 0 4)) =
      .next (after (.fieldStart .field1) { phased 9 0 4 with pending := [] }) :=
  ⟨phased_law, step_after (by decide +kernel)⟩

/-! #### Scenes -/

theorem running_law : State.SceneListLaw lawful := by
  have h : sceneListLaw running.cue (freeOutside [0]) := law_of_list running_list
  have hl : listed running.cue 0 = true := by decide +kernel
  refine ⟨fun _ => ⟨?_, ?_⟩, fun f h => by simp [lawful, withStack, running, State.reset] at h⟩
  · simpa only [lawful, withStack] using h
  · exact hl

theorem running_position : lawful.PositionLaw := by
  refine ⟨rfl, by unfold inRange; decide, by unfold inRange; decide, ?_, ?_, ?_, ?_⟩ <;>
    simp [lawful, withStack, running, State.reset]

theorem witness_SceneListStaysLawful :
    lawful.PositionLaw ∧ lawful.SceneListLaw ∧
      step (queued .activeStart lawful) = .next (after .activeStart { lawful with pending := [] }) :=
  ⟨running_position, running_law, step_after (by decide +kernel)⟩

theorem witness_EveryFrameHasOneScene :
    sceneListLaw twoScenes.cue (freeOutside [0, 1]) ∧ Memory.wf twoScenes.cue = true ∧
      inRange (-65536) ∧ inRange 1048575 :=
  ⟨law_of_list twoScenes_list, by decide +kernel, by unfold inRange; decide, by unfold inRange; decide⟩

/-- A part with a second scene more, slot 2 at frame 200. -/
def threeScenes : State :=
  withStack
    (withCells twoScenes
      [(0x1021, 2), (0x1040, 1), (0x1041, 0xFFFF), (0x1042, 1), (0x1044, 200), (0x1046, 2), (0x1047, 1)]) [3]

theorem threeScenes_list : isSceneList threeScenes.cue [0, 1, 2] := by
  refine sceneList_of_small (by decide +kernel) (by decide +kernel) ?_ (by decide +kernel)
  simp only [linkedRun, inRange, List.head?]
  decide +kernel

theorem witness_WalkGoesStraightToCoveringScene :
    isSceneList threeScenes.cue [0, 1, 2] ∧ inRange 99 ∧ inRange 200 ∧
      (covers threeScenes.cue 0 99 = true ∧ covers threeScenes.cue 2 200 = true) ∧
      (2 - 0 + (0 - 2) ≤ 2 ∧ 1 < 2 - 0 + (0 - 2) ∧ 1 < 0 - 2 + (2 - 0)) :=
  ⟨threeScenes_list, by unfold inRange; decide, by unfold inRange; decide, by decide +kernel, by decide⟩

/-- `threeScenes` in scene 1's dissolve of four frames. -/
def dissolving : State := atCount (withCells threeScenes [(0x1025, 4)]) 404

/-- `threeScenes` far on, with a WALK LIMIT of one scene. -/
def lagging : State := atCount { threeScenes with setup := { threeScenes.setup with walkLimit := 1 } } 4000

theorem witness_FieldStartResolvesScene :
    (let s := dissolving
     let c := (walk s.cue s.position.frame s.setup.walkLimit s.tracker.current 0).1
     s.port.run = .running ∧ covers s.cue c s.position.frame = true ∧ s.position.frame - sceneStart s.cue c + 1 = 2) ∧
    (let s := threeScenes
     covers s.cue (walk s.cue s.position.frame s.setup.walkLimit s.tracker.current 0).1 s.position.frame = true) ∧
    (let s := lagging
     s.port.run = .running ∧ s.tracker.lagging = false ∧
       covers s.cue (walk s.cue s.position.frame s.setup.walkLimit s.tracker.current 0).1 s.position.frame = false) ∧
    haltedPart.port.run ≠ .running := by decide +kernel

/-! #### The grade computation -/

theorem witness_NearestRounding : 0 < 10 ∧ |(15 : Int) - 10 * 1| = |(15 : Int) - 10 * roundDiv 15 10| := by decide

theorem witness_PixelIsTransformedStageByStage : running.setup.Valid := by unfold Setup.Valid; decide +kernel

/-- A part with a read of the live trim record in progress, ten deltas read. -/
def reading (words : List Word) : State :=
  { running with engine := { running.engine with read := some ⟨words, running.moment⟩ } }

/-- The answers of three fields. -/
def resolvedAnswer : State := after (.fieldStart .field1) dissolving
def plainAnswer : State := after (.fieldStart .field1) threeScenes
def heldAnswer : State := after (.fieldStart .field1) lagging

/-- The same read after a resolved field, with torn reads behind it. -/
def tornReading (words : List Word) (torn : Nat) (stale : Bool) : State :=
  { reading words with
    tracker := plainAnswer.tracker
    engine := { (reading words).engine with tornCount := torn, stale := stale } }

theorem witness_LiveRecordReadWordByWord :
    (reading []).engine.read = some ⟨[], running.moment⟩ ∧ ([] : List Word).length < 12 ∧
    (List.replicate 11 (0 : Word)).length < 12 ∧
    ([0, 1, 0, 0, 0, 0, 0, 0, 0, 0, 0, 0] : List Word) =
      [0, 1] ++ (#v[0, 0, 0, 0, 0, 0, 0, 0, 0, 0] : Vector Word 10).toList ∧
    (0 : Word) = Memory.read (reading []).cue 0x200 ∧ (5 : Word) ≠ Memory.read (reading []).cue 0x200 ∧
    (let s := tornReading (5 :: List.replicate 11 0) 7 false
     s.hasRoom 1 ∧ s.engine.stale = false ∧ (after .liveRecordWordRead s).engine.stale = true) ∧
    (let s := tornReading (0 :: 1 :: List.replicate 10 0) 9 true
     s.hasRoom 1 ∧ s.engine.stale = true ∧ (after .liveRecordWordRead s).engine.stale = false ∧
       s.tracker.latest.map (fun r => r.outcome) = some .resolved) := by
  unfold State.hasRoom
  decide +kernel

/-- TRIM HOLD on a channel that carries GPI0, high. -/
def trimHeld : State :=
  { running with
    setup :=
      { running.setup with
        channelSelection := #v[some .gpi0, none, none, none, none, none, none, none]
        userSelection := #v[none, none, none, none, none, none, none, none, some 0, none, none] }
    matrix := { running.matrix with gpi := #v[true, false, false, false] } }

theorem witness_FieldStartReadsLiveTrim :
    running.port.run = .running ∧ running.engine.read = none ∧ trimHeld.engine.read = none ∧
    trimHeld.turnInversions.presentedValue 8 = true ∧
    (running.turnInversions.presentedValue 8 = false ∧ (after (.fieldStart .field1) running).pass.state ≠ .recording) ∧
    (let s := withPass (phased 0 10 4) recordingPass
     s.setup.freezeTrimInRecord = true ∧ (after (.fieldStart .field2) (atCount s 40)).pass.state = .recording) := by
  decide +kernel

theorem witness_CoefficientsFollowResolution :
    (∃ r, heldAnswer.tracker.latest = some r ∧ r.outcome = .held) ∧
    (∃ r, resolvedAnswer.tracker.latest = some r ∧ r.outcome = .resolved ∧ r.dissolving = true ∧ r.n = 2) ∧
    (∃ r, plainAnswer.tracker.latest = some r ∧ r.outcome = .resolved ∧ r.dissolving = false) ∧
    resolvedAnswer.engine.enable = false ∧
    { resolvedAnswer with engine := { resolvedAnswer.engine with enable := true } }.engine.enable = true ∧
    (paramInRange 3 4095 ∧ |(4096 : Int) - clampParam 3 4096| = |(4096 : Int) - 4095|) ∧ paramInRange 9 511 := by
  refine ⟨⟨_, rfl, rfl⟩, ⟨_, rfl, rfl, rfl, rfl⟩, ⟨_, rfl, rfl, rfl⟩, by decide +kernel, rfl, ⟨?_, by decide⟩, ?_⟩ <;>
    simp [paramInRange]

/-- Every slot of `running` but the base scene's reads 0. -/
theorem running_slot {x : Slot} (hx : x ≠ 0) (k : Nat) : slotWordAt running.cue x k = 0 := by
  refine read_past fun c hc => ?_
  have hb : ∀ c ∈ running.cue, c.1 < 0x1020 := by decide +kernel
  have := hb c hc
  have : x.val ≠ 0 := fun h => hx (Fin.ext h)
  simp only [slotBase, sceneBase]
  omega

theorem running_grades : lawful.GradeLaw := by
  refine ⟨?_, fun _ x => ?_, ?_, ?_⟩
  · simp only [gradeInRange, paramInRange]; decide +kernel
  · by_cases hx : x = 0
    · subst hx
      simp only [gradeInRange, paramInRange]; decide +kernel
    · have h : ∀ k, slotWordAt lawful.cue x k = 0 := running_slot hx
      refine ⟨fun k => ?_, by simp [sceneDissolve, h]⟩
      have : (sceneGrade lawful.cue x)[k] = 0 := by simp [sceneGrade, h]
      rw [this]
      unfold paramInRange
      split <;> first | omega | split <;> omega
  · simp [lawful, withStack, running, State.reset]
  · simp [lawful, withStack, running]

theorem witness_GradesStayInRange :
    lawful.GradeLaw ∧
      step (queued (.fieldStart .field1) lawful) = .next (after (.fieldStart .field1) { lawful with pending := [] }) :=
  ⟨running_grades, step_after (by decide +kernel)⟩

/-! #### Requests -/

/-- A list stands where the scene table does. -/
theorem linkedRun_agrees {m m' : Memory} (h : ∀ a, 0x1000 ≤ a → Memory.read m' a = Memory.read m a) :
    ∀ l : List Slot, linkedRun m l → linkedRun m' l
  | [], _ => trivial
  | [x], hx => by
    simp only [linkedRun, slotWordAt] at hx ⊢
    rw [h _ (by simp only [slotBase, sceneBase]; omega)]
    exact hx
  | x :: y :: rest, hx => by
    simp only [linkedRun, slotWordAt, sceneStart, Memory.readPair] at hx ⊢
    obtain ⟨h1, h2, h3, h4⟩ := hx
    refine ⟨?_, ?_, ?_, linkedRun_agrees h _ h4⟩
    · rw [h _ (by simp only [slotBase, sceneBase]; omega)]; exact h1
    · rw [h _ (by simp only [slotBase, sceneBase]; omega)]; exact h2
    · rw [h _ (by simp only [slotBase, sceneBase]; omega), h _ (by simp only [slotBase, sceneBase]; omega),
        h _ (by simp only [slotBase, sceneBase]; omega), h _ (by simp only [slotBase, sceneBase]; omega)]
      exact h3

theorem isSceneList_agrees {m m' : Memory} {l : List Slot}
    (h : ∀ a, 0x1000 ≤ a → Memory.read m' a = Memory.read m a) (hl : isSceneList m l) : isSceneList m' l := by
  have hw : ∀ (x : Slot) (k : Nat), slotWordAt m' x k = slotWordAt m x k := fun x k =>
    h _ (by simp only [slotBase, sceneBase]; omega)
  have hs : ∀ x : Slot, sceneStart m' x = sceneStart m x := fun x => by
    simp only [sceneStart, Memory.readPair]
    rw [h _ (by simp only [slotBase, sceneBase]; omega), h _ (by simp only [slotBase, sceneBase]; omega)]
  obtain ⟨h1, h2, h3, h4, h5, h6, h7, h8⟩ := hl
  exact ⟨h1, by rw [hw, h2], by rw [hs, h3], linkedRun_agrees h l h4, h5, fun x => by rw [hw, h6], fun x hx => by
    rw [hs]; exact h7 x hx, by rw [sceneDissolve, hw]; exact h8⟩

/-- Words of an entry posted leave the scene list as it stands. -/
theorem posted_list {s : State} {kind : Word} {words : List (Nat × Word)} {l : List Slot}
    (hw : ∀ w ∈ words, w.1 < 0xC00) (hl : isSceneList s.cue l) : isSceneList (posted s kind words).cue l := by
  refine isSceneList_agrees (fun a ha => Memory.read_writeAll_other _ _ a fun c hc => ?_) hl
  simp only [List.cons_append, List.nil_append, List.mem_cons, List.mem_map] at hc
  obtain rfl | rfl | ⟨w, hm, rfl⟩ := hc
  · simp; omega
  · simp; omega
  · have := hw w hm; simp; omega

/-- The slots listed are those of the list. -/
theorem mem_of_listed {m : Memory} {l : List Slot} (h : isSceneList m l) {x : Slot} (hx : listed m x = true) : x ∈ l := by
  have := h.2.2.2.2.2.1 x
  simp only [listed, beq_iff_eq] at hx
  by_contra hn
  rw [if_neg hn, hx] at this
  exact absurd this (by decide)

theorem one_request {s : State} {i : Fin 32} {kind : Nat}
    (h : (s.port.run = .running ∧ s.sequencer.activeStartTaken = false ∧ s.engine.read = none ∧
      s.requests.splitPending = none) ∧ (s.requests.ripple = none ∧ s.requests.notifyDue = false ∧
      s.requests.takeIndex = i ∧ entryWord s.cue i 0 = 1 ∧ (entryWord s.cue i 1).toNat = kind ∧
      entryWord s.cue (i + 1) 0 ≠ 1)) : s.OneRequest i kind := by
  obtain ⟨⟨h1, h2, h3, h4⟩, h5, h6, h7, h8, h9, h10⟩ := h
  exact ⟨h1, h2, h3, h4, h5, h6, h7, h8, h9, h10⟩

/-- A ripple in flight at entry 0, its next scene 2 the end slot. -/
def ripplePart (words : List (Nat × Word)) : State :=
  let s := withCells threeScenes ([(0x400, 2), (0x401, 7)] ++ words)
  { s with
    sequencer := { s.sequencer with activeStartTaken := false }
    requests :=
      { s.requests with
        takeIndex := 1, rippleCounter := 1
        ripple :=
          some
            { entry := 0, number := 1, next := 2, last := 2, step := 1, mask := fullMask, deltas := grade [1], done := 2
              clamped := 0 } } }

theorem witness_ActiveStartTakesAtMostFourEntries :
    State.reset.sequencer.activeStartTaken = true ∧
    (let s := { haltedPart with sequencer := { haltedPart.sequencer with activeStartTaken := false } }
     s.engine.read = none ∧ s.port.run ≠ .running) ∧
    (let s := { running with sequencer := { running.sequencer with activeStartTaken := false } }
     s.port.run = .running ∧ s.sequencer.activeStartTaken = false ∧ s.engine.read = none ∧
       s.requests.splitPending = none ∧ s.requests.ripple = none ∧ s.requests.notifyDue = false ∧
       entryWord s.cue s.requests.takeIndex 0 ≠ 1) ∧
    (let s := ripplePart [(0x440, 1), (0x441, 9)]
     s.engine.read = none ∧ (∃ r, s.requests.ripple = some r) ∧ (entryWord s.cue s.requests.takeIndex 1).toNat = 9 ∧
       (entryWord s.cue 2 0 ≠ 1 ∧ ∀ r, s.requests.ripple = some r → r.entry ≠ 2)) := by
  refine ⟨by decide +kernel, by decide +kernel, by decide +kernel, rfl, ⟨_, rfl⟩, by decide +kernel, by decide +kernel,
    fun r h => ?_⟩
  simp only [ripplePart, Option.some.injEq] at h
  subst h
  decide

/-- LOCATE requests from an entry on, with their hints. -/
def locating (first : Nat) (hints : List Slot) : State :=
  withCells
    { twoScenes with
      sequencer := { twoScenes.sequencer with activeStartTaken := false }
      requests := { twoScenes.requests with takeIndex := Fin.ofNat 32 first } }
    (hints.zipIdx.flatMap fun h =>
      let e := entryBase (Fin.ofNat 32 (first + h.2))
      [(e, 1), (e + 1, 0x10), (e + 8, natWord h.1.val)])

theorem locating_entries {first : Nat} {hints : List Slot}
    (h : ∀ n : Fin 4,
      (hints[n.val]?).all fun x =>
        let e := (locating first hints).requests.takeIndex + Fin.ofNat 32 n.val
        entryWord (locating first hints).cue e 0 = 1 ∧ entryWord (locating first hints).cue e 1 = 0x10 ∧
          entryWord (locating first hints).cue e 8 = natWord x.val ∧ listed (locating first hints).cue x = true)
    (hl : hints.length ≤ 4) (n : Nat) (x : Slot) (hx : hints[n]? = some x) :
    let e := (locating first hints).requests.takeIndex + Fin.ofNat 32 n
    entryWord (locating first hints).cue e 0 = 1 ∧ entryWord (locating first hints).cue e 1 = 0x10 ∧
      entryWord (locating first hints).cue e 8 = natWord x.val ∧ listed (locating first hints).cue x = true := by
  obtain ⟨hn, -⟩ := List.getElem?_eq_some_iff.mp hx
  have := h ⟨n, by omega⟩
  rw [hx] at this
  simpa using this

theorem witness_ScanTakesPostedEntriesInOrder :
    (let s := locating 31 [1, 0]
     (s.port.run = .running ∧ s.sequencer.activeStartTaken = false ∧ s.engine.read = none ∧
       s.requests.splitPending = none ∧ s.requests.ripple = none ∧ s.requests.notifyDue = false) ∧
     (∀ (n : Nat) (x : Slot), [(1 : Slot), 0][n]? = some x →
       let e := s.requests.takeIndex + Fin.ofNat 32 n
       entryWord s.cue e 0 = 1 ∧ entryWord s.cue e 1 = 0x10 ∧ entryWord s.cue e 8 = natWord x.val ∧
         listed s.cue x = true) ∧
     entryWord s.cue (s.requests.takeIndex + Fin.ofNat 32 2) 0 ≠ 1) ∧
    (let s := locating 0 [0, 1, 0, 1]
     (s.port.run = .running ∧ s.sequencer.activeStartTaken = false ∧ s.engine.read = none ∧
       s.requests.splitPending = none ∧ s.requests.ripple = none ∧ s.requests.notifyDue = false) ∧
     ∀ (n : Nat) (x : Slot), [(0 : Slot), 1, 0, 1][n]? = some x →
       let e := s.requests.takeIndex + Fin.ofNat 32 n
       entryWord s.cue e 0 = 1 ∧ entryWord s.cue e 1 = 0x10 ∧ entryWord s.cue e 8 = natWord x.val ∧
         listed s.cue x = true) :=
  ⟨⟨by decide +kernel, locating_entries (by decide +kernel) (by decide), by decide +kernel⟩, by decide +kernel,
    locating_entries (by decide +kernel) (by decide)⟩

/-- A part whose RECORDING pass runs in a scene, scene 1 unless another is named. -/
def onAir (s : State) (slot : Slot := 1) : State :=
  { withPass s recordingPass with tracker := { s.tracker with lastResolved := some (slot, 1) } }

/-- A position before the on-air scene is free. -/
theorem onAir_freeToPlace {s : State} {slot : Slot} {p : Int} (h : ¬sceneStart s.cue slot < p) :
    (onAir s slot).freeToPlace p := by
  intro _ a serial ha _ hp
  simp only [onAir, withPass, Option.some.injEq, Prod.mk.injEq] at ha
  obtain ⟨rfl, -⟩ := ha
  exact absurd hp h

/-- `twoScenes` with every other slot free, slot 2 on top. -/
def twoFull : State := withStack twoScenes (2 :: freeOutside [2, 0, 1])

theorem two_law {kind : Word} {words : List (Nat × Word)} (hw : ∀ w ∈ words, w.1 < 0xC00) :
    sceneListLaw (posted twoFull kind words).cue (2 :: freeOutside [2, 0, 1]) :=
  law_of_list_cons (l := [0, 1]) (posted_list (s := twoFull) hw twoScenes_list) (by decide)

/-- An INSERT SCENE at frame 50. -/
def inserting : State := posted twoFull 1 [(11, 50), (16, 1)]

theorem witness_InsertSceneLinksNewScene :
    inserting.OneRequest 0 0x01 ∧ inserting.requests.freeStack = 2 :: freeOutside [2, 0, 1] ∧
    sceneListLaw inserting.cue (2 :: freeOutside [2, 0, 1]) ∧ inRange (operandPosition inserting.cue 0) ∧
    (∀ y : Slot, listed inserting.cue y = true → sceneStart inserting.cue y ≠ operandPosition inserting.cue 0) ∧
    inserting.freeToPlace (operandPosition inserting.cue 0) ∧
    ((onAir inserting).pass.state = .recording ∧ (onAir inserting).freeToPlace (operandPosition inserting.cue 0)) := by
  refine ⟨one_request (by decide +kernel), rfl,
    two_law (words := [(11, 50), (16, 1)]) (by decide), ?_, fun y hy => ?_, fun h => ?_, rfl, ?_⟩
  · unfold inRange; decide +kernel
  · have := mem_of_listed (posted_list (by decide) twoScenes_list) hy
    revert y; decide +kernel
  · simp [inserting, posted, withCells, twoFull, withStack, twoScenes, running, State.reset, Pass.initial] at h
  · exact onAir_freeToPlace (by decide +kernel)

theorem witness_RequestsAreRefusedInOrder :
    ((posted twoScenes 25 []).OneRequest 0 25 ∧ (posted twoScenes 0xFFFF []).OneRequest 0 0xFFFF ∧
      (posted twoScenes 15 []).OneRequest 0 15) ∧
    ((posted twoScenes 1 [(10, 0x10)]).OneRequest 0 1 ∧
      ¬inRange (operandPosition (posted twoScenes 1 [(10, 0x10)]).cue 0)) ∧
    (let s := posted twoScenes 1 [(11, 100)]
     s.OneRequest 0 1 ∧ inRange (operandPosition s.cue 0) ∧ isSceneList s.cue [0, 1] ∧ listed s.cue 1 = true ∧
       sceneStart s.cue 1 = operandPosition s.cue 0) ∧
    (let s := withStack (posted twoScenes 1 [(11, 99)]) []
     s.OneRequest 0 1 ∧ inRange (operandPosition s.cue 0) ∧ isSceneList s.cue [0, 1] ∧
       (∀ y : Slot, listed s.cue y = true → sceneStart s.cue y ≠ operandPosition s.cue 0) ∧
       s.freeToPlace (operandPosition s.cue 0) ∧ s.requests.freeStack = []) ∧
    ((posted twoScenes 2 [(8, 5)]).OneRequest 0 2 ∧
      ∀ x : Slot, x ≠ 0 → entryWord (posted twoScenes 2 [(8, 5)]).cue 0 8 = natWord x.val →
        listed (posted twoScenes 2 [(8, 5)]).cue x = false) ∧
    ((posted twoScenes 6 [(8, 0x400)]).OneRequest 0 6 ∧
      ∀ x : Slot, entryWord (posted twoScenes 6 [(8, 0x400)]).cue 0 8 ≠ natWord x.val) ∧
    (let s := onAir (posted threeScenes 4 [(8, 1)])
     s.OneRequest 0 4 ∧ entryWord s.cue 0 8 = natWord (1 : Slot).val ∧ listed s.cue 1 = true ∧
       s.pass.state = .recording ∧ s.tracker.lastResolved = some (1, 1)) ∧
    (let s := onAir (posted threeScenes 2 [(8, 2)])
     s.OneRequest 0 2 ∧ entryWord s.cue 0 8 = natWord (2 : Slot).val ∧ listed s.cue 2 = true ∧
       sceneNext s.cue 1 = some 2) ∧
    (posted twoScenes 0x18 []).OneRequest 0 0x18 := by
  refine ⟨⟨one_request (by decide +kernel), one_request (by decide +kernel), one_request (by decide +kernel)⟩,
    ⟨one_request (by decide +kernel), by unfold inRange; decide +kernel⟩,
    ⟨one_request (by decide +kernel), by unfold inRange; decide +kernel, posted_list (by decide) twoScenes_list,
      by decide +kernel, by decide +kernel⟩,
    ⟨one_request (by decide +kernel), by unfold inRange; decide +kernel, posted_list (by decide) twoScenes_list,
      fun y hy => ?_, fun h => ?_, rfl⟩,
    ⟨one_request (by decide +kernel), fun x hx he => ?_⟩,
    ⟨one_request (by decide +kernel), by decide +kernel⟩,
    ⟨one_request (by decide +kernel), by decide +kernel, by decide +kernel, rfl, rfl⟩,
    ⟨one_request (by decide +kernel), by decide +kernel, by decide +kernel, by decide +kernel⟩,
    one_request (by decide +kernel)⟩
  · have := mem_of_listed (posted_list (by decide) twoScenes_list) hy
    revert y; decide +kernel
  · simp [withStack, posted, withCells, twoScenes, running, State.reset, Pass.initial] at h
  · cases hc : listed (posted twoScenes 2 [(8, 5)]).cue x
    · rfl
    · have hm := mem_of_listed (posted_list (by decide) twoScenes_list) hc
      clear hc
      exfalso
      revert x; decide +kernel

/-- The ON_AIR refusals of an INSERT and a MOVE, the base scene on air among them. -/
theorem witness_RequestsAreRefusedInOrder_onAir :
    (let s := onAir (posted threeScenes 1 [(11, 199)])
     s.OneRequest 0 1 ∧ inRange (operandPosition s.cue 0) ∧ isSceneList s.cue [0, 1, 2] ∧
       (∀ y : Slot, listed s.cue y = true → sceneStart s.cue y ≠ operandPosition s.cue 0) ∧
       (s.pass.state = .recording ∧ s.tracker.lastResolved = some (1, 1)) ∧
       (listed s.cue 1 = true ∧ sceneStart s.cue 1 < operandPosition s.cue 0 ∧ sceneNext s.cue 1 = some 2 ∧
         operandPosition s.cue 0 < sceneStart s.cue 2)) ∧
    (let s := onAir (posted threeScenes 4 [(8, 1)]) 0
     s.OneRequest 0 4 ∧ entryWord s.cue 0 8 = natWord (1 : Slot).val ∧ listed s.cue 1 = true ∧
       (s.pass.state = .recording ∧ s.tracker.lastResolved = some (0, 1)) ∧
       (listed s.cue 0 = true ∧ sceneNext s.cue 0 = some 1)) ∧
    (let s := onAir (posted threeScenes 3 [(8, 2), (11, 201)])
     s.OneRequest 0 3 ∧ isSceneList s.cue [0, 1, 2] ∧ entryWord s.cue 0 8 = natWord (2 : Slot).val ∧
       listed s.cue 2 = true ∧ inRange (operandPosition s.cue 0) ∧
       (∀ y : Slot, listed s.cue y = true → y ≠ 2 → sceneStart s.cue y ≠ operandPosition s.cue 0) ∧
       (s.pass.state = .recording ∧ s.tracker.lastResolved = some (1, 1)) ∧
       (listed s.cue 1 = true ∧ sceneNext s.cue 1 = some 2)) := by
  refine ⟨⟨one_request (by decide +kernel), by unfold inRange; decide +kernel, posted_list (by decide) threeScenes_list,
      fun y hy => ?_, by decide +kernel, by decide +kernel⟩,
    ⟨one_request (by decide +kernel), by decide +kernel, by decide +kernel, by decide +kernel, by decide +kernel⟩,
    ⟨one_request (by decide +kernel), posted_list (by decide) threeScenes_list, by decide +kernel, by decide +kernel,
      by unfold inRange; decide +kernel, fun y hy _ => ?_, by decide +kernel, by decide +kernel⟩⟩
  · have := mem_of_listed (posted_list (by decide) threeScenes_list) hy
    clear hy
    revert y; decide +kernel
  · have := mem_of_listed (posted_list (by decide) threeScenes_list) hy
    clear hy
    revert y; decide +kernel

/-- The refusals of a MOVE by position and of a RIPPLE by its ends and by the scene on air. -/
theorem witness_RequestsAreRefusedInOrder_runs :
    (let s := posted twoScenes 3 [(8, 1), (10, 0x10)]
     s.OneRequest 0 3 ∧ isSceneList s.cue [0, 1] ∧ entryWord s.cue 0 8 = natWord (1 : Slot).val ∧
       listed s.cue 1 = true ∧ ¬inRange (operandPosition s.cue 0)) ∧
    (let s := posted threeScenes 3 [(8, 1), (11, 200)]
     s.OneRequest 0 3 ∧ entryWord s.cue 0 8 = natWord (1 : Slot).val ∧ inRange (operandPosition s.cue 0) ∧
       listed s.cue 2 = true ∧ sceneStart s.cue 2 = operandPosition s.cue 0) ∧
    (let s := posted threeScenes 7 [(8, 0x400), (9, 1)]
     s.OneRequest 0 7 ∧ ∀ x : Slot, entryWord s.cue 0 8 ≠ natWord x.val) ∧
    (let s := posted threeScenes 7 [(8, 2), (9, 1)]
     s.OneRequest 0 7 ∧ isSceneList s.cue [0, 1, 2] ∧ entryWord s.cue 0 8 = natWord (2 : Slot).val ∧
       entryWord s.cue 0 9 = natWord (1 : Slot).val) ∧
    (let s := onAir (posted threeScenes 7 [(8, 2), (9, 2)])
     s.OneRequest 0 7 ∧ isSceneList s.cue [0, 1, 2] ∧ entryWord s.cue 0 8 = natWord (2 : Slot).val ∧
       entryWord s.cue 0 9 = natWord (2 : Slot).val ∧
       (s.pass.state = .recording ∧ s.tracker.lastResolved = some (1, 1)) ∧
       (listed s.cue 1 = true ∧ sceneNext s.cue 1 = some 2)) :=
  ⟨⟨one_request (by decide +kernel), posted_list (by decide) twoScenes_list, by decide +kernel, by decide +kernel,
      by unfold inRange; decide +kernel⟩,
    ⟨one_request (by decide +kernel), by decide +kernel, by unfold inRange; decide +kernel, by decide +kernel,
      by decide +kernel⟩,
    ⟨one_request (by decide +kernel), by decide +kernel⟩,
    ⟨one_request (by decide +kernel), posted_list (by decide) threeScenes_list, by decide +kernel, by decide +kernel⟩,
    ⟨one_request (by decide +kernel), posted_list (by decide) threeScenes_list, by decide +kernel, by decide +kernel,
      by decide +kernel, by decide +kernel⟩⟩

/-- A DELETE SCENE of scene 1, from the scene itself. -/
def deleting : State :=
  { posted (withStack twoScenes (freeOutside [0, 1])) 2 [(8, 1)] with tracker := { running.tracker with current := 1 } }

theorem deleting_law : sceneListLaw deleting.cue deleting.requests.freeStack := by
  have h := law_of_list (posted_list (s := withStack twoScenes (freeOutside [0, 1])) (kind := 2) (words := [(8, 1)])
    (by decide) twoScenes_list)
  exact h

theorem witness_DeleteSceneFreesSlot :
    deleting.OneRequest 0 0x02 ∧ sceneListLaw deleting.cue deleting.requests.freeStack ∧
      entryWord deleting.cue 0 8 = natWord (1 : Slot).val ∧ (1 : Slot) ≠ 0 ∧ listed deleting.cue 1 = true ∧
      deleting.freeToEdit 1 :=
  ⟨one_request (by decide +kernel), deleting_law, by decide +kernel, by decide, by decide +kernel, fun h => by
    simp [deleting, posted, withCells, withStack, twoScenes, running, State.reset, Pass.initial] at h⟩

/-- A MOVE SCENE of scene 1 to frame 300, from the scene itself and from the base scene. -/
def moving (current : Slot) : State :=
  { posted (withStack twoScenes (freeOutside [0, 1])) 3 [(8, 1), (11, 300)] with
    tracker := { running.tracker with current := current } }

theorem moving_law (current : Slot) : sceneListLaw (moving current).cue (moving current).requests.freeStack := by
  have h := law_of_list (posted_list (s := withStack twoScenes (freeOutside [0, 1])) (kind := 3)
    (words := [(8, 1), (11, 300)]) (by decide) twoScenes_list)
  exact h

theorem witness_MoveSceneRelinksScene :
    ((moving 1).OneRequest 0 0x03 ∧ (moving 0).OneRequest 0 0x03 ∧
      sceneListLaw (moving 1).cue (moving 1).requests.freeStack) ∧
    (entryWord (moving 1).cue 0 8 = natWord (1 : Slot).val ∧ (1 : Slot) ≠ 0 ∧ listed (moving 1).cue 1 = true ∧
      inRange (operandPosition (moving 1).cue 0)) ∧
    (∀ y : Slot, listed (moving 1).cue y = true → y ≠ 1 →
      sceneStart (moving 1).cue y ≠ operandPosition (moving 1).cue 0) ∧
    ((moving 1).freeToEdit 1 ∧ (moving 1).freeToPlace (operandPosition (moving 1).cue 0)) ∧
    (let s := onAir (posted threeScenes 3 [(8, 2), (11, 50)]) 0
     s.pass.state = .recording ∧ s.freeToEdit 2) ∧
    ((moving 1).tracker.current = 1 ∧ scenePrev (moving 1).cue 1 = some 0 ∧ (moving 0).tracker.current ≠ 1) := by
  refine ⟨⟨one_request (by decide +kernel), one_request (by decide +kernel), moving_law 1⟩,
    ⟨by decide +kernel, by decide, by decide +kernel, by unfold inRange; decide +kernel⟩, fun y hy _ => ?_,
    ⟨fun h => ?_, fun h => ?_⟩, ⟨rfl, fun _ => by decide +kernel⟩, rfl, by decide +kernel, by decide⟩
  · have := mem_of_listed (posted_list (s := withStack twoScenes (freeOutside [0, 1])) (kind := 3)
      (words := [(8, 1), (11, 300)]) (by decide) twoScenes_list) hy
    clear hy
    revert y; decide +kernel
  all_goals simp [moving, posted, withStack, withCells, twoScenes, running, State.reset, Pass.initial] at h

theorem witness_EditsInPlaceWriteTheirFields :
    (let s := posted twoScenes 4 [(8, 0), (15, 0x201), (19, 0x7FFF)]
     s.OneRequest 0 0x04 ∧ entryWord s.cue 0 8 = natWord (0 : Slot).val ∧ listed s.cue 0 = true ∧ s.freeToEdit 0) ∧
    (let s := posted twoScenes 5 [(8, 1), (14, 251)]
     s.OneRequest 0 0x05 ∧ entryWord s.cue 0 8 = natWord (1 : Slot).val ∧ listed s.cue 1 = true ∧ s.freeToEdit 1) ∧
    (let s := onAir (posted threeScenes 6 [(8, 0)])
     s.OneRequest 0 0x06 ∧ listed s.cue 0 = true ∧ s.onAirHolds 2 = true) ∧
    ∀ k : Fin 10, (entryWord (posted twoScenes 4 [(8, 0)]).cue 0 15).getLsbD k.val = false := by
  refine ⟨⟨one_request (by decide +kernel), by decide +kernel, by decide +kernel, fun h => ?_⟩,
    ⟨one_request (by decide +kernel), by decide +kernel, by decide +kernel, fun h => ?_⟩,
    ⟨one_request (by decide +kernel), by decide +kernel, by decide +kernel⟩, by decide +kernel⟩ <;>
    simp [posted, withCells, twoScenes, running, State.reset, Pass.initial] at h

theorem witness_ClearListLeavesBaseScene :
    (posted threeScenes 8 []).OneRequest 0 0x08 ∧ isSceneList (posted threeScenes 8 []).cue [0, 1, 2] ∧
    (posted threeScenes 8 []).pass.state = .idle ∧
    (onAir (posted threeScenes 8 [])).OneRequest 0 0x08 ∧ (onAir (posted threeScenes 8 [])).pass.state = .recording :=
  ⟨one_request (by decide +kernel), posted_list (by decide) threeScenes_list, rfl, one_request (by decide +kernel), rfl⟩

/-- An APPLY SET-UP with a valid block, and with word 41 spoilt. -/
def applying : State := posted (withCells running defaultBlock) 9 []
def applyingSpoilt : State := posted (withCells running (defaultBlock ++ [(41, 4)])) 9 []

theorem applying_reads (o : Nat) (ho : o < 42) : Memory.read applying.cue o = Memory.read readyPart.cue o := by
  revert o; decide +kernel

theorem spoilt_reads (o : Nat) (ho : o < 42) : Memory.read applyingSpoilt.cue o = Memory.read spoiltPart.cue o := by
  revert o; decide +kernel

theorem witness_ApplySetupTakesValidBlock :
    (applying.OneRequest 0 0x09 ∧ applying.pass.state = .idle ∧ validSetupBlock applying.cue ∧
      (after .activeStart applying).setup.gauge = applying.position.gauge) ∧
    (withPass applying recordingPass).pass.state = .recording ∧
    (applyingSpoilt.OneRequest 0 0x09 ∧
      ¬validSetupWord 41 (Memory.read applyingSpoilt.cue 41) (Memory.read applyingSpoilt.cue 10) ∧
      ∀ p, p < 41 → validSetupWord p (Memory.read applyingSpoilt.cue p) (Memory.read applyingSpoilt.cue 10)) := by
  refine ⟨⟨one_request (by decide +kernel), rfl, fun o ho => ?_, by decide +kernel⟩, rfl,
    one_request (by decide +kernel), ?_, fun p hp => ?_⟩
  · rw [applying_reads o ho, applying_reads 10 (by decide)]
    exact readyPart_valid o ho
  · rw [spoilt_reads 41 (by decide), spoilt_reads 10 (by decide)]
    exact witness_RunStartRefusesOffendingBlock.2.2.2.1
  · rw [spoilt_reads p (by omega), spoilt_reads 10 (by decide)]
    exact witness_RunStartRefusesOffendingBlock.2.2.2.2 p hp

theorem witness_ImmediateRequestsReachTheirBlocks :
    ((posted twoScenes 0x10 [(8, 1)]).OneRequest 0 0x10 ∧
      entryWord (posted twoScenes 0x10 [(8, 1)]).cue 0 8 = natWord (1 : Slot).val ∧
      listed (posted twoScenes 0x10 [(8, 1)]).cue 1 = true) ∧
    ((posted twoScenes 0x10 [(8, 0x400)]).OneRequest 0 0x10 ∧
      ∀ x : Slot, entryWord (posted twoScenes 0x10 [(8, 0x400)]).cue 0 8 ≠ natWord x.val) ∧
    (posted twoScenes 0x16 []).OneRequest 0 0x16 ∧ (posted twoScenes 0x11 [(33, 0x181)]).OneRequest 0 0x11 := by
  refine ⟨⟨one_request (by decide +kernel), by decide +kernel, by decide +kernel⟩,
    ⟨one_request (by decide +kernel), by decide +kernel⟩, one_request (by decide +kernel), one_request (by decide +kernel)⟩

theorem witness_ProbeWritesTransformedPixel :
    ((posted twoScenes 0x17 [(29, 1024)]).OneRequest 0 0x17 ∧
      entryWord (posted twoScenes 0x17 [(29, 1024)]).cue 0 32 = 0 ∧
      1023 < (entryWord (posted twoScenes 0x17 [(29, 1024)]).cue 0 29).toInt) ∧
    (let s := posted twoScenes 0x17 [(8, 1), (32, 1), (29, 1023)]
     s.OneRequest 0 0x17 ∧ entryWord s.cue 0 32 = 1 ∧ entryWord s.cue 0 8 = natWord (1 : Slot).val ∧
       listed s.cue 1 = true ∧
       ∀ k, k < 3 → 0 ≤ (entryWord s.cue 0 (29 + k)).toInt ∧ (entryWord s.cue 0 (29 + k)).toInt ≤ 1023) ∧
    (let s := posted twoScenes 0x17 [(8, 0x400), (32, 1)]
     s.OneRequest 0 0x17 ∧ entryWord s.cue 0 32 = 1 ∧ ∀ x : Slot, entryWord s.cue 0 8 ≠ natWord x.val) ∧
    ((posted twoScenes 0x17 [(32, 2)]).OneRequest 0 0x17 ∧
      entryWord (posted twoScenes 0x17 [(32, 2)]).cue 0 32 ≠ 0 ∧
      entryWord (posted twoScenes 0x17 [(32, 2)]).cue 0 32 ≠ 1) := by
  refine ⟨⟨one_request (by decide +kernel), by decide +kernel, by decide +kernel⟩,
    ⟨one_request (by decide +kernel), by decide +kernel, by decide +kernel, by decide +kernel, by decide +kernel⟩,
    ⟨one_request (by decide +kernel), by decide +kernel, by decide +kernel⟩,
    one_request (by decide +kernel), by decide +kernel, by decide +kernel⟩

theorem witness_OnlyRippleEntryIsTaken :
    (ripplePart []).RequestLaw ∧
      step (queued .activeStart (ripplePart [])) = .next (after .activeStart { ripplePart [] with pending := [] }) := by
  refine ⟨⟨fun _ => ?_, ?_, ?_, rfl⟩, step_after (by decide +kernel)⟩
  · have h : ∀ i : Fin 32, entryWord (ripplePart []).cue i 0 = 2 ↔ i = 0 := by decide +kernel
    intro i
    rw [h i]
    constructor
    · rintro rfl; exact ⟨_, rfl, rfl⟩
    · rintro ⟨r, hr, he⟩
      simp only [ripplePart, Option.some.injEq] at hr
      subst hr
      exact he.symm
  · simp [ripplePart, threeScenes, withStack, withCells, twoScenes, running]
  · simp [ripplePart, threeScenes, withStack, withCells, twoScenes, running, State.reset]

/-! #### Ripple and split -/

/-- `threeScenes` with scene 1 marked 1. -/
def markedScenes : State := withCells threeScenes [(0x1028, 1)]

/-- A RIPPLE over scenes 0 to 2, scene 1 marked with the number it takes. -/
def rippling (step : Nat) : State :=
  posted { markedScenes with setup := { markedScenes.setup with rippleStep := step } } 7
    [(8, 0), (9, 2), (15, 0x3FF), (19, 5)]

theorem rippling_list (step : Nat) : isSceneList (rippling step).cue [0, 1, 2] := by
  refine posted_list (by decide) ?_
  change isSceneList markedScenes.cue [0, 1, 2]
  refine sceneList_of_small (by decide +kernel) (by decide +kernel) ?_ (by decide +kernel)
  simp only [linkedRun, inRange, List.head?]
  decide +kernel

theorem witness_RippleAppliesDeltasOnce :
    (rippling 2).OneRequest 0 0x07 ∧ isSceneList (rippling 2).cue [0, 1, 2] ∧
    (rippling 3).OneRequest 0 0x07 ∧ isSceneList (rippling 3).cue [0, 1, 2] ∧
    (0 ≤ 2 ∧ entryWord (rippling 2).cue 0 8 = natWord (0 : Slot).val ∧
      entryWord (rippling 2).cue 0 9 = natWord (2 : Slot).val ∧ (rippling 2).pass.state ≠ .recording ∧
      1 ≤ (rippling 2).setup.rippleStep) ∧
    ((rippling 2).setup.rippleStep < 2 - 0 + 1 ∧ 2 - 0 + 1 ≤ (rippling 3).setup.rippleStep) ∧
    (sceneMark (rippling 2).cue 0 ≠ (rippling 2).requests.rippleCounter + 1 ∧
      sceneMark (rippling 2).cue 1 = (rippling 2).requests.rippleCounter + 1) :=
  ⟨one_request (by decide +kernel), rippling_list 2, one_request (by decide +kernel), rippling_list 3, by decide +kernel,
    by decide +kernel, by decide +kernel⟩

/-- The list of a ripple in flight, with words of the request table. -/
theorem ripplePart_list {words : List (Nat × Word)} (hw : ∀ w ∈ words, w.1 < 0x1000) :
    isSceneList (ripplePart words).cue [0, 1, 2] := by
  refine isSceneList_agrees (fun a ha => Memory.read_writeAll_other _ _ a fun c hc => ?_) threeScenes_list
  simp only [List.cons_append, List.nil_append, List.mem_cons] at hc
  obtain rfl | rfl | hc := hc
  · simp; omega
  · simp; omega
  · have := hw c hc; omega

/-- The same with its next scene the base scene, two visits at each ACTIVE START. -/
def rippleFar (words : List (Nat × Word)) : State :=
  let s := ripplePart words
  { s with requests := { s.requests with ripple := s.requests.ripple.map fun r => { r with next := 0, step := 2 } } }

theorem witness_RippleGoesOnOrEnds :
    (let s := ripplePart []
     entryWord s.cue 1 0 ≠ 1 ∧ s.pass.state ≠ .recording ∧ isSceneList s.cue [0, 1, 2] ∧
       entryWord s.cue 0 0 = 2 ∧
       ∃ r, s.requests.ripple = some r ∧ (1 : Fin 32) ≠ r.entry ∧ 1 ≤ r.step ∧ [(0 : Slot), 1, 2][2]? = some r.next ∧
         [(0 : Slot), 1, 2][2]? = some r.last) ∧
    (let s := rippleFar [(0x440, 1), (0x441, 9)]
     (entryWord s.cue 1 0 = 1 ∧ (entryWord s.cue 1 1).toNat = 9) ∧ isSceneList s.cue [0, 1, 2] ∧
       ∃ r, s.requests.ripple = some r ∧ [(0 : Slot), 1, 2][0]? = some r.next ∧ [(0 : Slot), 1, 2][2]? = some r.last ∧
         r.step = 2) ∧
    (let s := ripplePart [(0x440, 1), (0x441, 0x18)]
     (s.port.run = .running ∧ s.sequencer.activeStartTaken = false ∧ s.engine.read = none ∧
       s.requests.splitPending = none) ∧ (∃ r, s.requests.ripple = some r ∧ (1 : Fin 32) ≠ r.entry) ∧
       s.requests.takeIndex = 1 ∧ entryWord s.cue 1 0 = 1 ∧ entryWord s.cue 1 1 = 0x18 ∧
       entryWord s.cue (1 + 1) 0 ≠ 1) ∧
    (let s := onAir (ripplePart [])
     entryWord s.cue 1 0 ≠ 1 ∧ s.pass.state = .recording ∧
       ∃ r, s.requests.ripple = some r ∧ 1 ≤ r.step ∧ s.onAirHolds r.next = true ∧ sceneMark s.cue r.next ≠ r.number) := by
  refine ⟨⟨by decide +kernel, by decide, ripplePart_list (by decide), by decide +kernel, _, rfl, by decide, by decide,
      rfl, rfl⟩,
    ⟨by decide +kernel, ripplePart_list (words := [(0x440, 1), (0x441, 9)]) (by decide), _, rfl, rfl, rfl, rfl⟩,
    ⟨by decide +kernel, ⟨_, rfl, by decide⟩, rfl, by decide +kernel, by decide +kernel, by decide +kernel⟩,
    by decide +kernel, rfl, _, rfl, by decide, by decide +kernel, by decide +kernel⟩

/-- A split pending at a frame. -/
def splitting (f : Int) (s : State) : State :=
  { s with
    sequencer := { s.sequencer with activeStartTaken := false }
    requests := { s.requests with splitPending := some f } }

/-- The SPLIT user with its edge seen. -/
def splitEdge : State := after (.gpiLineChange 2 true) gpiPart

theorem witness_SplitCutsCoveringScene :
    ((splitting 5 running).requests.splitPending = some 5 ∧
      (splitEdge.requests.splitPending = none ∧ splitEdge.port.run = .running ∧
        splitEdge.turnInversions.presentsPulse 6 = true) ∧ running.turnInversions.presentsPulse 6 = false) ∧
    (let s := splitting 100 twoFull
     (s.port.run = .running ∧ s.sequencer.activeStartTaken = false ∧ s.engine.read = none ∧
       s.requests.splitPending = some 100) ∧ (s.requests.ripple = none ∧ s.requests.notifyDue = false ∧
       entryWord s.cue s.requests.takeIndex 0 ≠ 1) ∧ inRange 100 ∧ isSceneList s.cue [0, 1] ∧
       (listed s.cue 1 = true ∧ sceneStart s.cue 1 = 100)) ∧
    (let s := splitting 99 twoFull
     inRange 99 ∧ isSceneList s.cue [0, 1] ∧ (∀ y, ¬(listed s.cue y = true ∧ sceneStart s.cue y = 99)) ∧
       s.pass.state ≠ .recording ∧ s.requests.freeStack = 2 :: freeOutside [2, 0, 1] ∧
       sceneListLaw s.cue (2 :: freeOutside [2, 0, 1])) ∧
    (withStack (splitting 99 twoScenes) []).requests.freeStack = [] ∧
    (withPass (splitting 99 twoFull) recordingPass).pass.state = .recording ∧
    (let s := { twoFull with
       setup := { twoFull.setup with splitBakesTrim := true }, engine := { twoFull.engine with enable := true } }
     s.setup.splitBakesTrim = true ∧ s.engine.enable = true) ∧ twoFull.engine.enable = false := by
  refine ⟨by decide +kernel, ⟨by decide +kernel, by decide +kernel, by unfold inRange; decide, twoScenes_list,
    by decide +kernel⟩, ⟨by unfold inRange; decide, twoScenes_list, ?_, by decide, rfl,
    law_of_list_cons twoScenes_list (by decide)⟩, rfl, rfl, by decide, by decide⟩
  rintro y ⟨hy, hs⟩
  have := mem_of_listed twoScenes_list hy
  clear hy
  revert y; decide +kernel

/-- `threeScenes` with scene 1 marked 1 and every other slot free, a split pending at a frame of it. -/
def splitMarked : State :=
  splitting 150 (withStack (withCells threeScenes [(0x1028, 1)]) (3 :: freeOutside [3, 0, 1, 2]))

theorem splitMarked_list : isSceneList splitMarked.cue [0, 1, 2] := by
  refine sceneList_of_small (by decide +kernel) (by decide +kernel) ?_ (by decide +kernel)
  simp only [linkedRun, inRange, List.head?]
  decide +kernel

theorem witness_SplitCutsCoveringScene_ripple :
    (splitMarked.port.run = .running ∧ splitMarked.sequencer.activeStartTaken = false ∧
      splitMarked.engine.read = none ∧ splitMarked.requests.splitPending = some 150 ∧
      splitMarked.requests.ripple = none ∧ splitMarked.requests.notifyDue = false ∧
      entryWord splitMarked.cue splitMarked.requests.takeIndex 0 ≠ 1 ∧ splitMarked.pass.state ≠ .recording) ∧
    (inRange 150 ∧ isSceneList splitMarked.cue [0, 1, 2] ∧
      splitMarked.requests.freeStack = 3 :: freeOutside [3, 0, 1, 2] ∧
      sceneListLaw splitMarked.cue (3 :: freeOutside [3, 0, 1, 2])) ∧
    (∀ y, ¬(listed splitMarked.cue y = true ∧ sceneStart splitMarked.cue y = 150)) ∧
    (listed splitMarked.cue 1 = true ∧ covers splitMarked.cue 1 150 = true ∧ splitMarked.hasRoom 1) ∧
    ∃ r, (ripplePart []).requests.ripple = some r ∧ sceneNext splitMarked.cue 1 = some r.next ∧
      sceneMark splitMarked.cue 1 = r.number ∧ r.step = 1 ∧ listed splitMarked.cue r.last = true := by
  refine ⟨⟨rfl, rfl, rfl, rfl, rfl, rfl, by decide +kernel, by decide⟩,
    ⟨by unfold inRange; decide, splitMarked_list, rfl, law_of_list_cons splitMarked_list (by decide)⟩, ?_, ?_,
    _, rfl, by decide +kernel, by decide +kernel, rfl, by decide +kernel⟩
  · rintro y ⟨hy, hs⟩
    have := mem_of_listed splitMarked_list hy
    clear hy
    revert y; decide +kernel
  · unfold State.hasRoom; decide +kernel

/-! #### Passes -/

/-- A pass CUED at a frame of a part LOCKED at the last phase, B rising or falling having set the direction. -/
def cuedPart (inFrame : Int) (direction : Direction) : State :=
  let s := withPass (phased 9 9 4) { Pass.initial with state := .cued, inFrame := inFrame, expected := inFrame }
  { s with position := { s.position with direction := direction } }

/-- A RECORDING part LOCKED at a phase, frame 10 on air. -/
def recordingPart (phase : Nat) (p : Pass) : State := withPass (phased phase 10 4) p

theorem witness_FieldStartJudgesPass :
    (let s := atCount (cuedPart 10 .forward) 40
     let t := after (.fieldStart .field1) s
     s.pass.state = .cued ∧ s.position.frame = s.pass.inFrame ∧ t.sequencer.phase = some 0 ∧
       t.sequencer.locked = true) ∧
    (let s := atCount (cuedPart 9 .forward) 40
     s.position.frame ≠ s.pass.inFrame ∧ s.pass.inFrame < s.position.frame ∧ s.position.direction = .forward) ∧
    (let s := atCount (cuedPart 11 .forward) 40
     s.position.frame ≠ s.pass.inFrame ∧ ¬s.pass.inFrame < s.position.frame) ∧
    (let s := recordingPart 1 recordingPass
     phaseAfter .field1 (atCount s 44) = some 2 ∧ (atCount s 44).position.frame = s.pass.expected ∧
       s.pass.recorded < 4294967295 ∧ s.pass.openEnded = false ∧ s.pass.remaining - 1 = 0 ∧
       (atCount s 40).position.frame < s.pass.expected ∧ s.pass.expected < (atCount s 48).position.frame) ∧
    (let p := { recordingPass with openEnded := true, requested := 0, remaining := 0, stopPending := true }
     let s := atCount (recordingPart 1 p) 44
     phaseAfter .field1 s = some 2 ∧ s.pass.openEnded ≠ false ∧ s.pass.stopPending = true ∧
       { p with stopPending := false }.stopPending = false) ∧
    (let s := atCount (recordingPart 2 recordingPass) 40
     phaseAfter .field2 s = some 3 ∧ s.position.frame = s.pass.expected - 1 ∧
       (atCount s 44).position.frame ≠ s.pass.expected - 1 ∧ phaseAfter .field1 s = some 0) ∧
    phaseAfter .field2 (atCount (withPass (phased 1 10 0) recordingPass) 40) = none ∧ running.pass.state = .idle := by
  decide +kernel

theorem witness_PassRequestsChangeThePass :
    ((posted twoScenes 0x12 [(11, 50)]).OneRequest 0 0x12 ∧ (posted twoScenes 0x12 [(11, 50)]).pass.state = .idle ∧
      inRange (operandPosition (posted twoScenes 0x12 [(11, 50)]).cue 0)) ∧
    ((posted twoScenes 0x12 [(10, 0x10)]).OneRequest 0 0x12 ∧
      ¬inRange (operandPosition (posted twoScenes 0x12 [(10, 0x10)]).cue 0)) ∧
    ((withPass (posted twoScenes 0x13 []) recordingPass).OneRequest 0 0x13 ∧
      (withPass (posted twoScenes 0x13 []) recordingPass).pass.state = .recording) ∧
    (let s := withPass (posted twoScenes 0x14 []) { Pass.initial with state := .paused }
     s.OneRequest 0 0x14 ∧ s.pass.state = .paused) ∧
    (posted twoScenes 0x15 []).OneRequest 0 0x15 ∧
    (withPass (posted twoScenes 0x15 []) recordingPass).pass.state = .recording ∧
    (withPass (posted twoScenes 0x15 []) { Pass.initial with state := .cued }).pass.state = .cued ∧
    (posted twoScenes 0x12 [(11, 50)]).hasRoom 1 := by
  refine ⟨⟨one_request (by decide +kernel), rfl, by unfold inRange; decide +kernel⟩,
    ⟨one_request (by decide +kernel), by unfold inRange; decide +kernel⟩, ⟨one_request (by decide +kernel), rfl⟩,
    ⟨one_request (by decide +kernel), rfl⟩, one_request (by decide +kernel), rfl, rfl,
    by unfold State.hasRoom; decide +kernel⟩

/-- A RECORDING part whose pass block shows the pass. -/
def shownPass : State :=
  withCells (atCount (recordingPart 1 recordingPass) 44)
    [(0x300, 2), (0x303, 10), (0x305, 1), (0x309, 1), (0x30F, 11)]

theorem witness_PassStaysLawful :
    shownPass.PositionLaw ∧ shownPass.PassLaw ∧
    step (queued (.fieldStart .field1) shownPass) =
      .next (after (.fieldStart .field1) { shownPass with pending := [] }) := by
  refine ⟨⟨rfl, by unfold inRange; decide +kernel, by unfold inRange; decide +kernel, ?_, ?_, ?_, ?_⟩, ?_,
    step_after (by decide +kernel)⟩
  · exact fun d h => by simp [shownPass, withCells, atCount, recordingPart, withPass, phased, running, State.reset] at h
  · exact fun h => by simp [shownPass, withCells, atCount, recordingPart, withPass, phased, running, State.reset] at h
  · exact fun h => by simp [shownPass, withCells, atCount, recordingPart, withPass, phased, running, State.reset] at h
  · exact fun h => by simp [shownPass, withCells, atCount, recordingPart, withPass, phased, running, State.reset] at h
  · refine ⟨fun _ => ?_, ?_, ?_, ?_, ?_, ?_, ?_, ?_, ?_, ?_, ?_, ?_⟩
    · unfold passBlockShows; decide +kernel
    all_goals first | (unfold inRange; decide +kernel) | decide +kernel

/-! #### Lines and reports -/

theorem witness_GeneralLinesReachTheirUsers :
    gpiPart.setup.channelSelection[(0 : Fin 8)].map Generator.number = some (12 + (2 : Fin 4).val) ∧
    (gpiPart.setup.userSelection[(6 : Fin 11)] = some 0 ∧ gpiPart.setup.userSelection[(7 : Fin 11)] = none) ∧
    (gpiPart.setup.userSelection[gpoUser 0] = some 0 ∧ gpiPart.setup.gpoMode[(0 : Fin 6)].direct = true ∧
      gpiPart.setup.userSelection[gpoUser 5] = none) ∧
    (after (.gpiLineChange 2 true) gpiPart).channel 0 ≠ gpiPart.channel 0 := by decide +kernel

/-- FIELD START on channel 0, its pulse high, to a DIRECT line and an internal user. -/
def pulsed : State :=
  { gpiPart with
    setup := { gpiPart.setup with channelSelection := #v[some .fieldStart, none, none, none, none, none, none, none] }
    matrix := { gpiPart.matrix with pulses := { gpiPart.matrix.pulses with fieldStart := true } } }

theorem witness_FieldStartPresentsUsers :
    (let s := after .activeStart (posted twoScenes 0x11 [(33, 0x01)])
     s.matrix.inversion[(0 : Fin 8)] = .pending ∧ s.matrix.inversion[(7 : Fin 8)] ≠ .pending) ∧
    (splitEdge.setup.userSelection[(6 : Fin 11)] = some 0 ∧ splitEdge.listens 6 ∧
      splitEdge.matrix.edgeSeen[(6 : Fin 11)] = true) ∧
    (splitEdge.setup.userSelection[(10 : Fin 11)] = none ∧ ¬haltedPart.listens 6 ∧ ¬gpiPart.listens 0) ∧
    (pulsed.setup.channelSelection[(0 : Fin 8)] = some .fieldStart ∧ pulsed.matrix.pulses.fieldStart = true ∧
      pulsed.setup.userSelection[(6 : Fin 11)] = some 0 ∧ pulsed.listens 6) ∧
    (pulsed.setup.userSelection[gpoUser 0] = some 0 ∧ pulsed.setup.gpoMode[(0 : Fin 6)].direct = true) ∧
    (let s := { gpiPart with setup := { gpiPart.setup with gpoMode := running.setup.gpoMode } }
     s.setup.userSelection[gpoUser 0] = some 0 ∧ s.setup.gpoMode[(0 : Fin 6)].direct = false) := by
  unfold State.listens
  decide +kernel

/-- The ring with a number of records unreleased, and a gap. -/
def ringAt (unreleased : Nat) (gap : Option Gap) : State :=
  { running with
    writer := { writeCount := natWord unreleased, releaseCount := 0, sequence := natWord unreleased, gap := gap } }

/-- A gap of one SLIP record. -/
def slipGap : Gap :=
  { dropped := 1, firstFieldCount := 0, firstFrame := 0, lastFieldCount := 0, lastFrame := 0, kinds := 4 }

theorem witness_HandedRecordIsWrittenOrDropped :
    (haltedPart.port.run ≠ .running ∧
      { running.setup with sceneEnable := false }.sceneEnable = false ∧ running.port.run = .running ∧
      running.setup.sceneEnable = true) ∧
    ((ringAt 63 none).writer.unreleased < 512 ∧ (ringAt 63 none).writer.unreleased < running.setup.reportThreshold ∧
      running.setup.reportThreshold ≤ (ringAt 63 none).writer.unreleased + 1 ∧ (ringAt 63 none).writer.gap = none) ∧
    (512 ≤ (ringAt 512 none).writer.unreleased ∧ (ringAt 512 (some slipGap)).writer.gap = some slipGap) ∧
    ((ringAt 510 (some slipGap)).writer.unreleased < 511 ∧ (ringAt 511 (some slipGap)).writer.unreleased = 511) := by
  decide +kernel

/-- `splitEdge` with the edge on the MARK user too and a split pending. -/
def markedEdge : State :=
  let s := { gpiPart with
    setup :=
      { gpiPart.setup with
        userSelection := #v[some 0, none, none, none, none, none, some 0, some 0, none, none, none] } }
  splitting 5 (after (.gpiLineChange 2 true) s)

/-- Where each report of a field arises: a lock lost, a scene changed, a lag begun and ended, a pass faulted, a
reference restored, a mark, and a split that finds one pending. -/
theorem witness_FieldStartWritesItsReports :
    (running.hasRoom 7 ∧ running.engine.read = none) ∧
    ((phased 9 10 4).hasRoom 7 ∧ (phased 9 10 4).engine.read = none ∧ (phased 9 10 4).sequencer.locked = true ∧
      (after (.fieldStart .field1) (phased 9 10 4)).sequencer.locked = false) ∧
    (let s := withPass (phased 9 10 0) recordingPass
     s.hasRoom 7 ∧ s.engine.read = none ∧ (after (.fieldStart .field1) s).pass.state = .faulted) ∧
    (dissolving.hasRoom 7 ∧ dissolving.setup.sceneEnable = true ∧ resolvedAnswer.matrix.pulses.sceneChange = true) ∧
    (lagging.hasRoom 7 ∧ lagging.setup.holdEnable = true ∧ heldAnswer.tracker.lagging = true ∧
      (let s := { heldAnswer with engine := { heldAnswer.engine with read := none } }
       s.hasRoom 7 ∧ (after (.fieldStart .field2) s).tracker.lagging = false)) ∧
    (let s := after .referenceTimerExpiry running
     s.hasRoom 7 ∧ s.engine.read = none ∧ s.sequencer.reference = .lost) ∧
    (markedEdge.hasRoom 7 ∧ markedEdge.engine.read = none ∧ markedEdge.setup.userSelection[(7 : Fin 11)] = some 0 ∧
      markedEdge.turnInversions.presentsPulse 7 = true ∧ markedEdge.turnInversions.presentsPulse 6 = true ∧
      markedEdge.requests.splitPending ≠ none) := by
  unfold State.hasRoom
  decide +kernel

/-- Two records unreleased, their counts across the wrap. -/
def twoRecords : State :=
  withCells
    { running with writer := { writeCount := 1, releaseCount := 65535, sequence := 1, gap := some slipGap } }
    [(0x9000 + 16 * 511, 0xFFFF)]

theorem witness_RingStaysLawful :
    twoRecords.RingLaw ∧
    step (queued (.reportReleaseWrite 1) twoRecords) =
      .next (after (.reportReleaseWrite 1) { twoRecords with pending := [] }) := by
  refine ⟨⟨by decide +kernel, rfl, ?_, ?_⟩, step_after (by decide +kernel)⟩
  · have h : twoRecords.writer.unreleased = 2 := by decide +kernel
    rw [h]
    decide +kernel
  · intro g hg
    simp only [twoRecords, withCells, Option.some.injEq] at hg
    subst hg
    decide

theorem witness_StatusBlockShowsField :
    (haltedPart.port.run = .halted ∧ haltedPart.engine.read = none ∧ haltedPart.tracker.latest = none) ∧
    (let s := { haltedPart with tracker := resolvedAnswer.tracker }
     s.port.run = .halted ∧ s.engine.read = none ∧ s.tracker.latest.isSome = true) ∧
    (trimHeld.port.run = .running ∧ trimHeld.engine.read = none ∧
      (after (.fieldStart .field1) trimHeld).engine.read = none) ∧
    (State.reset.port.run = .uninitialised ∧ State.reset.engine.read = none ∧ inStatus 0x121) ∧
    ((reading (0 :: 1 :: List.replicate 10 0)).engine.read = some ⟨0 :: 1 :: List.replicate 10 0, running.moment⟩ ∧
      (0 :: 1 :: List.replicate 10 (0 : Word)).length = 12) ∧
    ¬inStatus 0x122 ∧ ¬inPassBlock 0x310 := by
  unfold inStatus inPassBlock
  decide +kernel

end Sys2Proof.Tests
end

/-! Nearest rounding (R74). Twice the remainder that `roundDiv` leaves is at most the divisor, which makes its result
nearest; for a dividend that is not negative the remainder is never exactly half the divisor, which settles the ties;
negative dividends follow by symmetry about zero. -/

namespace Sys2Proof.Proofs
open Sys2Proof.Machine

theorem roundDiv_of_nonneg {a : Int} (ha : 0 ≤ a) (b : Nat) : roundDiv a b = (2 * a + b) / (2 * b) :=
  if_pos ha

theorem roundDiv_of_neg {a : Int} (ha : a < 0) (b : Nat) : roundDiv a b = -roundDiv (-a) b := by
  rw [roundDiv_of_nonneg (by omega : 0 ≤ -a)]
  exact if_neg (by omega)

theorem roundDiv_zero {b : Nat} (hb : 0 < b) : roundDiv 0 b = 0 := by
  rw [roundDiv_of_nonneg le_rfl]
  exact Int.ediv_eq_zero_of_lt (by omega) (by omega)

theorem roundDiv_neg (a : Int) {b : Nat} (hb : 0 < b) : roundDiv (-a) b = -roundDiv a b := by
  rcases lt_trichotomy a 0 with ha | rfl | ha
  · rw [roundDiv_of_neg ha, neg_neg]
  · simp [roundDiv_zero hb]
  · rw [roundDiv_of_neg (by omega : -a < 0), neg_neg]

theorem roundDiv_nonneg {a : Int} (ha : 0 ≤ a) (b : Nat) : 0 ≤ roundDiv a b := by
  rw [roundDiv_of_nonneg ha]
  exact Int.ediv_nonneg (by omega) (by omega)

/-- An exact half is rounded up, so the upper bound is strict. -/
theorem roundDiv_remainder_of_nonneg {a : Int} {b : Nat} (ha : 0 ≤ a) (hb : 0 < b) :
    -(b : Int) ≤ 2 * (a - b * roundDiv a b) ∧ 2 * (a - b * roundDiv a b) < b := by
  have hpos : (0 : Int) < 2 * b := by omega
  have hsplit : 2 * b * roundDiv a b + (2 * a + b) % (2 * b) = 2 * a + b := by
    rw [roundDiv_of_nonneg ha]
    exact Int.mul_ediv_add_emod _ _
  have hlow := Int.emod_nonneg (2 * a + b) hpos.ne'
  have hhigh := Int.emod_lt_of_pos (2 * a + b) hpos
  constructor <;> linarith

theorem abs_neg_sub_mul_neg (a q : Int) (b : Nat) : |-a - b * -q| = |a - b * q| := by
  rw [← abs_neg]
  congr 1
  ring

theorem two_mul_abs_remainder_le (a : Int) {b : Nat} (hb : 0 < b) : 2 * |a - b * roundDiv a b| ≤ b := by
  wlog ha : 0 ≤ a generalizing a with of_nonneg
  · rw [← abs_neg_sub_mul_neg, ← roundDiv_neg a hb]
    exact of_nonneg (-a) (by omega)
  · obtain ⟨hlow, hhigh⟩ := roundDiv_remainder_of_nonneg ha hb
    rw [← abs_two, ← abs_mul]
    exact abs_le.mpr ⟨hlow, hhigh.le⟩

/-- Two multiples of b are at least b apart, so no other one is nearer than one within b / 2. -/
theorem abs_sub_mul_le_of_two_mul_abs_le {a r : Int} {b : Nat} (h : 2 * |a - b * r| ≤ b) (q : Int) :
    |a - b * r| ≤ |a - b * q| := by
  rcases eq_or_ne q r with rfl | hne
  · exact le_rfl
  · have hgap : (b : Int) ≤ |a - b * r| + |a - b * q| :=
      calc (b : Int) ≤ b * |q - r| :=
            le_mul_of_one_le_right (Int.natCast_nonneg b) (Int.one_le_abs (sub_ne_zero.mpr hne))
        _ = |(a - b * r) - (a - b * q)| := by rw [← Nat.abs_cast b, ← abs_mul, Nat.abs_cast]; ring_nf
        _ ≤ |a - b * r| + |a - b * q| := abs_sub _ _
    linarith

theorem roundDiv_nearest (a : Int) {b : Nat} (hb : 0 < b) (q : Int) :
    |a - b * roundDiv a b| ≤ |a - b * q| :=
  abs_sub_mul_le_of_two_mul_abs_le (two_mul_abs_remainder_le a hb) q

/-- For a ≥ 0, a multiple of b further from zero than the result's is strictly more than b / 2 away. -/
theorem lt_two_mul_abs_of_roundDiv_lt {a q : Int} {b : Nat} (ha : 0 ≤ a) (hb : 0 < b) (hq : roundDiv a b < |q|) :
    b < 2 * |a - b * q| := by
  have hb' : (0 : Int) < b := by omega
  have hgap : (b : Int) * (roundDiv a b + 1) ≤ b * |q| := mul_le_mul_of_nonneg_left hq hb'.le
  rcases abs_cases q with ⟨habs, -⟩ | ⟨habs, -⟩ <;> rw [habs] at hgap
  · obtain ⟨-, hhigh⟩ := roundDiv_remainder_of_nonneg ha hb
    linarith [neg_le_abs (a - b * q)]
  · have hr := mul_nonneg hb'.le (roundDiv_nonneg ha b)
    linarith [le_abs_self (a - b * q)]

theorem abs_le_abs_roundDiv_of_tie {a q : Int} {b : Nat} (hb : 0 < b)
    (htie : |a - b * q| = |a - b * roundDiv a b|) : |q| ≤ |roundDiv a b| := by
  wlog ha : 0 ≤ a generalizing a q with of_nonneg
  · rw [← abs_neg q, ← abs_neg (roundDiv a b), ← roundDiv_neg a hb]
    refine of_nonneg ?_ (by omega)
    rw [roundDiv_neg a hb, abs_neg_sub_mul_neg, abs_neg_sub_mul_neg, htie]
  · rw [abs_of_nonneg (roundDiv_nonneg ha b)]
    by_contra! hlt
    have hfar := lt_two_mul_abs_of_roundDiv_lt ha hb hlt
    rw [htie] at hfar
    exact (two_mul_abs_remainder_le a hb).not_gt hfar

/-- Settles O31: the bound on the remainder, the tie away from zero and symmetry; R74's table is evaluated. -/
theorem nearestRounding : Obligations.NearestRounding := by
  unfold Obligations.NearestRounding
  refine ⟨fun a b hb => ⟨roundDiv_nearest a hb, fun _ => abs_le_abs_roundDiv_of_tie hb, roundDiv_neg a hb⟩, ?_⟩
  decide

end Sys2Proof.Proofs

/-! Host writes through DATA (R96, R173, R174). `hostWriteMade` is read off region by region and, in the request table,
entry by entry; `exec_dataWrite` then says once what a DATA_WRITE does where it is made and where it is discarded. -/

namespace Sys2Proof.Proofs
open Sys2Proof.Machine

/-! ### The attention causes -/

theorem mask_and_mask_ne_zero (c d : Cause) : (c.mask &&& d.mask != 0) = decide (d = c) := by
  cases c <;> cases d <;> decide

@[simp] theorem causeSet_setCause (s : State) (c d : Cause) :
    (s.setCause c).causeSet d = (s.causeSet d || decide (d = c)) := by
  have or_ne_zero (x y : BitVec 7) : (x ||| y != 0) = (x != 0 || y != 0) := by
    rw [Bool.eq_iff_iff]
    simp [BitVec.or_eq_zero_iff, imp_iff_not_or]
  rw [State.causeSet, State.setCause_causes, BitVec.and_or_distrib_right, or_ne_zero, mask_and_mask_ne_zero,
    State.causeSet]

/-! ### Where a write is made -/

theorem hostWriteMade_of_hostOwned {a : Nat} (h : hostOwned a) (m : Memory) (v : Word) :
    hostWriteMade m a v = true := by
  rcases h with hsetup | htrim | hunused | hhost <;> grind [hostWriteMade]

theorem hostWriteMade_of_partOwned {a : Nat} (hout : a < 0x400 ∨ 0xC00 ≤ a) (h : ¬hostOwned a) (m : Memory) (v : Word) :
    hostWriteMade m a v = false := by
  unfold hostOwned at h
  obtain hstatus | hpass | hscenesOrRing :
      (0x100 ≤ a ∧ a < 0x200) ∨ (0x300 ≤ a ∧ a < 0x400) ∨ (0x1000 ≤ a ∧ a < 0xB000) := by omega
  all_goals grind [hostWriteMade]

theorem hostWriteMade_of_requestTable {a : Nat} (hlow : 0x400 ≤ a) (hhigh : a < 0xC00) (m : Memory) (v : Word) :
    hostWriteMade m a v = requestWriteMade m a v := by
  grind [hostWriteMade]

theorem entryOfAddress_entryBase_add (i : Fin 32) {k : Nat} (hk : k < 64) : entryOfAddress (entryBase i + k) = i := by
  apply Fin.ext
  simp only [entryOfAddress, entryBase, requestBase, Fin.val_ofNat]
  omega

theorem hostWriteMade_entry_iff (m : Memory) (i : Fin 32) {k : Nat} (hk : k < 64) (v : Word) :
    hostWriteMade m (entryBase i + k) v = true ↔ entryWord m i 0 ≠ 2 ∧ (k ≠ 0 ∨ v = 0 ∨ v = 1) := by
  have hlow : 0x400 ≤ entryBase i + k := by simp only [entryBase, requestBase]; omega
  have hhigh : entryBase i + k < 0xC00 := by simp only [entryBase, requestBase]; omega
  have hoffset : (entryBase i + k - requestBase) % 64 = k := by simp only [entryBase, requestBase]; omega
  rw [hostWriteMade_of_requestTable hlow hhigh, requestWriteMade, entryOfAddress_entryBase_add i hk, hoffset]
  simp [stateTaken, stateFree, statePosted, or_assoc]

/-! ### The command -/

/-- The word at the pointer was written, and no cause was set. -/
def DataWriteMade (v : Word) (s t : State) : Prop :=
  t.port.causes = s.port.causes ∧
    ∀ a, Memory.read t.cue a = if a = s.port.pointer.toNat then v else Memory.read s.cue a

/-- Nothing was written, and the DISCARD cause was set. -/
def DataWriteDiscarded (s t : State) : Prop :=
  t.cue = s.cue ∧ ∀ c : Cause, t.causeSet c = (s.causeSet c || decide (c = .discard))

theorem exec_dataWrite_of_made {v : Word} {s : State} (h : hostWriteMade s.cue s.port.pointer.toNat v = true) :
    exec (.dataWrite v) s =
      .next (State.advancePointer { s.emptyLatch with cue := Memory.write s.cue s.port.pointer.toNat v }) :=
  if_pos h

theorem exec_dataWrite_of_discarded {v : Word} {s : State} (h : hostWriteMade s.cue s.port.pointer.toNat v = false) :
    exec (.dataWrite v) s = .next (s.emptyLatch.setCause .discard).advancePointer :=
  if_neg (by simp [h])

theorem advancePointer_pointer_toNat (s : State) :
    s.advancePointer.port.pointer.toNat = (s.port.pointer.toNat + 1) % 131072 := by
  simp [BitVec.toNat_add]

theorem exec_dataWrite (v : Word) (s : State) :
    ∃ t, exec (.dataWrite v) s = .next t ∧ t.port.pointer.toNat = (s.port.pointer.toNat + 1) % 131072 ∧
      (hostWriteMade s.cue s.port.pointer.toNat v = true → DataWriteMade v s t) ∧
      (hostWriteMade s.cue s.port.pointer.toNat v = false → DataWriteDiscarded s t) ∧
      t =
        { s with
          cue := t.cue, port := { s.port with pointer := t.port.pointer, latch := none, causes := t.port.causes } } := by
  cases h : hostWriteMade s.cue s.port.pointer.toNat v with
  | true =>
    exact ⟨_, exec_dataWrite_of_made h, advancePointer_pointer_toNat _,
      fun _ => ⟨rfl, fun a => Memory.read_write _ _ a v⟩, nofun, rfl⟩
  | false =>
    exact ⟨_, exec_dataWrite_of_discarded h, advancePointer_pointer_toNat _, nofun,
      fun _ => ⟨rfl, causeSet_setCause s .discard⟩, rfl⟩

/-- Settles O15: where `hostWriteMade` holds by region and by entry, with what `exec_dataWrite` says of either outcome. -/
theorem dataWriteByRegion : Obligations.DataWriteByRegion := by
  unfold Obligations.DataWriteByRegion
  intro v s
  obtain ⟨t, hexec, hpointer, hmade, hdiscarded, hframe⟩ := exec_dataWrite v s
  refine ⟨t, hexec, hpointer, fun howned => hmade (hostWriteMade_of_hostOwned howned _ v),
    fun hout howned => hdiscarded (hostWriteMade_of_partOwned hout howned _ v), fun i k hk hp => ?_, hframe⟩
  have hentry := hostWriteMade_entry_iff s.cue i hk v
  rw [← hp] at hentry
  refine ⟨fun hrefused => hdiscarded ?_, fun hopen hstate => hmade (hentry.mpr ⟨hopen, hstate⟩)⟩
  rw [Bool.eq_false_iff, ne_eq, hentry]
  tauto

end Sys2Proof.Proofs

/-! Releases (R164, R169). `exec_reportReleaseWrite_of_le` and `exec_reportReleaseWrite_of_lt` say once what a
REPORT_RELEASE_WRITE does where its step is within the unreleased number and where it is clamped. -/

namespace Sys2Proof.Proofs
open Sys2Proof.Machine

/-- A difference of counts, as the ring's 16-bit arithmetic has it (R164). -/
theorem word_sub_toNat (x y : Word) : (x - y).toNat = (x.toNat + 65536 - y.toNat) % 65536 := by
  rw [BitVec.toNat_sub]
  omega

theorem unreleased_eq (w : Writer) :
    w.unreleased = (w.writeCount.toNat + 65536 - w.releaseCount.toNat) % 65536 :=
  word_sub_toNat w.writeCount w.releaseCount

theorem exec_reportReleaseWrite_of_le {v : Word} {s : State}
    (h : (v - s.writer.releaseCount).toNat ≤ s.writer.unreleased) :
    exec (.reportReleaseWrite v) s =
      .next { s.emptyLatch with writer := { s.writer with releaseCount := v } } :=
  congrArg Host.Outcome.next (if_pos h)

theorem exec_reportReleaseWrite_of_lt {v : Word} {s : State}
    (h : s.writer.unreleased < (v - s.writer.releaseCount).toNat) :
    exec (.reportReleaseWrite v) s =
      .next (State.setCause
        { s.emptyLatch with writer := { s.writer with releaseCount := s.writer.writeCount } } .discard) :=
  congrArg Host.Outcome.next (if_neg (Nat.not_le_of_lt h))

/-- Settles O17: by whether the step passes the unreleased number. -/
theorem releaseIsClampedToWrittenRecords : Obligations.ReleaseIsClampedToWrittenRecords := by
  unfold Obligations.ReleaseIsClampedToWrittenRecords
  intro v s
  dsimp only
  rw [← word_sub_toNat, ← unreleased_eq]
  rcases le_or_gt (v - s.writer.releaseCount).toNat s.writer.unreleased with hwithin | hpast
  · exact ⟨_, exec_reportReleaseWrite_of_le hwithin, rfl,
      ⟨fun _ => ⟨rfl, rfl⟩, fun hpast => absurd hpast (Nat.not_lt_of_le hwithin)⟩, rfl⟩
  · exact ⟨_, exec_reportReleaseWrite_of_lt hpast, rfl,
      ⟨fun hwithin => absurd hpast (Nat.not_lt_of_le hwithin), fun _ => ⟨rfl, causeSet_setCause _ .discard⟩⟩, rfl⟩

end Sys2Proof.Proofs

/-! Attention (R176). A cause stands at one bit of each set, so the ATTENTION and ATTENTION ENABLE writes and the ATTN
line are read off bit by bit. `CausesKept` says that no cause is cleared; it is proved of each operation that a halt and
a run start are made of. -/

namespace Sys2Proof.Proofs
open Sys2Proof.Machine

/-! ### The sets by bit -/

theorem causeMask_eq_twoPow (c : Cause) : c.mask = BitVec.twoPow 7 c.bit := by
  cases c <;> rfl

theorem causeBit_lt (c : Cause) : c.bit < 7 := by
  cases c <;> decide

theorem exists_cause_bit_eq {i : Nat} (hi : i < 7) : ∃ c : Cause, c.bit = i := by
  interval_cases i
  exacts [⟨.request, rfl⟩, ⟨.report, rfl⟩, ⟨.pass, rfl⟩, ⟨.fault, rfl⟩, ⟨.discard, rfl⟩, ⟨.stale, rfl⟩,
    ⟨.setup, rfl⟩]

theorem causeSet_eq_getLsbD (s : State) (c : Cause) : s.causeSet c = s.port.causes.getLsbD c.bit := by
  rw [State.causeSet, causeMask_eq_twoPow, BitVec.and_twoPow]
  cases s.port.causes.getLsbD c.bit with
  | false => simp
  | true => cases c <;> rfl

theorem attn_iff (s : State) : s.attn = true ↔ ∃ c : Cause, s.causeSet c = true ∧ s.causeEnabled c = true := by
  have hbit (c : Cause) : (s.port.causes &&& s.port.enables).getLsbD c.bit = (s.causeSet c && s.causeEnabled c) := by
    rw [BitVec.getLsbD_and, causeSet_eq_getLsbD, State.causeEnabled]
  rw [State.attn, bne_iff_ne]
  constructor
  · intro hne
    by_contra! hnone
    refine hne (BitVec.eq_of_getLsbD_eq fun i hi => ?_)
    obtain ⟨c, rfl⟩ := exists_cause_bit_eq hi
    rw [hbit]
    cases hset : s.causeSet c with
    | false => simp
    | true => simpa using hnone c hset
  · rintro ⟨c, hset, henabled⟩ hzero
    simpa [hzero, hset, henabled] using hbit c

theorem causeSet_eq_false_of_causes_eq_zero {s : State} (h : s.port.causes = 0) (c : Cause) : s.causeSet c = false := by
  simp [State.causeSet, h]

theorem causeEnabled_eq_false_of_enables_eq_zero {s : State} (h : s.port.enables = 0) (c : Cause) :
    s.causeEnabled c = false := by
  simp [State.causeEnabled, h]

theorem attn_eq_false_of_causes_eq_zero {s : State} (h : s.port.causes = 0) : s.attn = false := by
  simp [State.attn, h]

/-! ### The two writes -/

theorem exec_attentionWrite (v : Word) (s : State) :
    ∃ t, exec (.attentionWrite v) s = .next t ∧
      (∀ c : Cause, t.causeSet c = (s.causeSet c && !v.getLsbD c.bit)) ∧
      t = { s with port := { s.port with latch := none, causes := t.port.causes } } := by
  refine ⟨_, rfl, fun c => ?_, rfl⟩
  simp [causeSet_eq_getLsbD, causeBit_lt c]

theorem exec_attentionEnableWrite (v : Word) (s : State) :
    ∃ t, exec (.attentionEnableWrite v) s = .next t ∧ (∀ c : Cause, t.causeEnabled c = v.getLsbD c.bit) ∧
      t = { s with port := { s.port with latch := none, enables := t.port.enables } } := by
  refine ⟨_, rfl, fun c => ?_, rfl⟩
  simp [State.causeEnabled, causeBit_lt c]

/-! ### What clears no cause -/

/-- Every cause set in s is set in t. -/
def CausesKept (s t : State) : Prop := ∀ d : Cause, s.causeSet d = true → t.causeSet d = true

theorem CausesKept.refl (s : State) : CausesKept s s := fun _ hd => hd

theorem CausesKept.congr_causes {s t u : State} (hst : CausesKept s t) (htu : u.port.causes = t.port.causes) :
    CausesKept s u := by
  intro d hd
  rw [State.causeSet, htu]
  exact hst d hd

theorem CausesKept.trans {s t u : State} (hst : CausesKept s t) (htu : CausesKept t u) : CausesKept s u :=
  fun d hd => htu d (hst d hd)

theorem CausesKept.of_causes_eq {s t : State} (h : t.port.causes = s.port.causes) : CausesKept s t :=
  (CausesKept.refl s).congr_causes h

theorem CausesKept.of_port_eq {s t : State} (h : t.port = s.port) : CausesKept s t := .of_causes_eq (by rw [h])

theorem CausesKept.setCause {s t : State} (h : CausesKept s t) (c : Cause) : CausesKept s (t.setCause c) := by
  intro d hd
  rw [causeSet_setCause, h d hd, Bool.true_or]

theorem CausesKept.setCauseIf {s t : State} (h : CausesKept s t) (b : Bool) (c : Cause) :
    CausesKept s (t.setCauseIf b c) := by
  cases b with
  | false => exact h
  | true => exact h.setCause c

/-! ### The report writer -/

theorem causesKept_appendRecord (s : State) (r : Record) (fc : DWord) : CausesKept s (s.appendRecord r fc) := by
  unfold State.appendRecord
  exact CausesKept.setCauseIf (.of_port_eq (by dsimp only)) _ .report

theorem causesKept_dropRecord (s : State) (r : Record) : CausesKept s (s.dropRecord r) := .of_port_eq rfl

theorem causesKept_writeOrDrop (s : State) (r : Record) : CausesKept s (s.writeOrDrop r) := by
  unfold State.writeOrDrop
  split
  · exact causesKept_appendRecord s r _
  · exact causesKept_dropRecord s r

theorem causesKept_closeGap (s : State) (g : Gap) : CausesKept s (s.closeGap g) :=
  (causesKept_appendRecord s g.record g.firstFieldCount).congr_causes rfl

theorem causesKept_hand (s : State) (r : Record) : CausesKept s (s.hand r) := by
  unfold State.hand
  split
  case isFalse => exact .refl s
  case isTrue =>
    split
    · exact causesKept_writeOrDrop s r
    · split
      · exact (causesKept_closeGap s _).trans (causesKept_writeOrDrop _ r)
      · exact causesKept_dropRecord s r

theorem causesKept_handEach (s : State) (rs : List Record) : CausesKept s (s.handEach rs) := by
  induction rs generalizing s with
  | nil => exact .refl s
  | cons r rs ih => exact (causesKept_hand s r).trans (ih _)

/-! ### A halt -/

/-- The LIVE report and the STALE cause are the only two steps after the status block that touch the port. -/
theorem causesKept_endLiveRead (s : State) (read : LiveRead) : CausesKept s (s.endLiveRead read) := by
  have hdone (e : Engine) :
      CausesKept s (({ s with engine := e }.buildCoefficients).writeStatus read.moment) := .of_port_eq (by simp)
  unfold State.endLiveRead
  dsimp only
  split
  · split
    · exact (hdone _).trans (causesKept_hand _ _)
    · exact hdone _
  · split
    · refine CausesKept.setCause (CausesKept.trans ?_ (causesKept_hand _ _)) .stale
      split
      · exact hdone _
      · exact (hdone (s.engine.tear s.setup.liveStaleLimit)).trans (.of_port_eq (by simp))
    · exact hdone _

theorem causesKept_liveWordRead (s : State) (read : LiveRead) : CausesKept s (s.liveWordRead read) := by
  unfold State.liveWordRead
  dsimp only
  split
  · exact causesKept_endLiveRead s _
  · exact .of_port_eq rfl

theorem causesKept_liveReads (fuel : Nat) (s : State) : CausesKept s (State.liveReads fuel s) := by
  induction fuel generalizing s with
  | zero => exact .refl s
  | succ fuel ih =>
    unfold State.liveReads
    split
    · exact (causesKept_liveWordRead s _).trans (ih _)
    · exact .refl s

theorem causesKept_changePass (s : State) (p : Pass) : CausesKept s (s.changePass p).1 :=
  .setCauseIf (.of_port_eq (by simp)) _ .pass

theorem causesKept_faultPassIf (s : State) (reached : Bool) (c : Condition) :
    CausesKept s (s.faultPassIf reached c).1 := by
  cases reached with
  | false => exact .refl s
  | true => exact causesKept_changePass s _

theorem causesKept_clearInternalEdges (s : State) : CausesKept s s.clearInternalEdges := .of_port_eq rfl

theorem causesKept_setRun (s : State) (r : RunState) : CausesKept s (s.setRun r) := .of_causes_eq rfl

theorem causesKept_halt (s : State) : CausesKept s s.halt := by
  have hwhole : CausesKept s s.finishLiveRead := causesKept_liveReads 13 s
  exact hwhole.trans <| (causesKept_faultPassIf _ _ .halted).trans <| (causesKept_handEach _ _).trans <|
    (causesKept_clearInternalEdges _).trans (causesKept_setRun _ .halted)

/-! ### A run start -/

theorem causesKept_finishEntry (s : State) (i : Fin 32) (r : Result) : CausesKept s (s.finishEntry i r) := by
  unfold State.finishEntry
  dsimp only
  split
  · exact ((CausesKept.refl s).setCause .request).trans (.of_port_eq rfl)
  · exact .of_port_eq rfl

theorem causesKept_abortTaken (s : State) (i : Fin 32) : CausesKept s (s.abortTaken i) := by
  unfold State.abortTaken
  split
  · exact causesKept_finishEntry s i _
  · exact .refl s

theorem causesKept_foldl_abortTaken (is : List (Fin 32)) (s : State) : CausesKept s (is.foldl State.abortTaken s) := by
  induction is generalizing s with
  | nil => exact .refl s
  | cons i is ih => exact (causesKept_abortTaken s i).trans (ih _)

theorem causesKept_startRequests (s : State) : CausesKept s s.startRequests := by
  have haborted : CausesKept s s.abortAllTaken := causesKept_foldl_abortTaken (List.finRange 32) s
  exact haborted.congr_causes (by simp only [State.startRequests])

/-- The abort of TAKEN entries is the only step of R178 that touches the causes. -/
theorem causesKept_initialise (s : State) (st : Setup) : CausesKept s (s.initialise st) := by
  have hbefore : CausesKept s (((s.takeSetup st).setSetupFault none).layOut.startTracker) := .of_port_eq (by simp)
  exact (hbefore.trans (causesKept_startRequests _)).congr_causes (by simp [State.initialise])

theorem causesKept_runStart (s : State) : CausesKept s s.runStart := by
  unfold State.runStart
  split
  · exact .setCause (.of_port_eq (by simp)) .setup
  · exact causesKept_initialise s _

/-! ### CONTROL writes and resets -/

/-- The enables stand, and every cause set stays set. -/
def AttentionKept (s t : State) : Prop := t.port.enables = s.port.enables ∧ CausesKept s t

theorem attentionKept_writeRunSet (s : State) : AttentionKept s s.writeRunSet := by
  unfold State.writeRunSet
  split
  · exact ⟨by simp, causesKept_runStart s⟩
  · exact ⟨rfl, .of_causes_eq rfl⟩
  · exact ⟨rfl, .refl s⟩

theorem attentionKept_writeRunClear (s : State) : AttentionKept s s.writeRunClear := by
  unfold State.writeRunClear
  split
  · exact ⟨rfl, .refl s⟩
  · exact ⟨rfl, .refl s⟩
  · exact ⟨by simp, causesKept_halt s⟩

theorem attentionKept_of_exec_runControl {c : Instr} {s t : State} (hc : c = .halt ∨ c = .resume ∨ c = .runStart)
    (h : exec c s = .next t) : AttentionKept s t := by
  obtain rfl | rfl | rfl := hc <;> cases h
  · exact attentionKept_writeRunClear s.emptyLatch
  · exact attentionKept_writeRunSet s.emptyLatch
  · exact attentionKept_writeRunSet s.emptyLatch

theorem sets_empty_of_exec_reset {s t : State} {a b : Bool} {g : BitVec 4} {r : List (Addr × Word)}
    (h : exec .portReset s = .next t ∨ exec (.powerOnReset a b g r) s = .next t) :
    t.port.causes = 0 ∧ t.port.enables = 0 := by
  obtain h | h := h <;> cases h <;> exact ⟨rfl, rfl⟩

/-- Settles O13: the sets by bit, and that neither a halt nor a run start clears a cause. -/
theorem attentionCausesAndEnables : Obligations.AttentionCausesAndEnables := by
  unfold Obligations.AttentionCausesAndEnables
  refine ⟨causeSet_setCause, exec_attentionWrite, exec_attentionEnableWrite, attn_iff,
    fun c s t hc h => attentionKept_of_exec_runControl hc h, fun s t a b g r h => ?_⟩
  obtain ⟨hcauses, henables⟩ := sets_empty_of_exec_reset h
  exact ⟨attn_eq_false_of_causes_eq_zero hcauses, fun c =>
    ⟨causeSet_eq_false_of_causes_eq_zero hcauses c, causeEnabled_eq_false_of_enables_eq_zero henables c⟩⟩

end Sys2Proof.Proofs

/-! Commands (95). Every command answers a next state, which `commandResult` names; a step is the result of the command
at the front of the queue. -/

namespace Sys2Proof.Proofs
open Sys2Proof.Machine

/-- The state a command leaves. -/
def commandResult (c : Instr) (s : State) : State :=
  match exec c s with
  | .next t => t
  | .fault _ => s
  | .refused _ => s

theorem commandResult_eq_of_exec {c : Instr} {s t : State} (h : exec c s = .next t) : commandResult c s = t := by
  simp [commandResult, h]

theorem exec_eq_next (c : Instr) (s : State) : exec c s = .next (commandResult c s) := by
  obtain ⟨t, ht⟩ : ∃ t, exec c s = .next t := by
    cases c with
    | registerWriteOther write => cases write <;> exact ⟨_, rfl⟩
    | dataWrite value =>
      obtain ⟨t, ht, -⟩ := exec_dataWrite value s
      exact ⟨t, ht⟩
    | perfLineChange a b => simp only [exec, execPerfLineChange]; split <;> exact ⟨_, rfl⟩
    | stillnessTimerExpiry => simp only [exec, execStillnessTimerExpiry]; split <;> exact ⟨_, rfl⟩
    | referenceTimerExpiry => simp only [exec, execReferenceTimerExpiry]; split <;> exact ⟨_, rfl⟩
    | activeStart => simp only [exec, execActiveStart]; split <;> exact ⟨_, rfl⟩
    | liveRecordWordRead => simp only [exec, execLiveRecordWordRead]; split <;> exact ⟨_, rfl⟩
    | _ => exact ⟨_, rfl⟩
  rw [ht, commandResult_eq_of_exec ht]

theorem exec_eq_next_iff {c : Instr} {s t : State} : exec c s = .next t ↔ commandResult c s = t := by
  rw [exec_eq_next, Host.Outcome.next.injEq]

/-! ### The commands with a condition of their own -/

theorem exec_perfLineChange_of_none {a b : Bool} {s : State}
    (h : recogniseStep s.position.perfA s.position.perfB a b = none) :
    exec (.perfLineChange a b) s = .next (s.takeLevels a b) := by
  simp only [exec, execPerfLineChange, h]

theorem exec_perfLineChange_of_some {a b : Bool} {s : State} {d : StepDirection}
    (h : recogniseStep s.position.perfA s.position.perfB a b = some d) :
    exec (.perfLineChange a b) s =
      .next (((s.takeLevels a b).perfStep d).1.handTogether [((s.takeLevels a b).perfStep d).2]) := by
  simp only [exec, execPerfLineChange, h]

theorem exec_edgeReading (v : BitVec 24) (valid : Bool) (s : State) :
    exec (.edgeReading v valid) s =
      .next
        (((s.edgeReading v valid).1.faultPassIf (s.positionFaultReaches (s.edgeReading v valid).1) .positionFault).1.handTogether
          [(s.edgeReading v valid).2,
            ((s.edgeReading v valid).1.faultPassIf (s.positionFaultReaches (s.edgeReading v valid).1) .positionFault).2]) :=
  rfl

theorem exec_stillnessTimerExpiry_of_stopped {s : State} (h : s.position.stillness = .stopped) :
    exec .stillnessTimerExpiry s = .next s := by
  simp only [exec, execStillnessTimerExpiry, h]

theorem exec_stillnessTimerExpiry_of_running {s : State} (h : s.position.stillness ≠ .stopped) :
    exec .stillnessTimerExpiry s =
      .next { s with position := { s.position with direction := .stopped, stillness := .stopped } } := by
  cases hs : s.position.stillness with
  | stopped => exact absurd hs h
  | running p => simp only [exec, execStillnessTimerExpiry, hs]

theorem exec_referenceTimerExpiry_of_stopped {s : State} (h : s.sequencer.timer = .stopped) :
    exec .referenceTimerExpiry s = .next s := by
  simp only [exec, execReferenceTimerExpiry, h]

theorem exec_referenceTimerExpiry_of_running {s : State} (h : s.sequencer.timer ≠ .stopped) :
    exec .referenceTimerExpiry s = .next s.expireReference := by
  cases hs : s.sequencer.timer with
  | stopped => exact absurd hs h
  | running p => simp only [exec, execReferenceTimerExpiry, hs]

theorem exec_activeStart_of_taken {s : State} (h : s.sequencer.activeStartTaken = true) :
    exec .activeStart s = .next s := if_pos h

theorem exec_activeStart_of_open {s : State} (h : s.sequencer.activeStartTaken = false) :
    exec .activeStart s = .next s.finishLiveRead.passActiveStart := if_neg (by simp [h])

theorem exec_liveRecordWordRead_of_none {s : State} (h : s.engine.read = none) :
    exec .liveRecordWordRead s = .next s := by
  simp only [exec, execLiveRecordWordRead, h]

theorem exec_liveRecordWordRead_of_some {s : State} {read : LiveRead} (h : s.engine.read = some read) :
    exec .liveRecordWordRead s = .next (s.liveWordRead read) := by
  simp only [exec, execLiveRecordWordRead, h]

/-! ### The live read in progress -/

@[simp] theorem liveReads_of_none {s : State} (h : s.engine.read = none) (fuel : Nat) : State.liveReads fuel s = s := by
  cases fuel with
  | zero => rfl
  | succ n => simp only [State.liveReads, h]

theorem finishLiveRead_of_none {s : State} (h : s.engine.read = none) : s.finishLiveRead = s := liveReads_of_none h 13

end Sys2Proof.Proofs

/-! Frames (95). What each command leaves alone, block by block. -/

namespace Sys2Proof.Proofs
open Sys2Proof.Machine

/-- A CONTROL write leaves the bus, the picture and the queue. -/
theorem writeRunSet_frame (s : State) :
    s.writeRunSet.engine = s.engine ∧ s.writeRunSet.busData = s.busData ∧ s.writeRunSet.pixOut = s.pixOut ∧
      s.writeRunSet.draws = s.draws ∧ s.writeRunSet.pending = s.pending ∧
      s.writeRunSet.port.pointer = s.port.pointer ∧ s.writeRunSet.port.latch = s.port.latch ∧
      s.writeRunSet.port.enables = s.port.enables ∧ s.writeRunSet.port.ident = s.port.ident := by
  unfold State.writeRunSet; split <;> simp

theorem writeRunClear_frame (s : State) :
    s.writeRunClear.position = s.position ∧ s.writeRunClear.sequencer = s.sequencer ∧
      s.writeRunClear.tracker = s.tracker ∧ s.writeRunClear.requests = s.requests ∧
      s.writeRunClear.setup = s.setup ∧ s.writeRunClear.busData = s.busData ∧
      s.writeRunClear.pixOut = s.pixOut ∧ s.writeRunClear.pending = s.pending ∧
      s.writeRunClear.port.pointer = s.port.pointer ∧ s.writeRunClear.port.latch = s.port.latch ∧
      s.writeRunClear.port.enables = s.port.enables ∧ s.writeRunClear.port.ident = s.port.ident := by
  unfold State.writeRunClear; split <;> simp

/-- A port reset leaves cue memory, the outputs, the draw counter and the queue. -/
theorem portReset_frame (s : State) :
    s.portReset.cue = s.cue ∧ s.portReset.busData = s.busData ∧ s.portReset.pixOut = s.pixOut ∧
      s.portReset.draws = s.draws ∧ s.portReset.pending = s.pending := ⟨rfl, rfl, rfl, rfl, rfl⟩

theorem writeControl_frame (s : State) (v : Word) :
    (s.writeControl v).busData = s.busData ∧ (s.writeControl v).pixOut = s.pixOut ∧
      (s.writeControl v).pending = s.pending := by
  unfold State.writeControl
  split
  · simp [portReset_frame]
  · split <;> simp [writeRunSet_frame, writeRunClear_frame]

theorem pending_of_exec {c : Instr} {s t : State} (h : exec c s = .next t) : t.pending = s.pending := by
  cases c with
  | registerWriteOther write =>
    cases write <;> cases h <;> simp [portReset_frame, writeControl_frame]
  | dataWrite value =>
    obtain ⟨u, hu, -, -, -, hframe⟩ := exec_dataWrite value s
    cases hu.symm.trans h
    rw [hframe]
  | perfLineChange a b =>
    simp only [exec, execPerfLineChange] at h
    split at h <;> cases h <;> simp
  | edgeReading value valid =>
    rw [exec_edgeReading, Host.Outcome.next.injEq] at h
    simp [← h]
  | stillnessTimerExpiry =>
    simp only [exec, execStillnessTimerExpiry] at h
    split at h <;> cases h <;> rfl
  | referenceTimerExpiry =>
    simp only [exec, execReferenceTimerExpiry] at h
    split at h <;> cases h <;> simp
  | activeStart =>
    simp only [exec, execActiveStart] at h
    split at h <;> cases h <;> simp
  | liveRecordWordRead =>
    simp only [exec, execLiveRecordWordRead] at h
    split at h <;> cases h <;> simp
  | _ => cases h <;> simp [State.powerOn, portReset_frame, writeRunSet_frame, writeRunClear_frame]

/-- Settles O1: `step` by definition, and the queue's frame. -/
theorem stepTakesFrontCommand : Obligations.StepTakesFrontCommand :=
  fun _ _ _ => ⟨rfl, fun _ h => pending_of_exec h, rfl⟩

theorem agrees_of_exec {c : Instr} {s t : State} (h : exec c s = .next t) {b : Block} (hb : mayChange c b = false) :
    s.agrees t b := by
  cases c with
  | registerWriteOther write =>
    cases write <;> cases h <;> cases b <;>
      simp [mayChange, State.agrees, portReset_frame, writeControl_frame] at hb ⊢
  | dataWrite value =>
    obtain ⟨u, hu, -, -, -, hframe⟩ := exec_dataWrite value s
    cases hu.symm.trans h
    rw [hframe]
    cases b <;> simp [mayChange, State.agrees] at hb ⊢
  | perfLineChange a b' =>
    simp only [exec, execPerfLineChange] at h
    split at h <;> cases h <;> cases b <;> simp [mayChange, State.agrees] at hb ⊢
  | edgeReading value valid =>
    rw [exec_edgeReading, Host.Outcome.next.injEq] at h
    cases b <;> simp [mayChange, State.agrees, ← h] at hb ⊢
  | stillnessTimerExpiry =>
    simp only [exec, execStillnessTimerExpiry] at h
    split at h <;> cases h <;> cases b <;> simp [mayChange, State.agrees] at hb ⊢
  | referenceTimerExpiry =>
    simp only [exec, execReferenceTimerExpiry] at h
    split at h <;> cases h <;> cases b <;> simp [mayChange, State.agrees] at hb ⊢
  | activeStart =>
    simp only [exec, execActiveStart] at h
    split at h <;> cases h <;> cases b <;> simp [mayChange, State.agrees] at hb ⊢
  | liveRecordWordRead =>
    simp only [exec, execLiveRecordWordRead] at h
    split at h <;> cases h <;> cases b <;> simp [mayChange, State.agrees] at hb ⊢
  | _ =>
    cases h <;> cases b <;>
      simp [mayChange, State.agrees, portReset_frame, writeRunSet_frame, writeRunClear_frame,
        State.advancePointer] at hb ⊢

/-- Settles O2: `exec_eq_next`, the queue's frame and the blocks' frames. -/
theorem everyCommandCompletesWithinItsBlocks : Obligations.EveryCommandCompletesWithinItsBlocks :=
  fun c s => ⟨commandResult c s, exec_eq_next c s, pending_of_exec (exec_eq_next c s),
    fun _ => agrees_of_exec (exec_eq_next c s)⟩

end Sys2Proof.Proofs

/-! Cue memory by region (R174). `Memory.ChangesWithin` composes along a chain of writes, so each operation is given one
lemma: the region its writes stay in. -/

namespace Sys2Proof.Machine

theorem Memory.ChangesWithin.refl (P : Nat → Prop) (m : Memory) : Memory.ChangesWithin P m m :=
  ⟨fun _ _ => rfl, id⟩

theorem Memory.ChangesWithin.of_eq {P : Nat → Prop} {m m' : Memory} (h : m' = m) : Memory.ChangesWithin P m m' :=
  h ▸ .refl P m

theorem Memory.ChangesWithin.trans {P : Nat → Prop} {m₁ m₂ m₃ : Memory} (h : Memory.ChangesWithin P m₁ m₂)
    (h' : Memory.ChangesWithin P m₂ m₃) : Memory.ChangesWithin P m₁ m₃ :=
  ⟨fun a ha => (h'.1 a ha).trans (h.1 a ha), fun hwf => h'.2 (h.2 hwf)⟩

theorem Memory.ChangesWithin.mono {P Q : Nat → Prop} {m m' : Memory} (h : Memory.ChangesWithin P m m')
    (hPQ : ∀ a, P a → Q a) : Memory.ChangesWithin Q m m' :=
  ⟨fun a ha => h.1 a fun hP => ha (hPQ a hP), h.2⟩

theorem Memory.ChangesWithin.or_left {P : Nat → Prop} {m m' : Memory} (h : Memory.ChangesWithin P m m')
    (Q : Nat → Prop) : Memory.ChangesWithin (fun a => P a ∨ Q a) m m' := h.mono fun _ => .inl

theorem Memory.ChangesWithin.or_right {Q : Nat → Prop} {m m' : Memory} (h : Memory.ChangesWithin Q m m')
    (P : Nat → Prop) : Memory.ChangesWithin (fun a => P a ∨ Q a) m m' := h.mono fun _ => .inr

theorem Memory.ChangesWithin.read {P : Nat → Prop} {m m' : Memory} (h : Memory.ChangesWithin P m m') {a : Nat}
    (ha : ¬P a) : Memory.read m' a = Memory.read m a := h.1 a ha

theorem Memory.ChangesWithin.wf {P : Nat → Prop} {m m' : Memory} (h : Memory.ChangesWithin P m m')
    (hwf : Memory.wf m = true) : Memory.wf m' = true := h.2 hwf

end Sys2Proof.Machine

namespace Sys2Proof.Proofs
open Sys2Proof.Machine

theorem changesWithin_writeAll {P : Nat → Prop} {cs : List (Nat × Word)} (m : Memory)
    (h : ∀ c ∈ cs, P c.1 ∧ c.1 < cueSize) : Memory.ChangesWithin P m (Memory.writeAll m cs) :=
  ⟨fun a ha => Memory.read_writeAll_other m cs a fun c hc hca => ha (hca ▸ (h c hc).1),
    fun hwf => Memory.wf_writeAll m cs hwf fun c hc => (h c hc).2⟩

theorem changesWithin_write {P : Nat → Prop} (m : Memory) {a : Nat} (w : Word) (hP : P a) (ha : a < cueSize) :
    Memory.ChangesWithin P m (Memory.write m a w) :=
  changesWithin_writeAll (cs := [(a, w)]) m (by simpa using ⟨hP, ha⟩)

/-! ### The status block and the pass block -/

theorem length_trackerWords (t : Tracker) : (trackerWords t).length = 5 := by
  unfold trackerWords; split <;> rfl

theorem length_gradeWords (g : Grade) : (gradeWords g).length = 10 := by simp [gradeWords]

theorem length_statusWords (s : State) (f : FieldMoment) : (s.statusWords f).length = 32 := by
  simp [State.statusWords, bothWords, length_trackerWords, length_gradeWords]

theorem changesWithin_writeStatus (s : State) (f : FieldMoment) :
    Memory.ChangesWithin inStatus s.cue (s.writeStatus f).cue := by
  refine changesWithin_writeAll s.cue fun c hc => ?_
  unfold inStatus cueSize
  rcases List.mem_append.mp hc with hc | hc
  · have := mem_cellsFrom _ _ c hc
    rw [length_statusWords] at this
    unfold statusBase at this
    omega
  · simp only [pairCells, statusBase, List.mem_cons, List.not_mem_nil, or_false] at hc
    rcases hc with rfl | rfl <;> simp

theorem passCells_inPassBlock (p : Pass) : ∀ c ∈ passCells p, inPassBlock c.1 ∧ c.1 < cueSize := by
  simp [passCells, pairCells, passBase, inPassBlock, cueSize]

theorem changesWithin_setPass (s : State) (p : Pass) : Memory.ChangesWithin inPassBlock s.cue (s.setPass p).cue := by
  unfold State.setPass
  dsimp only
  split
  · exact (changesWithin_writeAll _ (passCells_inPassBlock p)).trans (.of_eq rfl)
  · exact .of_eq rfl

theorem changesWithin_changePass (s : State) (p : Pass) :
    Memory.ChangesWithin inPassBlock s.cue (s.changePass p).1.cue := by
  simpa [State.changePass] using changesWithin_setPass s p

theorem changesWithin_faultPassIf (s : State) (reached : Bool) (c : Condition) :
    Memory.ChangesWithin inPassBlock s.cue (s.faultPassIf reached c).1.cue := by
  cases reached with
  | false => exact .refl _ _
  | true => exact changesWithin_changePass s _

theorem changesWithin_countPass (s : State) : Memory.ChangesWithin inPassBlock s.cue s.countPass.1.cue := by
  have hcue : s.countFrame.2.cue = s.cue := by simp
  unfold State.countPass
  dsimp only
  split
  · exact hcue ▸ changesWithin_setPass s.countFrame.2 _
  · exact hcue ▸ changesWithin_changePass s.countFrame.2 _

theorem changesWithin_judgePass (s : State) : Memory.ChangesWithin inPassBlock s.cue s.judgePass.1.cue := by
  unfold State.judgePass
  split
  · unfold State.judgeCued
    dsimp only
    split
    · exact changesWithin_changePass s _
    · split
      · exact changesWithin_changePass s _
      · exact .refl _ _
  · unfold State.judgeRecording
    dsimp only
    split
    · split
      · exact changesWithin_countPass s
      · split <;> exact changesWithin_changePass s _
    · split
      · exact changesWithin_changePass s _
      · exact .refl _ _
  · exact .refl _ _

theorem changesWithin_passStopPulse (s : State) (pulse : Bool) :
    Memory.ChangesWithin inPassBlock s.cue (s.passStopPulse pulse).cue := by
  unfold State.passStopPulse
  split
  · exact changesWithin_setPass s _
  · exact .refl _ _

theorem lossCells_inStatus (q : Sequencer) : ∀ c ∈ lossCells q, inStatus c.1 ∧ c.1 < cueSize := by
  simp [lossCells, statusBase, inStatus, cueSize]

theorem changesWithin_loseReference (s : State) : Memory.ChangesWithin inStatus s.cue s.loseReference.1.cue := by
  have hcells := changesWithin_writeAll s.cue (lossCells_inStatus s.sequencer.lost)
  unfold State.loseReference
  by_cases hinit : s.initialised = true <;> by_cases hlocked : s.sequencer.locked = true <;>
    simp [hinit, hlocked, hcells, Memory.ChangesWithin.refl]

/-! ### The ring -/

theorem length_padDetail (d : List Word) : (padDetail d).length = 8 := by simp [padDetail]

theorem length_recordWords (r : Record) (fc : DWord) : (recordWords r fc).length = 15 := by
  simp [recordWords, bothWords, length_padDetail]

theorem ringPlace_bounds (i : Nat) : 0x9000 ≤ ringPlace i ∧ ringPlace i + 16 ≤ 0xB000 := by
  unfold ringPlace ringBase ringPlaces; omega

/-- The sixteen cells of a record, SEQUENCE last. -/
def recordCells (place : Nat) (r : Record) (fc : DWord) (sequence : Word) : List (Nat × Word) :=
  cellsFrom (place + 1) (recordWords r fc) ++ [(place, sequence)]

theorem mem_recordCells {place : Nat} {r : Record} {fc : DWord} {sequence : Word} {c : Nat × Word}
    (h : c ∈ recordCells place r fc sequence) : place ≤ c.1 ∧ c.1 < place + 16 := by
  rcases List.mem_append.mp h with h | h
  · have := mem_cellsFrom _ _ c h
    rw [length_recordWords] at this
    omega
  · rw [List.mem_singleton.mp h]; simp

theorem appendRecord_cue (s : State) (r : Record) (fc : DWord) :
    (s.appendRecord r fc).cue =
      Memory.writeAll s.cue (recordCells (ringPlace s.writer.writeCount.toNat) r fc s.writer.sequence) := by
  simp [State.appendRecord, recordCells, Memory.writeAll_append]

theorem changesWithin_appendRecord (s : State) (r : Record) (fc : DWord) :
    Memory.ChangesWithin inRing s.cue (s.appendRecord r fc).cue := by
  rw [appendRecord_cue]
  refine changesWithin_writeAll _ fun c hc => ?_
  have hcell := mem_recordCells hc
  have hplace := ringPlace_bounds s.writer.writeCount.toNat
  unfold inRing cueSize
  omega

theorem changesWithin_writeOrDrop (s : State) (r : Record) : Memory.ChangesWithin inRing s.cue (s.writeOrDrop r).cue := by
  unfold State.writeOrDrop
  split
  · exact changesWithin_appendRecord s r _
  · exact .of_eq (by simp)

theorem changesWithin_hand (s : State) (r : Record) : Memory.ChangesWithin inRing s.cue (s.hand r).cue := by
  unfold State.hand
  split
  · split
    · exact changesWithin_writeOrDrop s r
    · split
      · exact (changesWithin_appendRecord s _ _).trans (changesWithin_writeOrDrop (s.closeGap _) r)
      · exact .of_eq (by simp)
  · exact .refl _ _

theorem changesWithin_handEach (s : State) (rs : List Record) : Memory.ChangesWithin inRing s.cue (s.handEach rs).cue := by
  induction rs generalizing s with
  | nil => exact .refl _ _
  | cons r rs ih => exact (changesWithin_hand s r).trans (ih _)

theorem changesWithin_handMixed (fuel : Nat) (s : State) (qs : List (List Record)) :
    Memory.ChangesWithin inRing s.cue (State.handMixed fuel s qs).cue := by
  induction fuel generalizing s qs with
  | zero => exact .refl _ _
  | succ fuel ih =>
    unfold State.handMixed
    split
    · exact .refl _ _
    · exact changesWithin_handEach s _
    · dsimp only
      split
      · exact (changesWithin_hand s.drawWord.2 _).trans (ih _ _)
      · exact .of_eq (by simp)

theorem changesWithin_handTogether (s : State) (qs : List (List Record)) :
    Memory.ChangesWithin inRing s.cue (s.handTogether qs).cue := changesWithin_handMixed _ s _

/-! ### The live read and the field -/

/-- The words a field's engine work and its reports write. -/
def inStatusOrRing (a : Nat) : Prop := inStatus a ∨ inRing a

theorem changesWithin_endLiveRead (s : State) (read : LiveRead) :
    Memory.ChangesWithin inStatusOrRing s.cue (s.endLiveRead read).cue := by
  have hdone (e : Engine) : Memory.ChangesWithin inStatusOrRing s.cue
      (({ s with engine := e }.buildCoefficients).writeStatus read.moment).cue := by
    refine .trans (.of_eq ?_) ((changesWithin_writeStatus _ _).or_left _)
    simp
  unfold State.endLiveRead
  dsimp only
  split
  · split
    · exact (hdone _).trans ((changesWithin_hand _ _).or_right _)
    · exact hdone _
  · split
    · have hcue (u : State) : (u.setCause .stale).cue = u.cue := by simp
      rw [hcue]
      refine .trans ?_ ((changesWithin_hand _ _).or_right _)
      split
      · exact hdone _
      · exact (hdone (s.engine.tear s.setup.liveStaleLimit)).trans (.of_eq (by simp))
    · exact hdone _

theorem changesWithin_liveWordRead (s : State) (read : LiveRead) :
    Memory.ChangesWithin inStatusOrRing s.cue (s.liveWordRead read).cue := by
  unfold State.liveWordRead
  dsimp only
  split
  · exact changesWithin_endLiveRead s _
  · exact .refl _ _

theorem changesWithin_liveReads (fuel : Nat) (s : State) :
    Memory.ChangesWithin inStatusOrRing s.cue (State.liveReads fuel s).cue := by
  induction fuel generalizing s with
  | zero => exact .refl _ _
  | succ fuel ih =>
    unfold State.liveReads
    split
    · exact (changesWithin_liveWordRead s _).trans (ih _)
    · exact .refl _ _

theorem changesWithin_finishLiveRead (s : State) : Memory.ChangesWithin inStatusOrRing s.cue s.finishLiveRead.cue :=
  changesWithin_liveReads 13 s

theorem changesWithin_engineField (s : State) (trimHold : Bool) :
    Memory.ChangesWithin inStatus s.cue (s.engineField trimHold).cue := by
  unfold State.engineField
  split
  · split
    · refine .trans (.of_eq ?_) (changesWithin_writeStatus _ _)
      simp
    · exact .refl _ _
  · split
    · exact changesWithin_writeStatus s _
    · exact .refl _ _

end Sys2Proof.Proofs

/-! What the part can do. A command is a chain of stages, each one change of one block; a stage says under what condition
the part makes it. An invariant is then proved stage by stage, and no proof of one walks through a command again. -/

namespace Sys2Proof.Proofs
open Sys2Proof.Machine

/-! ### Stages -/

/-- The two states agree in everything the laws read: all but the matrix, the outputs, the draw counter, the queue and
the port but for the run state. -/
structure SameView (s t : State) : Prop where
  position : t.position = s.position
  sequencer : t.sequencer = s.sequencer
  tracker : t.tracker = s.tracker
  engine : t.engine = s.engine
  requests : t.requests = s.requests
  pass : t.pass = s.pass
  writer : t.writer = s.writer
  run : t.port.run = s.port.run
  setup : t.setup = s.setup
  cue : t.cue = s.cue

/-- The changes of the position counter (R2 to R14). -/
inductive PositionChange (s : State) : Position → Prop
  | idle {p : Position} (hcount : p.count = s.position.count) (hgauge : p.gauge = s.position.gauge)
      (hstate : p.state = s.position.state) : PositionChange s p
  | refuse {d : StepDirection} (h : s.position.refuses d = true) :
      PositionChange s { s.position with state := .limit d.rangeEnd }
  | count {d : StepDirection} (h : s.position.refuses d = false) :
      PositionChange s { s.position with count := d.applied s.position.count, state := s.position.state.afterStep d }
  | good : PositionChange s { s.position with state := .good }
  | suspect (d : Int) (h : s.setup.edgeMode = .follow) : PositionChange s { s.position with state := .suspect d }
  | fault (h : s.setup.edgeMode = .watch) : PositionChange s { s.position with state := .fault }
  | resynchronise (g : Int) :
      PositionChange s
        { s.position with
          count := s.position.gauge.perfs * clampFrame g + s.position.phase, state := .good }

/-- The changes of the pass (R138 to R145). -/
inductive PassChange (s : State) : Pass → Prop
  | enter (hcued : s.pass.state = .cued) (hframe : s.sequencer.fieldFrame = s.pass.inFrame) :
      PassChange s
        { s.pass with
          state := .recording, expected := s.pass.inFrame + 1, startFieldCount := s.sequencer.fieldCount }
  | fault (hlive : s.pass.state.live = true) (c : Condition) : PassChange s (s.pass.faultedWith c)
  | count (hrec : s.pass.state = .recording) (hframe : s.sequencer.fieldFrame = s.pass.expected) {n : Nat}
      (hn : n ≤ 4294967295) (hexact : s.pass.recorded + 1 ≤ 4294967295 → n = s.pass.recorded + 1) :
      PassChange s (s.pass.counted n)
  | stop (hrec : s.pass.state = .recording) : PassChange s { s.pass with stopPending := true }
  | start (hrun : s.port.run = .running) {f : Int} (hf : inRange f) {n : Nat} (hn : n ≤ 4294967295) :
      PassChange s (Pass.started f n)
  | resume (hrun : s.port.run = .running) (hpaused : s.pass.state = .paused) :
      PassChange s { s.pass with state := .cued, condition := .none, inFrame := s.pass.expected }
  | abandon (hrun : s.port.run = .running) (h : s.pass.state = .cued ∨ s.pass.state = .paused) :
      PassChange s { s.pass with state := .idle, condition := .abandoned }

/-- The stages of every command but the handling of an ACTIVE START, the host's DATA writes and the run control. -/
inductive EventStage : State → State → Prop
  | same {s t : State} (h : SameView s t) : EventStage s t
  | status {s : State} {m : Memory} (h : Memory.ChangesWithin inStatus s.cue m) : EventStage s { s with cue := m }
  | hand (s : State) (r : Record) : EventStage s (s.hand r)
  | release (s : State) (v : Word) : EventStage s (s.release v)
  | engine {s : State} (e : Engine) (hactive : s.port.run = .running ∨ s.engine.read ≠ none)
      (hset : e.coefficients = s.engine.coefficients) : EventStage s { s with engine := e }
  | build {s : State} (e : Engine) (hactive : s.port.run = .running ∨ s.engine.read ≠ none)
      (hset : e.coefficients = s.engine.coefficients) : EventStage s { s with engine := e }.buildCoefficients
  | takeField (s : State) (id : FieldIdentity) (b : Bool) : EventStage s { s with sequencer := s.fieldSequencer id b }
  | loseReference (s : State) : EventStage s { s with sequencer := s.sequencer.lost }
  | takeFlag (s : State) : EventStage s s.takeActiveFlag
  | splitPending {s : State} (hrun : s.port.run = .running) :
      EventStage s (s.setSplitPending (some s.sequencer.fieldFrame))
  | resolved {s : State} (hrun : s.port.run = .running) {c : Slot} {n : Nat}
      (hwalk : walk s.cue s.sequencer.fieldFrame s.setup.walkLimit s.tracker.current 0 = (c, n)) :
      EventStage s { s with tracker := s.tracker.afterResolved (resolvedRecord s.cue s.sequencer c n) }
  | held {s : State} (hrun : s.port.run = .running) {c : Slot} {n : Nat}
      (hwalk : walk s.cue s.sequencer.fieldFrame s.setup.walkLimit s.tracker.current 0 = (c, n)) :
      EventStage s { s with tracker := s.tracker.afterHeld (heldRecord s.cue s.sequencer c n) }
  | pass {s : State} {p : Pass} (h : PassChange s p) : EventStage s (s.setPass p)
  | position {s : State} {p : Position} (h : PositionChange s p) : EventStage s { s with position := p }

/-- Stages one after another. -/
abbrev EventStages : State → State → Prop := Relation.ReflTransGen EventStage

theorem SameView.refl (s : State) : SameView s s := by constructor <;> rfl

theorem sameView_drawWord (s : State) : SameView s s.drawWord.2 := by constructor <;> simp

theorem sameView_drawDWord (s : State) : SameView s s.drawDWord.2 := by constructor <;> simp

theorem sameView_setCause (s : State) (c : Cause) : SameView s (s.setCause c) := by constructor <;> simp

theorem sameView_setCauseIf (s : State) (b : Bool) (c : Cause) : SameView s (s.setCauseIf b c) := by
  constructor <;> simp

theorem sameView_blipIf (s : State) (b : Bool) (g : Generator) : SameView s (s.blipIf b g) := by constructor <;> simp

theorem sameView_turnInversions (s : State) : SameView s s.turnInversions := by constructor <;> simp

theorem sameView_formPresentation (s : State) : SameView s s.formPresentation := by constructor <;> simp

theorem sameView_rollPulses (s : State) (p : Pulses) : SameView s (s.rollPulses p) := by constructor <;> simp

theorem sameView_clearInternalEdges (s : State) : SameView s s.clearInternalEdges := by constructor <;> simp

theorem sameView_emptyLatch (s : State) : SameView s s.emptyLatch := by constructor <;> simp

theorem EventStages.single {s t : State} (h : EventStage s t) : EventStages s t := Relation.ReflTransGen.single h

theorem EventStages.tail {s t u : State} (h : EventStages s t) (h' : EventStage t u) : EventStages s u :=
  Relation.ReflTransGen.tail h h'

theorem EventStages.trans {s t u : State} (h : EventStages s t) (h' : EventStages t u) : EventStages s u :=
  Relation.ReflTransGen.trans h h'

theorem EventStages.head {s t u : State} (h : EventStage s t) (h' : EventStages t u) : EventStages s u :=
  Relation.ReflTransGen.head h h'

theorem EventStages.view {s t u : State} (h : EventStages s t) (hview : SameView t u) : EventStages s u :=
  h.tail (.same hview)

theorem EventStages.of_view {s t : State} (h : SameView s t) : EventStages s t := .single (.same h)

/-- What every stage keeps, a chain of stages keeps. -/
theorem EventStages.keeps {I : State → Prop} (hI : ∀ s t, EventStage s t → I s → I t) {s t : State}
    (h : EventStages s t) (hs : I s) : I t := by
  induction h with
  | refl => exact hs
  | tail _ hlast ih => exact hI _ _ hlast ih

/-! ### Reports -/

theorem eventStages_handEach (s : State) (rs : List Record) : EventStages s (s.handEach rs) := by
  induction rs generalizing s with
  | nil => exact .refl
  | cons r rs ih => exact .head (.hand s r) (ih _)

theorem eventStages_handMixed (fuel : Nat) (s : State) (qs : List (List Record)) :
    EventStages s (State.handMixed fuel s qs) := by
  induction fuel generalizing s qs with
  | zero => exact .refl
  | succ fuel ih =>
    have hdrawn : EventStages s s.drawWord.2 := .of_view (by constructor <;> simp)
    unfold State.handMixed
    split
    · exact .refl
    · exact eventStages_handEach s _
    · dsimp only
      split
      · exact hdrawn.trans (.head (.hand _ _) (ih _ _))
      · exact hdrawn

theorem eventStages_handTogether (s : State) (qs : List (List Record)) : EventStages s (s.handTogether qs) :=
  eventStages_handMixed _ s _

/-! ### The live read -/

theorem eventStage_writeStatus (s : State) (f : FieldMoment) : EventStage s (s.writeStatus f) :=
  .status (changesWithin_writeStatus s f)

theorem eventStages_build {s : State} (e : Engine) (hactive : s.port.run = .running ∨ s.engine.read ≠ none)
    (hset : e.coefficients = s.engine.coefficients) (f : FieldMoment) :
    EventStages s (({ s with engine := e }.buildCoefficients).writeStatus f) :=
  .tail (.single (.build e hactive hset)) (eventStage_writeStatus _ f)

theorem eventStages_endLiveRead {s : State} (h : s.engine.read ≠ none) (read : LiveRead) :
    EventStages s (s.endLiveRead read) := by
  have hbuild (e : Engine) (hset : e.coefficients = s.engine.coefficients) :=
    eventStages_build e (.inr h) hset read.moment
  have htorn := hbuild (s.engine.tear s.setup.liveStaleLimit) rfl
  unfold State.endLiveRead
  dsimp only
  split
  · split
    · exact (hbuild (s.engine.take _) rfl).tail (.hand _ _)
    · exact hbuild (s.engine.take _) rfl
  · split
    · cases s.engine.revision with
      | some rev => exact .view (htorn.tail (.hand _ _)) (sameView_setCause _ _)
      | none =>
        exact .view (.tail (.view htorn (sameView_drawWord _)) (.hand _ _)) (sameView_setCause _ _)
    · exact htorn

theorem eventStages_liveWordRead {s : State} {read : LiveRead} (h : s.engine.read ≠ none) :
    EventStages s (s.liveWordRead read) := by
  unfold State.liveWordRead
  dsimp only
  split
  · exact eventStages_endLiveRead h _
  · exact .single (.engine _ (.inr h) rfl)

theorem eventStages_liveReads (fuel : Nat) (s : State) : EventStages s (State.liveReads fuel s) := by
  induction fuel generalizing s with
  | zero => exact .refl
  | succ fuel ih =>
    unfold State.liveReads
    split
    · next read hread => exact (eventStages_liveWordRead (by simp [hread])).trans (ih _)
    · exact .refl

theorem eventStages_finishLiveRead (s : State) : EventStages s s.finishLiveRead := eventStages_liveReads 13 s

theorem eventStages_engineField (s : State) (trimHold : Bool) : EventStages s (s.engineField trimHold) := by
  unfold State.engineField
  split
  · next hrun =>
    split
    · exact eventStages_build { s.engine with liveState := .held } (.inl hrun) rfl _
    · exact .single (.engine _ (.inl hrun) rfl)
  · split
    · exact .single (eventStage_writeStatus s _)
    · exact .refl

/-! ### The sequencer -/

@[simp] theorem takeField_sequencer (s : State) (id : FieldIdentity) (b : Bool) :
    (s.takeField id b).1.sequencer = s.fieldSequencer id b := by
  unfold State.takeField; dsimp only; split <;> simp

@[simp] theorem loseReference_sequencer (s : State) : s.loseReference.1.sequencer = s.sequencer.lost := by
  unfold State.loseReference; dsimp only; (repeat' split) <;> simp

theorem eventStages_takeField (s : State) (id : FieldIdentity) (b : Bool) : EventStages s (s.takeField id b).1 :=
  .view (.single (.takeField s id b)) (by constructor <;> simp)

theorem eventStages_loseReference (s : State) : EventStages s s.loseReference.1 :=
  .view
    (.tail (.single (.loseReference s)) (.status (m := s.loseReference.1.cue) (changesWithin_loseReference s)))
    (by constructor <;> simp)

theorem eventStages_splitPulse (s : State) (b : Bool) : EventStages s (s.splitPulse b).1 := by
  unfold State.splitPulse
  split
  · next h =>
    split
    · exact .single (.splitPending h.2)
    · exact .refl
  · exact .refl

/-! ### The tracker -/

@[simp] theorem resolveCovered_tracker (s : State) (c : Slot) (n : Nat) :
    (s.resolveCovered c n).state.tracker = s.tracker.afterResolved (resolvedRecord s.cue s.sequencer c n) := by
  unfold State.resolveCovered; dsimp only; split <;> simp

@[simp] theorem resolveHeld_tracker (s : State) (c : Slot) (n : Nat) :
    (s.resolveHeld c n).state.tracker = s.tracker.afterHeld (heldRecord s.cue s.sequencer c n) := by
  unfold State.resolveHeld; dsimp only; split <;> simp

theorem eventStages_resolve (s : State) : EventStages s s.resolve.state := by
  unfold State.resolve
  split
  · next hrun =>
    dsimp only
    split
    · exact .view (.single (.resolved hrun rfl)) (by constructor <;> simp)
    · exact .view (.single (.held hrun rfl)) (by constructor <;> simp)
  · exact .refl

/-! ### The pass -/

theorem eventStages_changePass {s : State} {p : Pass} (h : PassChange s p) : EventStages s (s.changePass p).1 :=
  .view (.single (.pass h)) (by constructor <;> simp [State.changePass])

theorem eventStages_faultPassIf {s : State} {reached : Bool} (h : reached = true → s.pass.state.live = true)
    (c : Condition) : EventStages s (s.faultPassIf reached c).1 := by
  cases reached with
  | false => exact .refl
  | true => exact eventStages_changePass (.fault (h rfl) c)

theorem countFrame_exact {s : State} (h : s.pass.recorded + 1 ≤ 4294967295) :
    s.countFrame.1 = s.pass.recorded + 1 := by
  unfold State.countFrame
  rw [if_pos h]

theorem countFrame_le (s : State) : s.countFrame.1 ≤ 4294967295 := by
  unfold State.countFrame
  split
  · assumption
  · exact Nat.le_of_lt_succ (BitVec.isLt _)

theorem eventStages_countPass {s : State} (hrec : s.pass.state = .recording)
    (hframe : s.sequencer.fieldFrame = s.pass.expected) : EventStages s s.countPass.1 := by
  have hdrawn : EventStages s s.countFrame.2 := .of_view (by constructor <;> simp)
  have hchange : PassChange s.countFrame.2 (s.countFrame.2.pass.counted s.countFrame.1) :=
    .count (by simpa using hrec) (by simpa using hframe) (countFrame_le s)
      (by simpa using countFrame_exact)
  unfold State.countPass
  dsimp only
  split
  · exact hdrawn.tail (.pass hchange)
  · exact hdrawn.trans (eventStages_changePass hchange)

theorem eventStages_judgePass (s : State) : EventStages s s.judgePass.1 := by
  unfold State.judgePass
  split
  · next hcued =>
    have hlive : s.pass.state.live = true := by rw [hcued]; rfl
    unfold State.judgeCued
    dsimp only
    split
    · next h => exact eventStages_changePass (.enter hcued h.1)
    · split
      · exact eventStages_changePass (.fault hlive _)
      · exact .refl
  · next hrec =>
    have hlive : s.pass.state.live = true := by rw [hrec]; rfl
    unfold State.judgeRecording
    dsimp only
    split
    · split
      · next h => exact eventStages_countPass hrec h
      · split <;> exact eventStages_changePass (.fault hlive _)
    · split
      · exact eventStages_changePass (.fault hlive _)
      · exact .refl
  · exact .refl

theorem eventStages_passStopPulse (s : State) (b : Bool) : EventStages s (s.passStopPulse b) := by
  unfold State.passStopPulse
  split
  · next h => exact .single (.pass (.stop h.2))
  · exact .refl

/-! ### The position counter -/

theorem eventStages_perfStep (s : State) (d : StepDirection) : EventStages s (s.perfStep d).1 := by
  have hnoted : EventStages s (s.noteStep d) :=
    .single (.position (p := (s.noteStep d).position) (.idle rfl rfl rfl))
  unfold State.perfStep
  dsimp only
  split
  · next h =>
    unfold State.refuseStep
    split
    · exact hnoted
    · exact .view (hnoted.tail (.position (.refuse (d := d) h))) (by constructor <;> simp)
  · next h =>
    exact .view (hnoted.tail (.position (.count (d := d) (Bool.eq_false_iff.mpr h))))
      (by constructor <;> simp [State.countStep])

theorem eventStage_setPositionState {s : State} {st : PositionState}
    (h : PositionChange s { s.position with state := st }) : EventStage s (s.setPositionState st) := .position h

theorem eventStages_edgeReading (s : State) (v : BitVec 24) (valid : Bool) : EventStages s (s.edgeReading v valid).1 := by
  unfold State.edgeReading
  split
  · exact .refl
  · dsimp only
    split
    · exact .refl
    · next hmode =>
      unfold State.followReading
      split
      · split
        · exact .refl
        · exact .single (eventStage_setPositionState (.suspect _ hmode))
      · split
        · exact .single (eventStage_setPositionState .good)
        · split
          · exact .view (.single (.position (.resynchronise (s.setup.gateFrame v))))
              (by constructor <;> simp [State.resynchronise])
          · exact .single (eventStage_setPositionState (.suspect _ hmode))
      · exact .refl
      · exact .refl
    · next hmode =>
      unfold State.watchReading
      split
      · split
        · exact .refl
        · exact .view (.single (eventStage_setPositionState (.fault hmode))) (by constructor <;> simp)
      · split
        · exact .single (eventStage_setPositionState .good)
        · exact .refl
      · exact .refl
      · exact .refl

theorem live_of_positionFaultReaches {s t : State} (h : s.positionFaultReaches t = true) : t.pass.state.live = true := by
  simp only [State.positionFaultReaches, Bool.and_eq_true, beq_iff_eq] at h
  rw [h.2]; rfl

/-! ### Whole commands -/

theorem eventStages_fieldStart (s : State) (id : FieldIdentity) : EventStages s (s.fieldStart id) := by
  unfold State.fieldStart
  dsimp only
  refine .trans ?_ (eventStages_engineField _ _)
  refine .trans ?_ (eventStages_handTogether _ _)
  refine .view ?_ (sameView_rollPulses _ _)
  refine .trans ?_ (eventStages_passStopPulse _ _)
  refine .trans ?_ (eventStages_judgePass _)
  refine .trans ?_ (eventStages_resolve _)
  refine .trans ?_ (eventStages_splitPulse _ _)
  refine .trans ?_ (eventStages_takeField _ _ _)
  exact ((eventStages_finishLiveRead s).view (sameView_turnInversions _)).view (sameView_formPresentation _)

theorem eventStages_expireReference (s : State) : EventStages s s.expireReference :=
  (((eventStages_finishLiveRead s).trans (eventStages_loseReference _)).trans
    (eventStages_faultPassIf id _)).trans (eventStages_handTogether _ _)

/-- A command that neither handles requests nor writes for the host, and is no run control. -/
def eventCommand : Instr → Bool
  | .powerOnReset .. => false
  | .portReset => false
  | .runStart => false
  | .halt => false
  | .resume => false
  | .registerWriteOther (.ident _) => true
  | .registerWriteOther _ => false
  | .dataWrite _ => false
  | .activeStart => false
  | _ => true

theorem eventStages_perfLineChange (a b : Bool) (s : State) :
    EventStages s (commandResult (.perfLineChange a b) s) := by
  have hseen : EventStages s (s.takeLevels a b) :=
    .single (.position (p := (s.takeLevels a b).position) (.idle rfl rfl rfl))
  cases hstep : recogniseStep s.position.perfA s.position.perfB a b with
  | none => rw [commandResult_eq_of_exec (exec_perfLineChange_of_none hstep)]; exact hseen
  | some d =>
    rw [commandResult_eq_of_exec (exec_perfLineChange_of_some hstep)]
    exact (hseen.trans (eventStages_perfStep _ _)).trans (eventStages_handTogether _ _)

theorem eventStages_edgeReadingCommand (v : BitVec 24) (valid : Bool) (s : State) :
    EventStages s (commandResult (.edgeReading v valid) s) := by
  rw [commandResult_eq_of_exec (exec_edgeReading v valid s)]
  exact ((eventStages_edgeReading s v valid).trans
    (eventStages_faultPassIf live_of_positionFaultReaches _)).trans (eventStages_handTogether _ _)

theorem eventStages_commandResult {c : Instr} (hc : eventCommand c = true) (s : State) :
    EventStages s (commandResult c s) := by
  cases c with
  | registerWriteOther write =>
    cases write with
    | ident value => exact .of_view (sameView_emptyLatch s)
    | control value => cases hc
    | resetWithin moment => cases hc
  | perfLineChange a b => exact eventStages_perfLineChange a b s
  | edgeReading value valid => exact eventStages_edgeReadingCommand value valid s
  | stillnessTimerExpiry =>
    cases htimer : s.position.stillness with
    | stopped => rw [commandResult_eq_of_exec (exec_stillnessTimerExpiry_of_stopped htimer)]
    | running m =>
      rw [commandResult_eq_of_exec (exec_stillnessTimerExpiry_of_running (by simp [htimer]))]
      exact .single (.position (.idle rfl rfl rfl))
  | fieldStart id => exact eventStages_fieldStart s id
  | referenceTimerExpiry =>
    by_cases htimer : s.sequencer.timer = .stopped
    · rw [commandResult_eq_of_exec (exec_referenceTimerExpiry_of_stopped htimer)]
    · rw [commandResult_eq_of_exec (exec_referenceTimerExpiry_of_running htimer)]
      exact eventStages_expireReference s
  | liveRecordWordRead =>
    cases hread : s.engine.read with
    | none => rw [commandResult_eq_of_exec (exec_liveRecordWordRead_of_none hread)]
    | some read =>
      rw [commandResult_eq_of_exec (exec_liveRecordWordRead_of_some hread)]
      exact eventStages_liveWordRead (by simp [hread])
  | reportReleaseWrite value => exact .tail (.of_view (sameView_emptyLatch s)) (.release s.emptyLatch value)
  | powerOnReset a b g r => cases hc
  | portReset => cases hc
  | runStart => cases hc
  | halt => cases hc
  | resume => cases hc
  | dataWrite v => cases hc
  | activeStart => cases hc
  | _ => exact .of_view (by constructor <;> rfl)

end Sys2Proof.Proofs

/-! The words that the edits and the requests write: which region each change of cue memory stays in. -/

namespace Sys2Proof.Proofs
open Sys2Proof.Machine

/-! ### Addresses of slots and entries -/

theorem slotBase_bounds (x : Slot) : 0x1000 ≤ slotBase x ∧ slotBase x + 32 ≤ 0x9000 := by
  have := x.isLt
  unfold slotBase sceneBase
  omega

theorem entryBase_bounds (i : Fin 32) : 0x400 ≤ entryBase i ∧ entryBase i + 64 ≤ 0xC00 := by
  have := i.isLt
  unfold entryBase requestBase
  omega

theorem slotBase_inj {x y : Slot} {j k : Nat} (hj : j < 32) (hk : k < 32) :
    slotBase x + j = slotBase y + k ↔ x = y ∧ j = k := by
  rw [Fin.ext_iff]
  unfold slotBase sceneBase
  omega

theorem entryBase_inj {i j : Fin 32} {k l : Nat} (hk : k < 64) (hl : l < 64) :
    entryBase i + k = entryBase j + l ↔ i = j ∧ k = l := by
  rw [Fin.ext_iff]
  unfold entryBase requestBase
  omega

theorem inSlotFields_add {x : Slot} {k : Nat} (h : k < 22) : inSlotFields x (slotBase x + k) := by
  unfold inSlotFields; omega

theorem inSceneFields_add {x : Slot} {k : Nat} (h : k < 22) : inSceneFields (slotBase x + k) :=
  ⟨x, inSlotFields_add h⟩

theorem slotBase_add_lt {x : Slot} {k : Nat} (h : k < 32) : slotBase x + k < cueSize := by
  have := slotBase_bounds x
  unfold cueSize; omega

theorem entryBase_add_lt {i : Fin 32} {k : Nat} (h : k < 64) : entryBase i + k < cueSize := by
  have := entryBase_bounds i
  unfold cueSize; omega

theorem inScenes_of_inSceneFields {a : Nat} (h : inSceneFields a) : inScenes a := by
  obtain ⟨x, hx⟩ := h
  have := slotBase_bounds x
  unfold inSlotFields at hx
  unfold inScenes
  omega

theorem not_inScenes_entryBase {i : Fin 32} {k : Nat} (hk : k < 64) : ¬inScenes (entryBase i + k) := by
  have := entryBase_bounds i
  unfold inScenes; omega

theorem not_inSceneFields_entryBase {i : Fin 32} {k : Nat} (hk : k < 64) : ¬inSceneFields (entryBase i + k) :=
  fun h => not_inScenes_entryBase hk (inScenes_of_inSceneFields h)

theorem inEntryResults_bounds {i : Fin 32} {a : Nat} (h : inEntryResults i a) : 0x400 ≤ a ∧ a < 0xC00 := by
  obtain ⟨k, hk, rfl⟩ := h
  have := entryBase_bounds i
  unfold resultWord at hk
  omega

/-! ### Scene edits -/

theorem changesWithin_linkScene {P : Nat → Prop} {x pred : Slot} {fields : List (Nat × Word)} (m : Memory)
    (hfields : ∀ c ∈ fields, P c.1 ∧ c.1 < cueSize) (hx : ∀ k, k < 22 → P (slotBase x + k))
    (hpred : P (slotBase pred + 1)) (hsucc : ∀ y, sceneNext m pred = some y → P (slotBase y + 2)) :
    Memory.ChangesWithin P m (linkScene m x pred fields) := by
  have hplaced : Memory.ChangesWithin P m
      (Memory.writeAll m
        (fields ++
          [(slotBase x + 2, slotWord (some pred)), (slotBase x + 1, slotWord (sceneNext m pred)),
            (slotBase x + 7, sceneSerial m x + 1), (slotBase x, 1), (slotBase pred + 1, slotWord (some x))])) := by
    refine changesWithin_writeAll m fun c hc => ?_
    rcases List.mem_append.mp hc with hc | hc
    · exact hfields c hc
    · simp only [List.mem_cons, List.not_mem_nil, or_false] at hc
      rcases hc with rfl | rfl | rfl | rfl | rfl
      · exact ⟨hx 2 (by omega), slotBase_add_lt (by omega)⟩
      · exact ⟨hx 1 (by omega), slotBase_add_lt (by omega)⟩
      · exact ⟨hx 7 (by omega), slotBase_add_lt (by omega)⟩
      · exact ⟨hx 0 (by omega), slotBase_add_lt (k := 0) (by omega)⟩
      · exact ⟨hpred, slotBase_add_lt (by omega)⟩
  unfold linkScene
  dsimp only
  split
  · next y hy => exact hplaced.trans (changesWithin_write _ _ (hsucc y hy) (slotBase_add_lt (by omega)))
  · exact hplaced

theorem changesWithin_unlinkScene {P : Nat → Prop} {x : Slot} (m : Memory)
    (hprev : ∀ p, scenePrev m x = some p → P (slotBase p + 1))
    (hnext : ∀ y, sceneNext m x = some y → P (slotBase y + 2)) :
    Memory.ChangesWithin P m (unlinkScene m x) := by
  have hjoined : Memory.ChangesWithin P m
      (match scenePrev m x with
        | some p => Memory.write m (slotBase p + 1) (slotWord (sceneNext m x))
        | none => m) := by
    split
    · next p hp => exact changesWithin_write _ _ (hprev p hp) (slotBase_add_lt (by omega))
    · exact .refl _ _
  unfold unlinkScene
  dsimp only
  split
  · next y hy => exact hjoined.trans (changesWithin_write _ _ (hnext y hy) (slotBase_add_lt (by omega)))
  · exact hjoined

theorem changesWithin_freeSlot (m : Memory) (x : Slot) :
    Memory.ChangesWithin inSceneFields m (freeSlot m x) :=
  changesWithin_write m 0 (inSceneFields_add (k := 0) (by omega)) (slotBase_add_lt (k := 0) (by omega))

theorem changesWithin_unlinkScene_fields (m : Memory) (x : Slot) :
    Memory.ChangesWithin inSceneFields m (unlinkScene m x) :=
  changesWithin_unlinkScene m (fun _ _ => inSceneFields_add (by omega)) fun _ _ => inSceneFields_add (by omega)

theorem changesWithin_linkScene_fields {fields : List (Nat × Word)} (m : Memory) (x pred : Slot)
    (hfields : ∀ c ∈ fields, inSlotFields x c.1) :
    Memory.ChangesWithin inSceneFields m (linkScene m x pred fields) := by
  refine changesWithin_linkScene m (fun c hc => ⟨⟨x, hfields c hc⟩, ?_⟩) (fun _ => inSceneFields_add)
    (inSceneFields_add (by omega)) fun _ _ => inSceneFields_add (by omega)
  have := inScenes_of_inSceneFields ⟨x, hfields c hc⟩
  unfold inScenes at this
  unfold cueSize; omega

theorem changesWithin_editScene {P : Nat → Prop} {x : Slot} {cells : List (Nat × Word)} (m : Memory)
    (hcells : ∀ c ∈ cells, P c.1 ∧ c.1 < cueSize) (hserial : P (slotBase x + 7)) :
    Memory.ChangesWithin P m (editScene m x cells) := by
  refine changesWithin_writeAll m fun c hc => ?_
  rcases List.mem_append.mp hc with hc | hc
  · exact hcells c hc
  · rw [List.mem_singleton.mp hc]
    exact ⟨hserial, slotBase_add_lt (by omega)⟩

/-- The grade words of a slot. -/
def inGradeWords (x : Slot) (a : Nat) : Prop := slotBase x + 12 ≤ a ∧ a < slotBase x + 22

theorem mem_gradeCells {x : Slot} {g : Grade} {c : Nat × Word} (h : c ∈ gradeCells x g) :
    ∃ k : Fin 10, c = (slotBase x + 12 + k.val, signedWord g[k]) := by
  obtain ⟨k, -, hk⟩ := List.mem_map.mp h
  exact ⟨k, hk.symm⟩

theorem mem_maskedGradeCells {x : Slot} {mask : Vector Bool 10} {g : Grade} {c : Nat × Word}
    (h : c ∈ maskedGradeCells x mask g) :
    ∃ k : Fin 10, mask[k] = true ∧ c = (slotBase x + 12 + k.val, signedWord g[k]) := by
  obtain ⟨k, hmem, hk⟩ := List.mem_map.mp h
  exact ⟨k, (List.mem_filter.mp hmem).2, hk.symm⟩

theorem inGradeWords_of_mem_gradeCells {x : Slot} {g : Grade} {c : Nat × Word} (h : c ∈ gradeCells x g) :
    inGradeWords x c.1 := by
  obtain ⟨k, rfl⟩ := mem_gradeCells h
  have := k.isLt
  unfold inGradeWords
  dsimp only; omega

theorem inGradeWords_of_mem_maskedGradeCells {x : Slot} {mask : Vector Bool 10} {g : Grade} {c : Nat × Word}
    (h : c ∈ maskedGradeCells x mask g) : inGradeWords x c.1 := by
  obtain ⟨k, -, rfl⟩ := mem_maskedGradeCells h
  have := k.isLt
  unfold inGradeWords
  dsimp only; omega

theorem inGradeWords_fields {x : Slot} {a : Nat} (h : inGradeWords x a) : inSlotFields x a := by
  unfold inGradeWords at h
  unfold inSlotFields; omega

theorem inGradeWords_lt {x : Slot} {a : Nat} (h : inGradeWords x a) : a < cueSize := by
  have := slotBase_bounds x
  unfold inGradeWords at h
  unfold cueSize; omega

theorem newSceneCells_inSlotFields {x : Slot} {p d : Int} {o mk : Word} {b : Bool} {v : DWord} {g : Grade} :
    ∀ c ∈ newSceneCells x p d o mk b v g, inSlotFields x c.1 := by
  intro c hc
  rcases List.mem_append.mp hc with hc | hc
  · simp only [pairCells, List.cons_append, List.nil_append, List.mem_cons, List.not_mem_nil, or_false] at hc
    rcases hc with rfl | rfl | rfl | rfl | rfl | rfl | rfl | rfl <;> unfold inSlotFields <;> dsimp only <;> omega
  · exact inGradeWords_fields (inGradeWords_of_mem_gradeCells hc)

theorem changesWithin_clearScenes (fuel : Nat) (m : Memory) (stack : List Slot) (n : Nat) :
    Memory.ChangesWithin inSceneFields m (clearScenes fuel m stack n).1 := by
  induction fuel generalizing m stack n with
  | zero => exact .refl _ _
  | succ fuel ih =>
    unfold clearScenes
    split
    · exact ((changesWithin_unlinkScene_fields m _).trans (changesWithin_freeSlot _ _)).trans (ih _ _ _)
    · exact .refl _ _

theorem changesWithin_moveSceneTo (m : Memory) (x : Slot) (p : Int) :
    Memory.ChangesWithin inSceneFields m (moveSceneTo m x p) := by
  refine (changesWithin_unlinkScene_fields m x).trans (changesWithin_linkScene_fields _ x _ fun c hc => ?_)
  simp only [pairCells, List.mem_cons, List.not_mem_nil, or_false] at hc
  rcases hc with rfl | rfl <;> unfold inSlotFields <;> dsimp only <;> omega

theorem makeScene_cue (s : State) (x : Slot) (rest : List Slot) (p d : Int) (o mk : Word) (tag : Option DWord) (g : Grade) :
    (s.makeScene x rest p d o mk tag g).cue =
      linkScene s.cue x (coveringScene s.cue p) (newSceneCells x p d o mk tag.isSome (s.orFree tag).1 g) := rfl

theorem changesWithin_makeScene (s : State) (x : Slot) (rest : List Slot) (p d : Int) (o mk : Word)
    (tag : Option DWord) (g : Grade) :
    Memory.ChangesWithin inSceneFields s.cue (s.makeScene x rest p d o mk tag g).cue :=
  changesWithin_linkScene_fields _ _ _ newSceneCells_inSlotFields

theorem changesWithin_visitMemory (m : Memory) (r : Ripple) :
    Memory.ChangesWithin (inSlotFields r.next) m (visitMemory m r) := by
  have hcells : ∀ c ∈ visitCells m r, inSlotFields r.next c.1 ∧ c.1 < cueSize := by
    intro c hc
    rcases List.mem_append.mp hc with hc | hc
    · have := inGradeWords_of_mem_maskedGradeCells hc
      exact ⟨inGradeWords_fields this, inGradeWords_lt this⟩
    · rw [List.mem_singleton.mp hc]
      exact ⟨inSlotFields_add (by omega), slotBase_add_lt (by omega)⟩
  unfold visitMemory
  split
  · exact changesWithin_editScene m hcells (inSlotFields_add (by omega))
  · exact changesWithin_writeAll m hcells

/-! ### Finishing an entry -/

/-- The cells that finish an entry. -/
def finishCells (i : Fin 32) (r : Result) : List (Nat × Word) :=
  [(entryBase i + 3, r.code.word)] ++ pairCells (entryBase i + 4) r.a ++ pairCells (entryBase i + 6) r.b ++
    [(entryBase i, r.code.state)]

theorem finishEntry_cue (s : State) (i : Fin 32) (r : Result) :
    (s.finishEntry i r).cue = Memory.writeAll s.cue (finishCells i r) := by
  unfold State.finishEntry
  dsimp only
  split <;> simp [finishCells]

theorem finishEntry_requests (s : State) (i : Fin 32) (r : Result) :
    (s.finishEntry i r).requests =
      { s.requests with notifyDue := s.requests.notifyDue || notifyFlag s.cue i } := by
  unfold State.finishEntry notifyFlag
  dsimp only
  split
  · next h => rw [h, Bool.or_true]
  · next h => rw [Bool.eq_false_iff.mpr h, Bool.or_false]

theorem finishCells_inEntryResults (i : Fin 32) (r : Result) :
    ∀ c ∈ finishCells i r, inEntryResults i c.1 ∧ c.1 < cueSize := by
  have hword {k : Nat} (h : resultWord k) : inEntryResults i (entryBase i + k) ∧ entryBase i + k < cueSize :=
    ⟨⟨k, h, rfl⟩, entryBase_add_lt (by unfold resultWord at h; omega)⟩
  intro c hc
  simp only [finishCells, pairCells, List.cons_append, List.nil_append, List.mem_cons, List.not_mem_nil, or_false] at hc
  unfold resultWord at hword
  rcases hc with rfl | rfl | rfl | rfl | rfl | rfl
  · exact hword (k := 3) (by omega)
  · exact hword (k := 4) (by omega)
  · exact hword (k := 5) (by omega)
  · exact hword (k := 6) (by omega)
  · exact hword (k := 7) (by omega)
  · exact hword (k := 0) (by omega)

theorem changesWithin_finishEntry (s : State) (i : Fin 32) (r : Result) :
    Memory.ChangesWithin (inEntryResults i) s.cue (s.finishEntry i r).cue := by
  rw [finishEntry_cue]
  exact changesWithin_writeAll _ (finishCells_inEntryResults i r)

theorem changesWithin_endRipple (s : State) (r : Ripple) (c : ResultCode) :
    Memory.ChangesWithin (inEntryResults r.entry) s.cue (s.endRipple r c).cue := by
  simpa [State.endRipple] using changesWithin_finishEntry s r.entry _

/-- The words of a memory after an entry is finished, the last write of each address winning. -/
theorem entryWord_finishEntry_zero (s : State) (i : Fin 32) (r : Result) :
    entryWord (s.finishEntry i r).cue i 0 = r.code.state := by
  rw [finishEntry_cue, finishCells, Memory.writeAll_append]
  exact Memory.read_write_same _ _ _

theorem entryWord_of_changesWithin {P : Nat → Prop} {m m' : Memory} (h : Memory.ChangesWithin P m m') {i : Fin 32}
    {k : Nat} (hP : ¬P (entryBase i + k)) : entryWord m' i k = entryWord m i k := h.read hP

theorem entryWord_finishEntry_other (s : State) {i j : Fin 32} (hij : i ≠ j) (r : Result) {k : Nat} (hk : k < 64) :
    entryWord (s.finishEntry i r).cue j k = entryWord s.cue j k := by
  refine entryWord_of_changesWithin (changesWithin_finishEntry s i r) ?_
  rintro ⟨l, hl, h⟩
  have hl' : l < 64 := by unfold resultWord at hl; omega
  exact hij ((entryBase_inj hk hl').mp h).1.symm

theorem state_ne_taken (c : ResultCode) : c.state ≠ stateTaken := by cases c <;> decide

end Sys2Proof.Proofs

/-! The stages of the handling of requests and of the run control. With the event stages they make up every command but
the host's DATA write and the power-on reset. -/

namespace Sys2Proof.Proofs
open Sys2Proof.Machine

/-- A word that an edit in place may put in word `k` of a slot: a DISSOLVE, a serial, a mark or a parameter (R109 to
R111, R126). -/
def FieldWord (x : Slot) (k : Nat) (w : Word) : Prop :=
  (k = 5 ∧ x ≠ 0 ∧ w.toNat ≤ 250) ∨ k = 7 ∨ k = 8 ∨
    ∃ (j : Fin 10) (v : Int), k = 12 + j.val ∧ paramInRange j v ∧ w = signedWord v

/-- The stages of the request processor while RUNNING. -/
inductive RequestStage : State → State → Prop
  | clearSplit (s : State) : RequestStage s (s.setSplitPending none)
  | finish {s : State} {i : Fin 32} (r : Result) (h : entryWord s.cue i 0 ≠ stateTaken) :
      RequestStage s (s.finishEntry i r)
  | endRipple {s : State} {r r' : Ripple} (c : ResultCode) (h : s.requests.ripple = some r') (he : r.entry = r'.entry) :
      RequestStage s (s.endRipple r c)
  | takeRipple {s : State} (r : Ripple) (n : Word) (h : s.requests.ripple = none) :
      RequestStage s
        { s with
          cue := Memory.write s.cue (entryBase r.entry) stateTaken
          requests := { s.requests with ripple := some r, rippleCounter := n } }
  | moveRipple {s : State} {r r' : Ripple} (h : s.requests.ripple = some r') (he : r.entry = r'.entry) :
      RequestStage s (s.setRipple (some r))
  | insert {s : State} {x : Slot} {rest : List Slot} {p d : Int} {g : Grade} (o mk : Word) (tag : Option DWord)
      (hstack : s.requests.freeStack = x :: rest) (hp : inRange p ∨ s.requests.splitPending = some p)
      (hnew : startingAt s.cue p = none) (hd : 0 ≤ d ∧ d ≤ 250)
      (hg : gradeInRange g ∨ ∃ y, g = sceneGrade s.cue y) : RequestStage s (s.makeScene x rest p d o mk tag g)
  | delete {s : State} {x : Slot} (hx : x ≠ 0) (hl : listed s.cue x = true) :
      RequestStage s
        { s.leaveSlot x with
          cue := freeSlot (unlinkScene s.cue x) x
          requests := { s.requests with freeStack := x :: s.requests.freeStack } }
  | move {s : State} {x : Slot} {p : Int} (hx : x ≠ 0) (hl : listed s.cue x = true) (hp : inRange p)
      (hnew : startingAtOther s.cue x p = none) :
      RequestStage s { s.leaveSlot x with cue := moveSceneTo s.cue x p }
  | writeField {s : State} {x : Slot} {k : Nat} {w : Word} (h : FieldWord x k w) :
      RequestStage s { s with cue := Memory.write s.cue (slotBase x + k) w }
  | clear (s : State) :
      RequestStage s
        { s.setCurrent 0 with
          cue := (clearScenes 1023 s.cue s.requests.freeStack 0).1
          requests := { s.requests with freeStack := (clearScenes 1023 s.cue s.requests.freeStack 0).2.1 } }
  | locate {s : State} {x : Slot} (h : listed s.cue x = true) : RequestStage s (s.setCurrent x)
  | applySetup {s : State} (h : setupFirstInvalid s.cue = none) : RequestStage s (s.takeSetup (readSetup s.cue))
  | setupFault (s : State) {o : Option Nat} (h : ∀ n, o = some n → n < 42) : RequestStage s (s.setSetupFault o)
  | align (s : State) : RequestStage s { s with sequencer := { s.sequencer with alignPending := true } }
  | probe (s : State) (i : Fin 32) {ws : List Word} (h : ws.length = 4) :
      RequestStage s { s with cue := Memory.writeAll s.cue (cellsFrom (entryBase i + 36) ws) }
  | advanceTake (s : State) : RequestStage s s.advanceTake
  | raiseNotify (s : State) : RequestStage s s.raiseNotify

/-- The stages of the part. -/
inductive Stage : State → State → Prop
  | event {s t : State} (h : EventStage s t) : Stage s t
  | request {s t : State} (hrun : s.port.run = .running) (h : RequestStage s t) : Stage s t
  | initialise {s : State} (hrun : s.port.run = .uninitialised) (h : setupFirstInvalid s.cue = none) :
      Stage s (s.initialise (readSetup s.cue))
  | refuseBlock {s : State} (hrun : s.port.run = .uninitialised) {o : Nat} (h : o < 42) :
      Stage s (s.setSetupFault (some o))
  | resume {s : State} (hrun : s.port.run = .halted) : Stage s (s.setRun .running)
  | halt {s : State} (hrun : s.port.run = .running) (hread : s.engine.read = none) : Stage s (s.setRun .halted)
  | reset (s : State) : Stage s s.portReset

/-- Stages one after another. -/
abbrev Stages : State → State → Prop := Relation.ReflTransGen Stage

theorem Stages.single {s t : State} (h : Stage s t) : Stages s t := Relation.ReflTransGen.single h

theorem Stages.tail {s t u : State} (h : Stages s t) (h' : Stage t u) : Stages s u := Relation.ReflTransGen.tail h h'

theorem Stages.trans {s t u : State} (h : Stages s t) (h' : Stages t u) : Stages s u :=
  Relation.ReflTransGen.trans h h'

theorem EventStages.stages {s t : State} (h : EventStages s t) : Stages s t :=
  Relation.ReflTransGen.mono (fun _ _ => .event) _ _ h

theorem Stages.view {s t u : State} (h : Stages s t) (hview : SameView t u) : Stages s u :=
  h.tail (.event (.same hview))

theorem Stages.keeps {I : State → Prop} (hI : ∀ s t, Stage s t → I s → I t) {s t : State} (h : Stages s t) (hs : I s) :
    I t := by
  induction h with
  | refl => exact hs
  | tail _ hlast ih => exact hI _ _ hlast ih

theorem Stages.request {s t u : State} (h : Stages s t) (hrun : t.port.run = .running) (h' : RequestStage t u) :
    Stages s u := h.tail (.request hrun h')

theorem Stages.of_request {s t : State} (hrun : s.port.run = .running) (h : RequestStage s t) : Stages s t :=
  .single (.request hrun h)

/-! ### Scene edits -/

theorem clampParam_inRange (k : Fin 10) (v : Int) : paramInRange k (clampParam k v) := by
  have := k.isLt
  unfold paramInRange clampParam clampInt paramLow paramHigh
  split_ifs <;> omega

theorem clampGrade_inRange (g : Grade) : gradeInRange (clampGrade g) := fun k => by
  simpa [clampGrade] using clampParam_inRange k g[k]

theorem clampDissolve_bounds (d : Int) : 0 ≤ clampDissolve d ∧ clampDissolve d ≤ 250 := by
  unfold clampDissolve clampInt; omega

theorem signedWord_toNat {v : Int} (h : 0 ≤ v) (h' : v < 65536) : ((signedWord v).toNat : Int) = v := by
  simp only [signedWord, BitVec.toNat_ofInt]
  omega

theorem frameInRange_iff {p : Int} : frameInRange p = true ↔ inRange p := by
  exact decide_eq_true_iff

theorem stages_writeFields {s : State} (hrun : s.port.run = .running) {cells : List (Nat × Word)}
    (h : ∀ c ∈ cells, ∃ x k, c.1 = slotBase x + k ∧ FieldWord x k c.2) :
    Stages s { s with cue := Memory.writeAll s.cue cells } := by
  induction cells generalizing s with
  | nil => exact .refl
  | cons c cs ih =>
    obtain ⟨x, k, hc, hword⟩ := h c (List.mem_cons_self ..)
    have hfirst : Stages s { s with cue := Memory.write s.cue c.1 c.2 } :=
      .of_request hrun (hc ▸ .writeField hword)
    exact hfirst.trans (ih (s := { s with cue := Memory.write s.cue c.1 c.2 }) hrun
      fun c' hc' => h c' (List.mem_cons_of_mem _ hc'))

theorem stages_editScene {s : State} (hrun : s.port.run = .running) {x : Slot} {cells : List (Nat × Word)}
    (h : ∀ c ∈ cells, ∃ k, c.1 = slotBase x + k ∧ FieldWord x k c.2) :
    Stages s { s with cue := editScene s.cue x cells } := by
  refine stages_writeFields hrun fun c hc => ⟨x, ?_⟩
  rcases List.mem_append.mp hc with hc | hc
  · exact h c hc
  · rw [List.mem_singleton.mp hc]
    exact ⟨7, rfl, .inr (.inl rfl)⟩

theorem fieldWord_gradeCells {x : Slot} {g : Grade} (hg : gradeInRange g) {c : Nat × Word}
    (h : c ∈ gradeCells x g) : ∃ k, c.1 = slotBase x + k ∧ FieldWord x k c.2 := by
  obtain ⟨k, rfl⟩ := mem_gradeCells h
  exact ⟨12 + k.val, by dsimp only; omega, .inr (.inr (.inr ⟨k, _, rfl, hg k, rfl⟩))⟩

theorem fieldWord_maskedGradeCells {x : Slot} {mask : Vector Bool 10} {g : Grade} (hg : gradeInRange g)
    {c : Nat × Word} (h : c ∈ maskedGradeCells x mask g) : ∃ k, c.1 = slotBase x + k ∧ FieldWord x k c.2 := by
  obtain ⟨k, -, rfl⟩ := mem_maskedGradeCells h
  exact ⟨12 + k.val, by dsimp only; omega, .inr (.inr (.inr ⟨k, _, rfl, hg k, rfl⟩))⟩

theorem stages_insertScene {s : State} (hrun : s.port.run = .running) (i : Fin 32) :
    Stages s (s.insertScene i).1 := by
  unfold State.insertScene
  dsimp only
  split
  · exact .refl
  · next hrange =>
    have hp : inRange (operandPosition s.cue i) := frameInRange_iff.mp (by simpa using hrange)
    split
    · exact .refl
    · next hnew =>
      split
      · exact .refl
      · split
        · exact .refl
        · next hstack =>
          exact .of_request hrun
            (.insert _ _ _ hstack (.inl hp) hnew (clampDissolve_bounds _) (.inl (clampGrade_inRange _)))

theorem listed_of_listedSlotA {m : Memory} {i : Fin 32} {x : Slot} (h : listedSlotA m i = some x) :
    listed m x = true := (Option.filter_eq_some_iff.mp h).2

theorem listed_of_movableSlotA {m : Memory} {i : Fin 32} {x : Slot} (h : movableSlotA m i = some x) :
    x ≠ 0 ∧ listed m x = true := by
  obtain ⟨hl, hx⟩ := Option.filter_eq_some_iff.mp h
  exact ⟨by simpa using hx, listed_of_listedSlotA hl⟩

theorem stages_deleteScene {s : State} (hrun : s.port.run = .running) (i : Fin 32) :
    Stages s (s.deleteScene i).1 := by
  unfold State.deleteScene
  dsimp only
  split
  · exact .refl
  · next x hx =>
    obtain ⟨hbase, hl⟩ := listed_of_movableSlotA hx
    split
    · exact .refl
    · exact .of_request hrun (.delete hbase hl)

theorem stages_moveScene {s : State} (hrun : s.port.run = .running) (i : Fin 32) : Stages s (s.moveScene i).1 := by
  unfold State.moveScene
  dsimp only
  split
  · exact .refl
  · next x hx =>
    obtain ⟨hbase, hl⟩ := listed_of_movableSlotA hx
    split
    · exact .refl
    · next hrange =>
      split
      · exact .refl
      · next hnew =>
        split
        · exact .refl
        · exact .of_request hrun (.move hbase hl (frameInRange_iff.mp (by simpa using hrange)) hnew)

theorem stages_regradeScene {s : State} (hrun : s.port.run = .running) (i : Fin 32) :
    Stages s (s.regradeScene i).1 := by
  unfold State.regradeScene
  dsimp only
  split
  · exact .refl
  · split
    · exact .refl
    · dsimp only
      split
      · exact stages_editScene hrun fun c => fieldWord_maskedGradeCells (clampGrade_inRange _)
      · exact .refl

theorem stages_setDissolve {s : State} (hrun : s.port.run = .running) (i : Fin 32) : Stages s (s.setDissolve i).1 := by
  have hbounds := clampDissolve_bounds (operandDissolve s.cue i)
  have hword := signedWord_toNat hbounds.1 (by omega)
  unfold State.setDissolve
  dsimp only
  split
  · exact .refl
  · next x hx =>
    split
    · exact .refl
    · refine stages_editScene hrun fun c hc => ?_
      rw [List.mem_singleton.mp hc]
      exact ⟨5, rfl, .inl ⟨rfl, (listed_of_movableSlotA hx).1, by dsimp only; omega⟩⟩

theorem stages_storeLive {s : State} (hrun : s.port.run = .running) (i : Fin 32) : Stages s (s.storeLive i).1 := by
  unfold State.storeLive
  dsimp only
  split
  · exact .refl
  · split
    · exact .refl
    · exact stages_editScene hrun fun c => fieldWord_gradeCells (clampGrade_inRange _)

theorem stages_clearList {s : State} (hrun : s.port.run = .running) : Stages s s.clearList.1 := by
  unfold State.clearList
  split
  · exact .refl
  · exact .of_request hrun (.clear s)

theorem lt_of_setupFirstInvalid {m : Memory} {o : Nat} (h : setupFirstInvalid m = some o) : o < 42 :=
  List.mem_range.mp (List.mem_of_find?_eq_some h)

theorem stages_applySetup {s : State} (hrun : s.port.run = .running) : Stages s s.applySetup.1 := by
  unfold State.applySetup
  split
  · exact .refl
  · split
    · next o ho =>
      refine .of_request hrun (.setupFault s fun n hn => ?_)
      rw [← Option.some.inj hn]
      exact lt_of_setupFirstInvalid ho
    · next hvalid =>
      exact (Stages.of_request hrun (.applySetup hvalid)).request (by simpa using hrun)
        (.setupFault _ fun n hn => by cases hn)

/-! ### Immediate requests -/

theorem stages_locate {s : State} (hrun : s.port.run = .running) (i : Fin 32) : Stages s (s.locate i).1 := by
  unfold State.locate
  split
  · exact .refl
  · next hx => exact .of_request hrun (.locate (listed_of_listedSlotA hx))

theorem stages_probe {s : State} (hrun : s.port.run = .running) (i : Fin 32) : Stages s (s.probe i).1 := by
  have hwith (g : Grade) : Stages s (s.probeWith i g).1 := .of_request hrun (.probe s i rfl)
  unfold State.probe
  split
  · exact hwith _
  · split
    · split
      · exact .refl
      · exact hwith _
    · exact .refl

theorem stages_passDone {s : State} {p : Pass} (h : PassChange s p) : Stages s (passDone (s.changePass p)).1 :=
  ((eventStages_changePass h).trans (eventStages_handEach _ _)).stages

theorem stages_startPass {s : State} (hrun : s.port.run = .running) (i : Fin 32) : Stages s (s.startPass i).1 := by
  unfold State.startPass
  dsimp only
  split
  · exact .refl
  · split
    · exact .refl
    · next hrange =>
      refine stages_passDone (.start hrun (frameInRange_iff.mp (by simpa using hrange)) ?_)
      exact Nat.le_of_lt_succ (BitVec.isLt _)

theorem stages_stopPass (s : State) : Stages s s.stopPass.1 := by
  unfold State.stopPass
  split
  · next h => exact .single (.event (.pass (.stop h)))
  · exact .refl

theorem stages_resumePass {s : State} (hrun : s.port.run = .running) : Stages s s.resumePass.1 := by
  unfold State.resumePass
  split
  · next h => exact stages_passDone (.resume hrun h)
  · exact .refl

theorem stages_abandonPass {s : State} (hrun : s.port.run = .running) : Stages s s.abandonPass.1 := by
  unfold State.abandonPass
  split
  · next h => exact stages_passDone (.fault (by rw [h]; rfl) _)
  · next h => exact stages_passDone (.abandon hrun (.inl h))
  · next h => exact stages_passDone (.abandon hrun (.inr h))
  · exact .refl

theorem stages_cancelRipple {s : State} (hrun : s.port.run = .running) : Stages s s.cancelRipple.1 := by
  unfold State.cancelRipple
  split
  · exact .refl
  · next r h => exact .of_request hrun (.endRipple _ h rfl)

end Sys2Proof.Proofs

/-! The handling of an ACTIVE START and the run control as chains of stages. -/

namespace Sys2Proof.Proofs
open Sys2Proof.Machine

/-! ### Where the requests write -/

/-- The PROBE OUTPUT words of an entry. -/
def inProbeOutput (i : Fin 32) (a : Nat) : Prop := entryBase i + 36 ≤ a ∧ a < entryBase i + 40

/-- The words a request may write before its entry is finished. -/
def inRequestWork (i : Fin 32) (a : Nat) : Prop := inSceneFields a ∨ inPassBlock a ∨ inRing a ∨ inProbeOutput i a

theorem changesWithin_insertScene (s : State) (i : Fin 32) :
    Memory.ChangesWithin inSceneFields s.cue (s.insertScene i).1.cue := by
  unfold State.insertScene
  dsimp only
  (repeat' split) <;> first | exact .refl _ _ | exact changesWithin_makeScene s _ _ _ _ _ _ _ _

theorem changesWithin_deleteScene (s : State) (i : Fin 32) :
    Memory.ChangesWithin inSceneFields s.cue (s.deleteScene i).1.cue := by
  unfold State.deleteScene
  dsimp only
  (repeat' split) <;> try exact .refl _ _
  exact (changesWithin_unlinkScene_fields _ _).trans (changesWithin_freeSlot _ _)

theorem changesWithin_moveScene (s : State) (i : Fin 32) :
    Memory.ChangesWithin inSceneFields s.cue (s.moveScene i).1.cue := by
  unfold State.moveScene
  dsimp only
  (repeat' split) <;> try exact .refl _ _
  exact changesWithin_moveSceneTo _ _ _

theorem changesWithin_editScene_fields {x : Slot} {cells : List (Nat × Word)} (m : Memory)
    (hcells : ∀ c ∈ cells, inSlotFields x c.1 ∧ c.1 < cueSize) :
    Memory.ChangesWithin inSceneFields m (editScene m x cells) :=
  (changesWithin_editScene m hcells (inSlotFields_add (by omega))).mono fun _ ha => ⟨x, ha⟩

theorem changesWithin_regradeScene (s : State) (i : Fin 32) :
    Memory.ChangesWithin inSceneFields s.cue (s.regradeScene i).1.cue := by
  unfold State.regradeScene
  dsimp only
  (repeat' split) <;> try exact .refl _ _
  refine changesWithin_editScene_fields _ fun c hc => ?_
  have := inGradeWords_of_mem_maskedGradeCells hc
  exact ⟨inGradeWords_fields this, inGradeWords_lt this⟩

theorem changesWithin_setDissolve (s : State) (i : Fin 32) :
    Memory.ChangesWithin inSceneFields s.cue (s.setDissolve i).1.cue := by
  unfold State.setDissolve
  dsimp only
  (repeat' split) <;> try exact .refl _ _
  refine changesWithin_editScene_fields _ fun c hc => ?_
  rw [List.mem_singleton.mp hc]
  exact ⟨inSlotFields_add (by omega), slotBase_add_lt (by omega)⟩

theorem changesWithin_storeLive (s : State) (i : Fin 32) :
    Memory.ChangesWithin inSceneFields s.cue (s.storeLive i).1.cue := by
  unfold State.storeLive
  dsimp only
  (repeat' split) <;> try exact .refl _ _
  refine changesWithin_editScene_fields _ fun c hc => ?_
  have := inGradeWords_of_mem_gradeCells hc
  exact ⟨inGradeWords_fields this, inGradeWords_lt this⟩

theorem changesWithin_clearList (s : State) : Memory.ChangesWithin inSceneFields s.cue s.clearList.1.cue := by
  unfold State.clearList
  split
  · exact .refl _ _
  · exact changesWithin_clearScenes _ _ _ _

theorem applySetup_cue (s : State) : s.applySetup.1.cue = s.cue := by
  unfold State.applySetup
  (repeat' split) <;> simp

theorem changesWithin_probeWith (s : State) (i : Fin 32) (g : Grade) :
    Memory.ChangesWithin (inProbeOutput i) s.cue (s.probeWith i g).1.cue := by
  refine changesWithin_writeAll _ fun c hc => ?_
  have hbounds := mem_cellsFrom _ _ c hc
  have := entryBase_bounds i
  simp only [List.length_cons, List.length_nil] at hbounds
  unfold inProbeOutput cueSize
  omega

theorem changesWithin_probe (s : State) (i : Fin 32) :
    Memory.ChangesWithin (inProbeOutput i) s.cue (s.probe i).1.cue := by
  unfold State.probe
  (repeat' split) <;> first | exact .refl _ _ | exact changesWithin_probeWith s i _

/-- The words a pass request writes: the pass block and its report. -/
def inPassOrRing (a : Nat) : Prop := inPassBlock a ∨ inRing a

theorem changesWithin_passDone (s : State) (p : Pass) :
    Memory.ChangesWithin inPassOrRing s.cue (passDone (s.changePass p)).1.cue :=
  ((changesWithin_changePass s p).or_left _).trans ((changesWithin_handEach _ _).or_right _)

theorem changesWithin_startPass (s : State) (i : Fin 32) :
    Memory.ChangesWithin inPassOrRing s.cue (s.startPass i).1.cue := by
  unfold State.startPass
  dsimp only
  (repeat' split) <;> first | exact .refl _ _ | exact changesWithin_passDone s _

theorem changesWithin_stopPass (s : State) : Memory.ChangesWithin inPassOrRing s.cue s.stopPass.1.cue := by
  unfold State.stopPass
  split
  · exact (changesWithin_setPass s _).or_left _
  · exact .refl _ _

theorem changesWithin_resumePass (s : State) : Memory.ChangesWithin inPassOrRing s.cue s.resumePass.1.cue := by
  unfold State.resumePass
  split
  · exact changesWithin_passDone s _
  · exact .refl _ _

theorem changesWithin_abandonPass (s : State) : Memory.ChangesWithin inPassOrRing s.cue s.abandonPass.1.cue := by
  unfold State.abandonPass
  split
  · exact changesWithin_passDone s _
  · exact changesWithin_passDone s _
  · exact changesWithin_passDone s _
  · exact .refl _ _

theorem inRequestWork_of_inPassOrRing {i : Fin 32} {a : Nat} (h : inPassOrRing a) : inRequestWork i a :=
  h.elim (fun h => .inr (.inl h)) fun h => .inr (.inr (.inl h))

theorem not_inRequestWork_entryBase {i j : Fin 32} {k : Nat} (hk : k < 36) : ¬inRequestWork j (entryBase i + k) := by
  have hi := entryBase_bounds i
  rintro (h | h | h | h)
  · exact not_inSceneFields_entryBase (by omega) h
  · unfold inPassBlock at h; omega
  · unfold inRing at h; omega
  · unfold inProbeOutput entryBase at h
    omega

/-! ### One entry -/

/-- A request other than a RIPPLE is a chain of stages that ends with the finishing of its entry. -/
theorem stages_finishWith {s : State} {i : Fin 32} {answer : State × Result} (hwork : Stages s answer.1)
    (hrun : answer.1.port.run = .running) (hstate : entryWord answer.1.cue i 0 ≠ stateTaken) :
    Stages s (finishWith i answer) := hwork.request hrun (.finish _ hstate)

theorem stages_finishWith_of_changesWithin {s : State} {i : Fin 32} {answer : State × Result} (hwork : Stages s answer.1)
    (hrun : answer.1.port.run = .running) (hcue : Memory.ChangesWithin (inRequestWork i) s.cue answer.1.cue)
    (hstate : entryWord s.cue i 0 ≠ stateTaken) : Stages s (finishWith i answer) :=
  stages_finishWith hwork hrun
    (entryWord_of_changesWithin hcue (not_inRequestWork_entryBase (k := 0) (by omega)) ▸ hstate)

theorem entryWord_cancelRipple_zero {s : State} {i : Fin 32} (h : entryWord s.cue i 0 ≠ stateTaken) :
    entryWord s.cancelRipple.1.cue i 0 ≠ stateTaken := by
  unfold State.cancelRipple
  split
  · exact h
  · next r _ =>
    rw [show (s.endRipple r .aborted).cue = (s.finishEntry r.entry _).cue by simp [State.endRipple]; rfl]
    by_cases hi : r.entry = i
    · subst hi
      rw [entryWord_finishEntry_zero]
      exact state_ne_taken _
    · rwa [entryWord_finishEntry_other _ hi _ (k := 0) (by omega)]

theorem stages_takeRipple {s : State} {i : Fin 32} (hrun : s.port.run = .running)
    (hstate : entryWord s.cue i 0 ≠ stateTaken) (hnone : s.requests.ripple = none) : Stages s (s.takeRipple i) := by
  unfold State.takeRipple
  split
  · split
    · exact .of_request hrun (.finish _ hstate)
    · split
      · exact .of_request hrun (.finish _ hstate)
      · next a b _ _ _ _ => exact .of_request hrun (.takeRipple (s.newRipple i a b) _ hnone)
  · exact .of_request hrun (.finish _ hstate)

theorem stages_takeEntry {s : State} {i : Fin 32} (hrun : s.port.run = .running)
    (hstate : entryWord s.cue i 0 ≠ stateTaken)
    (hripple : requestKind (entryWord s.cue i 1) = some .ripple → s.requests.ripple = none) :
    Stages s (s.takeEntry i) := by
  have hscenes {answer : State × Result} (hwork : Stages s answer.1) (hkeeps : answer.1.port = s.port)
      (hcue : Memory.ChangesWithin inSceneFields s.cue answer.1.cue) : Stages s (finishWith i answer) :=
    stages_finishWith_of_changesWithin hwork (hkeeps ▸ hrun) (hcue.mono fun _ => .inl) hstate
  have hpass {answer : State × Result} (hwork : Stages s answer.1) (hkeeps : answer.1.port.run = s.port.run)
      (hcue : Memory.ChangesWithin inPassOrRing s.cue answer.1.cue) : Stages s (finishWith i answer) :=
    stages_finishWith_of_changesWithin hwork (hkeeps ▸ hrun) (hcue.mono fun _ => inRequestWork_of_inPassOrRing) hstate
  unfold State.takeEntry
  split
  · exact hscenes (stages_insertScene hrun i) (by simp) (changesWithin_insertScene s i)
  · exact hscenes (stages_deleteScene hrun i) (by simp) (changesWithin_deleteScene s i)
  · exact hscenes (stages_moveScene hrun i) (by simp) (changesWithin_moveScene s i)
  · exact hscenes (stages_regradeScene hrun i) (by simp) (changesWithin_regradeScene s i)
  · exact hscenes (stages_setDissolve hrun i) (by simp) (changesWithin_setDissolve s i)
  · exact hscenes (stages_storeLive hrun i) (by simp) (changesWithin_storeLive s i)
  · next h => exact stages_takeRipple hrun hstate (hripple h)
  · exact hscenes (stages_clearList hrun) (by simp) (changesWithin_clearList s)
  · exact hscenes (stages_applySetup hrun) (by simp) (.of_eq (applySetup_cue s))
  · exact hscenes (stages_locate hrun i) (by simp) (.of_eq (by simp))
  · exact hscenes (.single (.event (.same (by constructor <;> simp [State.pulseChannel])))) (by simp) (.of_eq (by simp))
  · exact hpass (stages_startPass hrun i) (by simp) (changesWithin_startPass s i)
  · exact hpass (stages_stopPass s) (by simp) (changesWithin_stopPass s)
  · exact hpass (stages_resumePass hrun) (by simp) (changesWithin_resumePass s)
  · exact hpass (stages_abandonPass hrun) (by simp) (changesWithin_abandonPass s)
  · exact hscenes (.of_request hrun (.align s)) (by simp) (.of_eq (by simp))
  · exact stages_finishWith_of_changesWithin (stages_probe hrun i) (by simpa using hrun)
      ((changesWithin_probe s i).mono fun _ h => .inr (.inr (.inr h))) hstate
  · exact stages_finishWith (stages_cancelRipple hrun) (by simpa using hrun) (entryWord_cancelRipple_zero hstate)
  · exact .of_request hrun (.finish _ hstate)

/-! ### The scan, the split and the ripple -/

theorem scanStops_eq_false {s : State} (h : s.scanStops = false) :
    entryWord s.cue s.requests.takeIndex 0 = statePosted ∧
      (entryIsEdit s.cue s.requests.takeIndex = true → s.requests.ripple = none) := by
  simpa [State.scanStops] using h

theorem entryIsEdit_of_kind {m : Memory} {i : Fin 32} {k : RequestKind} (h : requestKind (entryWord m i 1) = some k) :
    entryIsEdit m i = k.edit := by
  unfold entryIsEdit; rw [h]

theorem stages_scan (fuel : Nat) {s : State} (hrun : s.port.run = .running) : Stages s (State.scan fuel s) := by
  induction fuel generalizing s with
  | zero => exact .refl
  | succ fuel ih =>
    unfold State.scan
    split
    · exact .refl
    · next hstops =>
      obtain ⟨hposted, hedit⟩ := scanStops_eq_false (Bool.eq_false_iff.mpr hstops)
      have htaken : Stages s (s.takeEntry s.requests.takeIndex) :=
        stages_takeEntry hrun (by rw [hposted]; decide) fun hkind => hedit (entryIsEdit_of_kind hkind)
      exact (htaken.request (by simpa using hrun) (.advanceTake _)).trans (ih (by simpa using hrun))

theorem makeScene_setSplitPending (s : State) (f : Option Int) (x : Slot) (rest : List Slot) (p d : Int) (o mk : Word)
    (tag : Option DWord) (g : Grade) :
    (s.setSplitPending f).makeScene x rest p d o mk tag g = (s.makeScene x rest p d o mk tag g).setSplitPending f := by
  cases tag <;> rfl

theorem splitGrade_inRange_or (s : State) (cover : Slot) :
    gradeInRange (s.splitGrade cover) ∨ ∃ y, s.splitGrade cover = sceneGrade s.cue y := by
  unfold State.splitGrade
  split
  · exact .inl (clampGrade_inRange _)
  · exact .inr ⟨cover, rfl⟩

theorem setRipple_of_eq {s : State} {r : Option Ripple} (h : s.requests.ripple = r) : s.setRipple r = s := by
  subst h; rfl

theorem stages_makeSplit {s : State} (hrun : s.port.run = .running) {f : Int} {x : Slot} {rest : List Slot}
    (hpending : s.requests.splitPending = some f) (hstack : s.requests.freeStack = x :: rest)
    (hnew : startingAt s.cue f = none) (cover : Slot) :
    Stages s ((s.setSplitPending none).makeSplit f cover x rest) := by
  unfold State.makeSplit
  dsimp only
  rw [makeScene_setSplitPending]
  change Stages s
    (((s.makeScene x rest f 0 originSplit (sceneMark s.cue cover) none (s.splitGrade cover)).setSplitPending none).setRipple
      (rippleAfterSplit s.cue cover x s.requests.ripple))
  have hmade : Stages s (s.makeScene x rest f 0 originSplit (sceneMark s.cue cover) none (s.splitGrade cover)) :=
    .of_request hrun
      (.insert _ _ _ hstack (.inr hpending) hnew ⟨le_refl _, by decide⟩ (splitGrade_inRange_or s cover))
  have hcleared := hmade.request (by simpa using hrun) (.clearSplit _)
  cases hr : s.requests.ripple with
  | none =>
    rw [setRipple_of_eq (by simpa [rippleAfterSplit] using hr)]
    exact hcleared
  | some r =>
    exact hcleared.request (by simpa using hrun)
      (.moveRipple (r := if sceneNext s.cue cover = some r.next then { r with next := x } else r) (r' := r)
        (by simpa using hr) (by split <;> rfl))

theorem stages_executeSplit {s : State} (hrun : s.port.run = .running) : Stages s s.executeSplit := by
  have hdropped (r : Record) : Stages s ((s.setSplitPending none).hand r) :=
    (Stages.of_request hrun (.clearSplit s)).tail (.event (.hand _ r))
  unfold State.executeSplit
  split
  · next f hpending =>
    unfold State.split
    split
    · exact hdropped _
    · next hnew =>
      dsimp only
      split
      · exact hdropped _
      · split
        · exact hdropped _
        · next hstack => exact (stages_makeSplit hrun hpending hstack hnew _).tail (.event (.hand _ _))
  · exact .refl

theorem stages_afterVisit {s : State} (hrun : s.port.run = .running) {r r' : Ripple} (h : s.requests.ripple = some r')
    (he : r.entry = r'.entry) : Stages s (s.afterVisit r) := by
  unfold State.afterVisit
  split
  · exact .of_request hrun (.endRipple _ h he)
  · exact .of_request hrun (.moveRipple h he)

theorem addGrade_clamped_inRange (g d : Grade) : gradeInRange (clampGrade (addGrade g d)) := clampGrade_inRange _

theorem fieldWord_visitCells {m : Memory} {r : Ripple} {c : Nat × Word} (h : c ∈ visitCells m r) :
    ∃ k, c.1 = slotBase r.next + k ∧ FieldWord r.next k c.2 := by
  rcases List.mem_append.mp h with h | h
  · exact fieldWord_maskedGradeCells (clampGrade_inRange _) h
  · rw [List.mem_singleton.mp h]
    exact ⟨8, rfl, .inr (.inr (.inl rfl))⟩

theorem stages_visitMemory {s : State} (hrun : s.port.run = .running) (r : Ripple) :
    Stages s { s with cue := visitMemory s.cue r } := by
  unfold visitMemory
  split
  · exact stages_editScene hrun fun c => fieldWord_visitCells
  · exact stages_writeFields hrun fun c hc => ⟨r.next, fieldWord_visitCells hc⟩

theorem stages_visit {s : State} (hrun : s.port.run = .running) {r : Ripple} (h : s.requests.ripple = some r) :
    Stages s (s.visit r) := by
  unfold State.visit
  split
  · exact stages_afterVisit hrun h rfl
  · split
    · exact .of_request hrun (.endRipple _ h rfl)
    · refine (stages_visitMemory hrun r).trans (stages_afterVisit ?_ (r' := r) ?_ rfl)
      · exact hrun
      · exact h

theorem stages_visits (fuel : Nat) {s : State} (hrun : s.port.run = .running) : Stages s (State.visits fuel s) := by
  induction fuel generalizing s with
  | zero => exact .refl
  | succ fuel ih =>
    unfold State.visits
    split
    · next r h => exact (stages_visit hrun h).trans (ih (by simpa using hrun))
    · exact .refl

theorem stages_rippleVisits {s : State} (hrun : s.port.run = .running) : Stages s s.rippleVisits := by
  unfold State.rippleVisits
  split
  · exact stages_visits _ hrun
  · exact .refl

theorem stages_rippleVisitsUpTo (n : Nat) {s : State} (hrun : s.port.run = .running) :
    Stages s (s.rippleVisitsUpTo n) := by
  unfold State.rippleVisitsUpTo
  split
  · exact stages_visits _ hrun
  · exact .refl

theorem stages_handleActiveStart {s : State} (hrun : s.port.run = .running) : Stages s s.handleActiveStart := by
  have hscanned : Stages s (State.scan 4 s.executeSplit) :=
    (stages_executeSplit hrun).trans (stages_scan 4 (by simpa using hrun))
  have hvisited := hscanned.trans (stages_rippleVisits (by simpa using hrun))
  exact hvisited.request (by simpa using hrun) (.raiseNotify _)

theorem stages_passActiveStart (s : State) : Stages s s.passActiveStart := by
  have hflag : Stages s s.takeActiveFlag := .single (.event (.takeFlag s))
  unfold State.passActiveStart
  split
  · next hrun => exact hflag.trans (stages_handleActiveStart (by simpa using hrun))
  · exact hflag

theorem stages_untilReset (s : State) (m : ResetMoment) : Stages s (s.untilReset m) := by
  unfold State.untilReset
  split
  · next h =>
    have hrun : s.finishLiveRead.takeActiveFlag.port.run = .running := by simpa using h.1
    have hsplit : Stages s s.finishLiveRead.takeActiveFlag.executeSplit :=
      ((eventStages_finishLiveRead s).tail (.takeFlag _)).stages.trans (stages_executeSplit hrun)
    have hscanned (n : Nat) := hsplit.trans (stages_scan n (by simpa using hrun))
    dsimp only
    split
    · exact hscanned _
    · exact (hscanned 4).trans (stages_rippleVisitsUpTo _ (by simpa using hrun))
  · exact .refl

/-! ### Run control -/

@[simp] theorem buildCoefficients_read (s : State) : s.buildCoefficients.engine.read = s.engine.read := by
  unfold State.buildCoefficients
  (repeat' split) <;> rfl

theorem endLiveRead_read (s : State) (read : LiveRead) : (s.endLiveRead read).engine.read = none := by
  unfold State.endLiveRead
  dsimp only
  split
  · split <;> simp [Engine.take]
  · split
    · cases s.engine.revision <;> simp [Engine.tear]
    · simp [Engine.tear]

theorem liveWordRead_read (s : State) (read : LiveRead) :
    (s.liveWordRead read).engine.read = none ∨
      ∃ next, (s.liveWordRead read).engine.read = some next ∧ next.words.length = read.words.length + 1 ∧
        next.words.length < 13 := by
  unfold State.liveWordRead
  dsimp only
  split
  · exact .inl (endLiveRead_read _ _)
  · next h => exact .inr ⟨_, rfl, by simp, by simp at h ⊢; omega⟩

theorem liveReads_read (fuel : Nat) {s : State} (h : ∀ read, s.engine.read = some read → 13 ≤ read.words.length + fuel)
    (hfuel : 0 < fuel) : (State.liveReads fuel s).engine.read = none := by
  induction fuel generalizing s with
  | zero => omega
  | succ fuel ih =>
    unfold State.liveReads
    split
    · next read hread =>
      rcases liveWordRead_read s read with hnone | ⟨next, hnext, hlength, hlt⟩
      · rw [liveReads_of_none hnone, hnone]
      · have := h read hread
        refine ih (fun read' hread' => ?_) (by omega)
        rw [← Option.some.inj (hnext.symm.trans hread')]
        omega
    · assumption

theorem finishLiveRead_read (s : State) : s.finishLiveRead.engine.read = none :=
  liveReads_read 13 (fun _ _ => by omega) (by omega)

theorem stages_halt {s : State} (hrun : s.port.run = .running) : Stages s s.halt := by
  have hfaulted := (eventStages_finishLiveRead s).trans (eventStages_faultPassIf id .halted)
  have hhanded :=
    (hfaulted.trans (eventStages_handEach _ (s.finishLiveRead.faultPassIf s.finishLiveRead.pass.state.live .halted).2)).view
      (sameView_clearInternalEdges _)
  unfold State.halt
  refine hhanded.stages.tail (.halt (by simpa using hrun) ?_)
  simpa using finishLiveRead_read s

theorem stages_runStart {s : State} (hrun : s.port.run = .uninitialised) : Stages s s.runStart := by
  unfold State.runStart
  split
  · next o ho =>
    exact (Stages.single (.refuseBlock hrun (lt_of_setupFirstInvalid ho))).view (sameView_setCause _ _)
  · next h => exact .single (.initialise hrun h)

theorem stages_writeRunSet (s : State) : Stages s s.writeRunSet := by
  unfold State.writeRunSet
  split
  · next h => exact stages_runStart h
  · next h => exact .single (.resume h)
  · exact .refl

theorem stages_writeRunClear (s : State) : Stages s s.writeRunClear := by
  unfold State.writeRunClear
  split
  · exact .refl
  · exact .refl
  · next h => exact stages_halt h

theorem stages_writeControl (s : State) (v : Word) : Stages s (s.writeControl v) := by
  unfold State.writeControl
  split
  · exact .single (.reset s)
  · split
    · exact stages_writeRunSet s
    · exact stages_writeRunClear s

/-- Every command but the host's DATA write and the power-on reset is a chain of stages. -/
theorem stages_commandResult {c : Instr} (s : State) (hwrite : ∀ v, c ≠ .dataWrite v)
    (hpower : ∀ a b g r, c ≠ .powerOnReset a b g r) : Stages s (commandResult c s) := by
  have hlatch : Stages s s.emptyLatch := (EventStages.of_view (sameView_emptyLatch s)).stages
  by_cases hc : eventCommand c = true
  · exact (eventStages_commandResult hc s).stages
  cases c with
  | dataWrite v => exact absurd rfl (hwrite v)
  | powerOnReset a b g r => exact absurd rfl (hpower a b g r)
  | portReset => exact .single (.reset s)
  | runStart => exact hlatch.trans (stages_writeRunSet _)
  | halt => exact hlatch.trans (stages_writeRunClear _)
  | resume => exact hlatch.trans (stages_writeRunSet _)
  | activeStart =>
    cases hflag : s.sequencer.activeStartTaken with
    | true => rw [commandResult_eq_of_exec (exec_activeStart_of_taken hflag)]
    | false =>
      rw [commandResult_eq_of_exec (exec_activeStart_of_open hflag)]
      exact (eventStages_finishLiveRead s).stages.trans (stages_passActiveStart _)
  | registerWriteOther write =>
    cases write with
    | ident v => exact absurd rfl hc
    | control v => exact hlatch.trans (stages_writeControl _ v)
    | resetWithin m => exact (stages_untilReset s m).tail (.reset _)
  | _ => exact absurd rfl hc

end Sys2Proof.Proofs

/-! Every step, from every stage; the canonical form of cue memory and the validity of the set-up in force (R114, R182). -/

namespace Sys2Proof.Proofs
open Sys2Proof.Machine

/-! ### The set-up block -/

theorem setupWordValid_iff {m : Memory} {o : Nat} (h : o < 42) :
    setupWordValid m o = true ↔ validSetupWord o (Memory.read m o) (Memory.read m 10) := by
  have hword (n : Nat) (hn : n < 65536) : Memory.read m o = BitVec.ofNat 16 n ↔ (Memory.read m o).toNat = n := by
    rw [← BitVec.toNat_inj, BitVec.toNat_ofNat, Nat.mod_eq_of_lt hn]
  have h0 := hword 0 (by omega)
  have h1 := hword 1 (by omega)
  have h3 := hword 3 (by omega)
  have h4 := hword 4 (by omega)
  unfold setupWordValid validSetupWord setupWord
  interval_cases o <;> simp_all <;> omega

theorem setupFirstInvalid_eq_none_iff {m : Memory} : setupFirstInvalid m = none ↔ validSetupBlock m := by
  unfold setupFirstInvalid validSetupBlock
  rw [List.find?_eq_none]
  refine forall_congr' fun o => ?_
  rw [List.mem_range]
  refine imp_congr_right fun ho => ?_
  rw [← setupWordValid_iff ho]
  simp

theorem valid_readSetup {m : Memory} (h : validSetupBlock m) : (readSetup m).Valid := by
  obtain ⟨-, -, -, h6, -⟩ := h 6 (by omega)
  obtain ⟨-, -, -, -, h7, -⟩ := h 7 (by omega)
  obtain ⟨-, -, -, -, -, h8, -⟩ := h 8 (by omega)
  obtain ⟨-, -, -, -, -, -, h9, -⟩ := h 9 (by omega)
  obtain ⟨-, -, -, -, -, -, -, -, h11, -⟩ := h 11 (by omega)
  obtain ⟨-, -, -, -, -, -, -, -, -, h14, -⟩ := h 14 (by omega)
  obtain ⟨-, -, -, -, -, -, -, -, -, -, -, h16, -⟩ := h 16 (by omega)
  obtain ⟨hhigh, hclip⟩ := h11 rfl
  exact ⟨h6 rfl, h7 rfl, h8 rfl, h9 rfl, ⟨hclip, hhigh⟩, h14 rfl, h16 rfl⟩

/-! ### Where the stages write -/

/-- The words that the stages of the events write: the status block, the pass block and the ring. -/
def inEventWords (a : Nat) : Prop := inStatus a ∨ inPassBlock a ∨ inRing a

theorem EventStage.changesWithin {s t : State} (h : EventStage s t) :
    Memory.ChangesWithin inEventWords s.cue t.cue := by
  cases h with
  | same h => exact .of_eq h.cue
  | status h => exact h.mono fun _ => .inl
  | hand => exact (changesWithin_hand _ _).mono fun _ h => .inr (.inr h)
  | pass => exact (changesWithin_setPass _ _).mono fun _ h => .inr (.inl h)
  | _ => exact .of_eq (by simp)

theorem partWrites_of_inEventWords {a : Nat} (h : inEventWords a) : partWrites a := by
  unfold inEventWords at h
  unfold partWrites
  tauto

/-- The words that the stages of the request processor write: result words and the scene table. -/
def inRequestWords (a : Nat) : Prop := inResults a ∨ inSceneFields a

theorem partWrites_of_inSceneFields {a : Nat} (h : inSceneFields a) : partWrites a :=
  .inr (.inr (.inr (.inl (inScenes_of_inSceneFields h))))

theorem partWrites_of_inRequestWords {a : Nat} (h : inRequestWords a) : partWrites a :=
  h.elim (fun h => .inr (.inr (.inl h))) partWrites_of_inSceneFields

theorem RequestStage.changesWithin {s t : State} (h : RequestStage s t) :
    Memory.ChangesWithin inRequestWords s.cue t.cue := by
  cases h with
  | finish => exact (changesWithin_finishEntry _ _ _).mono fun _ h => .inl ⟨_, h⟩
  | endRipple => exact (changesWithin_endRipple _ _ _).mono fun _ h => .inl ⟨_, h⟩
  | takeRipple r =>
    exact changesWithin_write (a := entryBase r.entry) s.cue stateTaken
      (.inl ⟨r.entry, 0, .inl rfl, rfl⟩) (entryBase_add_lt (k := 0) (by omega))
  | insert => exact (changesWithin_makeScene _ _ _ _ _ _ _ _ _).mono fun _ => .inr
  | delete =>
    exact ((changesWithin_unlinkScene_fields _ _).trans (changesWithin_freeSlot _ _)).mono
      fun _ => .inr
  | move => exact (changesWithin_moveSceneTo _ _ _).mono fun _ => .inr
  | @writeField x k w h =>
    have hk : k < 22 := by
      rcases h with ⟨rfl, -⟩ | rfl | rfl | ⟨j, -, rfl, -⟩ <;> omega
    exact changesWithin_write _ _ (.inr (inSceneFields_add hk)) (slotBase_add_lt (by omega))
  | clear => exact (changesWithin_clearScenes _ _ _ _).mono fun _ => .inr
  | probe i h =>
    refine changesWithin_writeAll _ fun c hc => ?_
    have hbounds := mem_cellsFrom _ _ c hc
    obtain ⟨k, hk⟩ : ∃ k, c.1 = entryBase i + k := ⟨c.1 - entryBase i, by omega⟩
    exact ⟨.inl ⟨i, k, .inr (.inr (by omega)), hk⟩, hk ▸ entryBase_add_lt (by omega)⟩
  | _ => exact .of_eq (by simp)

theorem changesWithin_layOutScenes (m : Memory) : Memory.ChangesWithin inScenes m (layOutScenes m) := by
  have hcells : ∀ c ∈ baseSceneCells, inScenes c.1 ∧ c.1 < cueSize := by
    simp [baseSceneCells, sceneBase, inScenes, cueSize]
  refine .trans ⟨fun a ha => ?_, fun hwf => Memory.wf_clearRange m _ _ hwf⟩ (changesWithin_writeAll _ hcells)
  rw [Memory.read_clearRange, if_neg]
  unfold inScenes at ha
  unfold sceneBase
  omega

theorem changesWithin_abortTaken (s : State) (i : Fin 32) :
    Memory.ChangesWithin inResults s.cue (s.abortTaken i).cue := by
  unfold State.abortTaken
  split
  · exact (changesWithin_finishEntry s i _).mono fun _ h => ⟨i, h⟩
  · exact .refl _ _

theorem changesWithin_foldl_abortTaken (is : List (Fin 32)) (s : State) :
    Memory.ChangesWithin inResults s.cue (is.foldl State.abortTaken s).cue := by
  induction is generalizing s with
  | nil => exact .refl _ _
  | cons i is ih => exact (changesWithin_abortTaken s i).trans (ih _)

theorem changesWithin_abortAllTaken (s : State) : Memory.ChangesWithin inResults s.cue s.abortAllTaken.cue := by
  unfold State.abortAllTaken
  exact changesWithin_foldl_abortTaken _ s

theorem changesWithin_startRequests (s : State) : Memory.ChangesWithin inResults s.cue s.startRequests.cue := by
  unfold State.startRequests
  dsimp only
  exact changesWithin_abortAllTaken s

theorem changesWithin_startPassController (s : State) :
    Memory.ChangesWithin inPassBlock s.cue s.startPassController.cue := by
  unfold State.startPassController
  dsimp only
  exact (changesWithin_writeAll _ (passCells_inPassBlock Pass.initial)).trans (.of_eq rfl)

theorem changesWithin_startWriter (s : State) : Memory.ChangesWithin inRing s.cue s.startWriter.cue := by
  unfold State.startWriter
  dsimp only
  refine changesWithin_writeAll (cs := ringSequenceCells) s.cue fun c hc => ?_
  unfold ringSequenceCells at hc
  obtain ⟨i, -, rfl⟩ := List.mem_map.mp hc
  have := ringPlace_bounds i
  unfold inRing cueSize
  dsimp only; omega

theorem changesWithin_initialise (s : State) (st : Setup) :
    Memory.ChangesWithin partWrites s.cue (s.initialise st).cue := by
  have htaken : ((s.takeSetup st).setSetupFault none).cue = s.cue := by simp
  have hlaid : Memory.ChangesWithin partWrites s.cue ((s.takeSetup st).setSetupFault none).layOut.startTracker.cue := by
    simpa [State.layOut, htaken] using (changesWithin_layOutScenes s.cue).mono fun _ h => .inr (.inr (.inr (.inl h)))
  simp only [State.initialise, State.setRun_frame]
  refine hlaid.trans (((changesWithin_startRequests _).mono ?_).trans
    (((changesWithin_startPassController _).mono ?_).trans ((changesWithin_startWriter _).mono ?_)))
  · exact fun _ h => .inr (.inr (.inl h))
  · exact fun _ h => .inr (.inl h)
  · exact fun _ h => .inr (.inr (.inr (.inr h)))

theorem Stage.changesWithin {s t : State} (h : Stage s t) : Memory.ChangesWithin partWrites s.cue t.cue := by
  cases h with
  | event h => exact h.changesWithin.mono fun _ => partWrites_of_inEventWords
  | request _ h => exact h.changesWithin.mono fun _ => partWrites_of_inRequestWords
  | initialise _ _ => exact changesWithin_initialise _ _
  | _ => exact .of_eq rfl

/-! ### Every step -/

/-- A DATA_WRITE is made at the pointer, or leaves all that the laws read. -/
theorem dataWrite_cases (v : Word) (s : State) :
    (hostWriteMade s.cue s.port.pointer.toNat v = true ∧
        SameView { s with cue := Memory.write s.cue s.port.pointer.toNat v } (commandResult (.dataWrite v) s)) ∨
      SameView s (commandResult (.dataWrite v) s) := by
  cases h : hostWriteMade s.cue s.port.pointer.toNat v with
  | true =>
    rw [commandResult_eq_of_exec (exec_dataWrite_of_made h)]
    exact .inl ⟨rfl, by constructor <;> rfl⟩
  | false =>
    rw [commandResult_eq_of_exec (exec_dataWrite_of_discarded h)]
    exact .inr (by constructor <;> rfl)

/-- What every stage keeps, every DATA write that is made keeps and every power-on reset gives, every command keeps. -/
theorem commandResult_keeps {I : State → Prop} (hstage : ∀ s t, Stage s t → I s → I t)
    (hwrite : ∀ (s : State) (a : Nat) (v : Word), a < cueSize → hostWriteMade s.cue a v = true → I s →
      I { s with cue := Memory.write s.cue a v })
    (hpower : ∀ (s : State) (a b : Bool) (g : BitVec 4) (r : List (Addr × Word)), I s → I (s.powerOn a b g r))
    (c : Instr) {s : State} (hs : I s) : I (commandResult c s) := by
  have hview {t u : State} (h : SameView t u) (ht : I t) : I u := hstage _ _ (.event (.same h)) ht
  by_cases hdata : ∃ v, c = .dataWrite v
  · obtain ⟨v, rfl⟩ := hdata
    rcases dataWrite_cases v s with ⟨hmade, h⟩ | h
    · exact hview h (hwrite s _ v (BitVec.isLt _) hmade hs)
    · exact hview h hs
  by_cases hreset : ∃ a b g r, c = .powerOnReset a b g r
  · obtain ⟨a, b, g, r, rfl⟩ := hreset
    exact hpower s a b g r hs
  exact (stages_commandResult s (fun v h => hdata ⟨v, h⟩) fun a b g r h => hreset ⟨a, b, g, r, h⟩).keeps hstage hs

theorem step_keeps {I : State → Prop} (hstage : ∀ s t, Stage s t → I s → I t)
    (hwrite : ∀ (s : State) (a : Nat) (v : Word), a < cueSize → hostWriteMade s.cue a v = true → I s →
      I { s with cue := Memory.write s.cue a v })
    (hpower : ∀ (s : State) (a b : Bool) (g : BitVec 4) (r : List (Addr × Word)), I s → I (s.powerOn a b g r))
    {s t : State} (h : step s = .next t) (hs : I s) : I t := by
  unfold step at h
  split at h
  · cases h; exact hs
  · next c rest _ =>
    rw [exec_eq_next, Host.Outcome.next.injEq] at h
    rw [← h]
    exact commandResult_keeps hstage hwrite hpower c
      (hstage _ _ (.event (.same (by constructor <;> rfl))) hs)

/-! ### The canonical form and the validity of the set-up -/

theorem wf_powerOnMemory (ram : List (Addr × Word)) : Memory.wf (powerOnMemory ram) = true := by
  refine Memory.wf_writeAll [] _ rfl fun c hc => ?_
  obtain ⟨d, -, rfl⟩ := List.mem_map.mp hc
  exact BitVec.isLt d.1

theorem valid_default : Setup.default.Valid := by unfold Setup.Valid Setup.default; decide

theorem wf_of_step {s t : State} (h : step s = .next t) (hs : Memory.wf s.cue = true) : Memory.wf t.cue = true :=
  step_keeps (I := fun u => Memory.wf u.cue = true) (fun _ _ h hs => h.changesWithin.wf hs)
    (fun s a v ha _ hs => Memory.wf_write s.cue a v hs ha) (fun _ _ _ _ r _ => wf_powerOnMemory r) h hs

theorem EventStage.setup {s t : State} (h : EventStage s t) : t.setup = s.setup := by
  cases h with
  | same h => exact h.setup
  | _ => simp

@[simp] theorem takeSetup_setup (s : State) (st : Setup) : (s.takeSetup st).setup = st := rfl

@[simp] theorem initialise_setup (s : State) (st : Setup) : (s.initialise st).setup = st := by
  simp [State.initialise]

theorem RequestStage.setup {s t : State} (h : RequestStage s t) :
    t.setup = s.setup ∨ (setupFirstInvalid s.cue = none ∧ t = s.takeSetup (readSetup s.cue)) := by
  cases h with
  | applySetup h => exact .inr ⟨h, rfl⟩
  | _ => exact .inl (by simp)

theorem Stage.valid {s t : State} (h : Stage s t) (hs : s.setup.Valid) : t.setup.Valid := by
  cases h with
  | event h => rwa [h.setup]
  | request _ h =>
    rcases h.setup with h | ⟨hvalid, rfl⟩
    · rwa [h]
    · exact valid_readSetup (setupFirstInvalid_eq_none_iff.mp hvalid)
  | initialise _ h => simpa using valid_readSetup (setupFirstInvalid_eq_none_iff.mp h)
  | reset => exact valid_default
  | _ => exact hs

/-- Settles O4: no stage writes outside cue memory, and every set-up taken has passed validation. -/
theorem memoryAndSetupStayLegal : Obligations.MemoryAndSetupStayLegal := fun _ _ h =>
  ⟨wf_of_step h, step_keeps (I := fun u => u.setup.Valid) (fun _ _ h => h.valid) (fun _ _ _ _ _ hs => hs)
    (fun _ _ _ _ _ _ => valid_default) h⟩

end Sys2Proof.Proofs

/-! What an idle part holds (R49, R57, R76, R93, R99, R120, R148, R158, R165, R179). -/

namespace Sys2Proof.Proofs
open Sys2Proof.Machine

/-! ### The run state over the stages -/

theorem EventStage.run {s t : State} (h : EventStage s t) : t.port.run = s.port.run := by
  cases h with
  | same h => exact h.run
  | _ => simp

theorem RequestStage.run {s t : State} (h : RequestStage s t) : t.port.run = s.port.run := by
  cases h <;> simp

@[simp] theorem initialise_run (s : State) (st : Setup) : (s.initialise st).port.run = .running := by
  simp [State.initialise]

/-! ### While HALTED -/

theorem hand_of_not_running {s : State} (h : s.port.run ≠ .running) (r : Record) : s.hand r = s := by
  unfold State.hand State.takes
  simp [h]

/-- A release moves the release count alone. -/
theorem release_writer (s : State) (v : Word) :
    (s.release v).writer = { s.writer with releaseCount := (s.release v).writer.releaseCount } := by
  unfold State.release
  dsimp only
  split <;> rfl

/-- A part that holds what it held at `s₀`, whose items no event of an idle part moves. -/
structure IdleAs (s₀ s : State) : Prop where
  run : s.port.run = .halted
  tracker : s.tracker = s₀.tracker
  engine : s.engine = s₀.engine
  requests : s.requests = s₀.requests
  pass : s.pass = s₀.pass
  setup : s.setup = s₀.setup
  writeCount : s.writer.writeCount = s₀.writer.writeCount
  gap : s.writer.gap = s₀.writer.gap
  cue : ∀ a, inScenes a ∨ inPassBlock a ∨ inRing a → Memory.read s.cue a = Memory.read s₀.cue a

theorem IdleAs.view {s₀ s t : State} (h : IdleAs s₀ s) (hview : SameView s t) : IdleAs s₀ t where
  run := hview.run ▸ h.run
  tracker := hview.tracker ▸ h.tracker
  engine := hview.engine ▸ h.engine
  requests := hview.requests ▸ h.requests
  pass := hview.pass ▸ h.pass
  setup := hview.setup ▸ h.setup
  writeCount := hview.writer ▸ h.writeCount
  gap := hview.writer ▸ h.gap
  cue := hview.cue ▸ h.cue

theorem IdleAs.of_changesWithin {s₀ s : State} {P : Nat → Prop} {m : Memory} (h : IdleAs s₀ s)
    (hcue : Memory.ChangesWithin P s.cue m) (hP : ∀ a, P a → ¬(inScenes a ∨ inPassBlock a ∨ inRing a)) :
    IdleAs s₀ { s with cue := m } where
  run := h.run
  tracker := h.tracker
  engine := h.engine
  requests := h.requests
  pass := h.pass
  setup := h.setup
  writeCount := h.writeCount
  gap := h.gap
  cue a ha := (hcue.read fun hPa => hP a hPa ha).trans (h.cue a ha)

theorem not_passChange_of_idle {s : State} {p : Pass} (hrun : s.port.run ≠ .running) (hcued : s.pass.state ≠ .cued)
    (hrec : s.pass.state ≠ .recording) : ¬PassChange s p := by
  intro h
  cases h with
  | enter h _ => exact hcued h
  | fault h _ => revert h; cases hs : s.pass.state <;> simp_all [PassState.live]
  | count h _ _ _ => exact hrec h
  | stop h => exact hrec h
  | start h _ _ => exact hrun h
  | resume h _ => exact hrun h
  | abandon h _ => exact hrun h

theorem EventStage.idleAs {s₀ s t : State} (h : EventStage s t) (hcued : s₀.pass.state ≠ .cued)
    (hrec : s₀.pass.state ≠ .recording) (hread : s₀.engine.read = none) (hs : IdleAs s₀ s) : IdleAs s₀ t := by
  have hrun : s.port.run ≠ .running := by rw [hs.run]; decide
  have hinactive : ¬(s.port.run = .running ∨ s.engine.read ≠ none) := by rw [hs.engine]; tauto
  cases h with
  | same h => exact hs.view h
  | status h =>
    exact hs.of_changesWithin h fun a ha => by unfold inStatus at ha; unfold inScenes inPassBlock inRing; omega
  | hand r => rwa [hand_of_not_running hrun]
  | release v =>
    exact ⟨by simpa using hs.run, by simpa using hs.tracker, by simpa using hs.engine, by simpa using hs.requests,
      by simpa using hs.pass, by simpa using hs.setup, by rw [release_writer]; exact hs.writeCount,
      by rw [release_writer]; exact hs.gap, by simpa using hs.cue⟩
  | engine e h _ => exact absurd h hinactive
  | build e h _ => exact absurd h hinactive
  | splitPending h => exact absurd h hrun
  | resolved h _ => exact absurd h hrun
  | held h _ => exact absurd h hrun
  | pass h => exact absurd h (not_passChange_of_idle hrun (hs.pass ▸ hcued) (hs.pass ▸ hrec))
  | takeField => exact ⟨hs.run, hs.tracker, hs.engine, hs.requests, hs.pass, hs.setup, hs.writeCount, hs.gap, hs.cue⟩
  | loseReference => exact ⟨hs.run, hs.tracker, hs.engine, hs.requests, hs.pass, hs.setup, hs.writeCount, hs.gap, hs.cue⟩
  | takeFlag => exact ⟨hs.run, hs.tracker, hs.engine, hs.requests, hs.pass, hs.setup, hs.writeCount, hs.gap, hs.cue⟩
  | position => exact ⟨hs.run, hs.tracker, hs.engine, hs.requests, hs.pass, hs.setup, hs.writeCount, hs.gap, hs.cue⟩

theorem not_hostWriteMade {m : Memory} {a : Nat} {v : Word} (h : inScenes a ∨ inPassBlock a ∨ inRing a ∨ inStatus a) :
    hostWriteMade m a v = false := by
  unfold inScenes inPassBlock inRing inStatus at h
  unfold hostWriteMade
  split_ifs <;> first | rfl | omega

theorem activeStart_of_not_running {s : State} (hrun : s.port.run ≠ .running) (hread : s.engine.read = none) :
    commandResult .activeStart s = if s.sequencer.activeStartTaken then s else s.takeActiveFlag := by
  cases hflag : s.sequencer.activeStartTaken with
  | true => rw [commandResult_eq_of_exec (exec_activeStart_of_taken hflag)]; rfl
  | false =>
    rw [commandResult_eq_of_exec (exec_activeStart_of_open hflag), finishLiveRead_of_none hread]
    unfold State.passActiveStart
    simp [hrun]

theorem idleAs_dataWrite {s : State} (hs : IdleAs s s) (v : Word) : IdleAs s (commandResult (.dataWrite v) s) := by
  rcases dataWrite_cases v s with ⟨hmade, h⟩ | h
  · refine IdleAs.view (hs.of_changesWithin (P := fun a => a = s.port.pointer.toNat)
      ⟨fun a ha => Memory.read_write_other _ _ _ _ ha, fun hwf => Memory.wf_write _ _ _ hwf (BitVec.isLt _)⟩ ?_) h
    rintro a rfl hregion
    have := not_hostWriteMade (m := s.cue) (v := v) (hregion.imp_right (Or.imp_right .inl))
    simp [this] at hmade
  · exact hs.view h

theorem idleAs_of_exec {c : Instr} {s : State} (hhalted : s.port.run = .halted) (hcued : s.pass.state ≠ .cued)
    (hrec : s.pass.state ≠ .recording) (hread : s.engine.read = none)
    (hc : eventCommand c = true ∨ c = .activeStart ∨ ∃ v, c = .dataWrite v) : IdleAs s (commandResult c s) := by
  have hs : IdleAs s s := ⟨hhalted, rfl, rfl, rfl, rfl, rfl, rfl, rfl, fun _ _ => rfl⟩
  have hrun : s.port.run ≠ .running := by rw [hhalted]; decide
  rcases hc with hc | rfl | ⟨v, rfl⟩
  · exact (eventStages_commandResult hc s).keeps (fun _ _ h => h.idleAs hcued hrec hread) hs
  · rw [activeStart_of_not_running hrun hread]
    split
    · exact hs
    · exact EventStage.idleAs (.takeFlag s) hcued hrec hread hs
  · exact idleAs_dataWrite hs v

/-! ### Before initialisation -/

/-- The laws of an idle part, together: a part not initialised and a live read. -/
def IdleLaws (s : State) : Prop := s.UninitialisedLaw ∧ s.LiveReadLaw

theorem IdleLaws.of_running {s : State} (h : s.port.run = .running) : IdleLaws s :=
  ⟨fun hrun => (nomatch h.symm.trans hrun), fun hrun => absurd h hrun⟩

theorem IdleLaws.of_view {s t : State} (h : SameView s t) (hs : IdleLaws s) : IdleLaws t := by
  unfold IdleLaws State.UninitialisedLaw State.LiveReadLaw at *
  rwa [h.run, h.setup, h.tracker, h.engine, h.pass, h.writer, h.requests]

theorem release_initial {s : State} (h : s.writer = Writer.initial) (v : Word) :
    (s.release v).writer = Writer.initial := by
  unfold State.release
  rw [h]
  dsimp only
  split
  · next hle =>
    have hv : v = 0 := by
      have hzero : (v - 0).toNat = 0 := Nat.le_zero.mp hle
      exact BitVec.eq_of_toNat_eq (by simpa using hzero)
    rw [hv]; rfl
  · rfl

theorem EventStage.idleLaws {s t : State} (h : EventStage s t) (hs : IdleLaws s) : IdleLaws t := by
  by_cases hrun : s.port.run = .running
  · exact .of_running (h.run ▸ hrun)
  have hread := hs.2 hrun
  have hinactive : ¬(s.port.run = .running ∨ s.engine.read ≠ none) := by tauto
  cases h with
  | same h => exact hs.of_view h
  | hand r => rwa [hand_of_not_running hrun]
  | engine e h _ => exact absurd h hinactive
  | build e h _ => exact absurd h hinactive
  | splitPending h => exact absurd h hrun
  | resolved h _ => exact absurd h hrun
  | held h _ => exact absurd h hrun
  | release v =>
    refine ⟨fun huninit => ?_, fun _ => by simpa using hread⟩
    obtain ⟨hsetup, htracker, hengine, hpass, hwriter, hrequests⟩ := hs.1 (by simpa using huninit)
    exact ⟨by simpa using hsetup, by simpa using htracker, by simpa using hengine, by simpa using hpass,
      release_initial hwriter v, by simpa using hrequests⟩
  | pass h =>
    refine ⟨fun huninit => ?_, fun _ => by simpa using hread⟩
    obtain ⟨-, -, -, hpass, -, -⟩ := hs.1 (by simpa using huninit)
    exact absurd h (not_passChange_of_idle hrun (by rw [hpass]; decide) (by rw [hpass]; decide))
  | status => exact hs
  | takeField => exact hs
  | loseReference => exact hs
  | takeFlag => exact hs
  | position => exact hs

theorem idleLaws_of_reset {s : State} (hsetup : s.setup = Setup.default) (htracker : s.tracker = Tracker.initial)
    (hengine : s.engine = State.reset.engine) (hpass : s.pass = Pass.initial) (hwriter : s.writer = Writer.initial)
    (hrequests : s.requests = State.reset.requests) : IdleLaws s :=
  ⟨fun _ => ⟨hsetup, htracker, hengine, hpass, hwriter, by rw [hrequests]⟩, fun _ => by rw [hengine]; rfl⟩

theorem Stage.idleLaws {s t : State} (h : Stage s t) (hs : IdleLaws s) : IdleLaws t := by
  cases h with
  | event h => exact h.idleLaws hs
  | request hrun h => exact .of_running (h.run ▸ hrun)
  | initialise => exact .of_running (initialise_run _ _)
  | refuseBlock hrun h =>
    refine ⟨fun _ => ?_, fun _ => hs.2 (by rw [hrun]; decide)⟩
    obtain ⟨hsetup, htracker, hengine, hpass, hwriter, hrequests⟩ := hs.1 hrun
    exact ⟨hsetup, htracker, hengine, hpass, hwriter, by simp only [State.setSetupFault]; rw [hrequests]⟩
  | resume => exact .of_running rfl
  | halt _ hread => exact ⟨nofun, fun _ => hread⟩
  | reset => exact idleLaws_of_reset rfl rfl rfl rfl rfl rfl

theorem idleLaws_of_step {s t : State} (hs : IdleLaws s) (h : step s = .next t) : IdleLaws t :=
  step_keeps (I := IdleLaws) (fun _ _ h => h.idleLaws) (fun _ _ _ _ _ hs => hs)
    (fun _ _ _ _ _ _ => idleLaws_of_reset rfl rfl rfl rfl rfl rfl) h hs

/-- The commands that are no reset and no CONTROL write. -/
theorem eventCommand_or {c : Instr} (hport : c ≠ .portReset) (hstart : c ≠ .runStart) (hresume : c ≠ .resume)
    (hhalt : c ≠ .halt) (hcontrol : ∀ v, c ≠ .registerWriteOther (.control v))
    (hwithin : ∀ m, c ≠ .registerWriteOther (.resetWithin m)) (hpower : ∀ a b g r, c ≠ .powerOnReset a b g r) :
    eventCommand c = true ∨ c = .activeStart ∨ ∃ v, c = .dataWrite v := by
  cases c with
  | portReset => exact absurd rfl hport
  | runStart => exact absurd rfl hstart
  | resume => exact absurd rfl hresume
  | halt => exact absurd rfl hhalt
  | powerOnReset a b g r => exact absurd rfl (hpower a b g r)
  | activeStart => exact .inr (.inl rfl)
  | dataWrite v => exact .inr (.inr ⟨v, rfl⟩)
  | registerWriteOther write =>
    cases write with
    | ident v => exact .inl rfl
    | control v => exact absurd rfl (hcontrol v)
    | resetWithin m => exact absurd rfl (hwithin m)
  | _ => exact .inl rfl

/-- Settles O12: no stage of an event moves an idle part, and every stage keeps the laws of a part not initialised and
of the live read. -/
theorem idlePartHolds : Obligations.IdlePartHolds := by
  refine ⟨fun c s t hhalted hcued hrec hread hport hstart hresume hhalt hcontrol hwithin hpower h => ?_,
    fun s t huninit hlive h => idleLaws_of_step ⟨huninit, hlive⟩ h⟩
  have hidle := idleAs_of_exec hhalted hcued hrec hread
    (eventCommand_or hport hstart hresume hhalt hcontrol hwithin hpower)
  rw [exec_eq_next_iff.mp h] at hidle
  exact ⟨hidle.run, hidle.tracker, hidle.engine, hidle.requests, hidle.pass, hidle.setup, hidle.writeCount, hidle.gap,
    hidle.cue⟩

end Sys2Proof.Proofs

/-! The law of the position counter (R3 to R14) and the law of the sequencer (R22 to R29), stage by stage. -/

namespace Sys2Proof.Proofs
open Sys2Proof.Machine

/-! ### Frames and counts (R3) -/

theorem perfs_pos (k : Gauge) : 0 < k.perfs := by cases k <;> decide

theorem inRange_frame_iff (p : Position) :
    inRange p.frame ↔
      p.gauge.perfs * -65536 ≤ p.count ∧ p.count ≤ p.gauge.perfs * 1048575 + (p.gauge.perfs - 1) := by
  unfold inRange Position.frame
  cases p.gauge <;> simp only [Gauge.perfs] <;> omega

/-- A changed gauge keeps the frame (R8). -/
@[simp] theorem takeSetup_frame (p : Position) (k : Gauge) : (p.takeSetup k).frame = p.frame := by
  unfold Position.takeSetup Position.frame
  dsimp only
  split
  · next h => rw [h]
  · exact Int.mul_ediv_cancel_left _ (perfs_pos k).ne'

/-- Where a step is refused (R3, R6). -/
theorem refuses_forward_iff {p : Position} :
    p.refuses .forward = true ↔ p.gauge.perfs * 1048575 + (p.gauge.perfs - 1) ≤ p.count := decide_eq_true_iff

theorem refuses_reverse_iff {p : Position} : p.refuses .reverse = true ↔ p.count ≤ p.gauge.perfs * -65536 :=
  decide_eq_true_iff

theorem clampFrame_inRange (g : Int) : inRange (clampFrame g) := by
  unfold inRange clampFrame clampInt frameLow frameHigh; omega

/-- Perforations counted from a frame at a phase give that frame back. -/
theorem frame_of_count {p : Position} {f r : Int} (h : p.count = p.gauge.perfs * f + r) (hr : 0 ≤ r)
    (hr' : r < p.gauge.perfs) : p.frame = f ∧ p.phase = r := by
  unfold Position.frame Position.phase
  rw [h]
  revert hr'
  cases p.gauge <;> simp only [Gauge.perfs] <;> omega

theorem phase_bounds (p : Position) : 0 ≤ p.phase ∧ p.phase < p.gauge.perfs := by
  unfold Position.phase
  cases p.gauge <;> simp only [Gauge.perfs] <;> omega

/-! ### The law of the position counter -/

theorem positionLaw_of_eq {s t : State} (hs : s.PositionLaw) (hposition : t.position = s.position)
    (hsetup : t.setup = s.setup) (hframe : t.sequencer.fieldFrame = s.sequencer.fieldFrame) : t.PositionLaw := by
  unfold State.PositionLaw at *
  rwa [hposition, hsetup, hframe]

/-- The law of a position that is GOOD. -/
theorem positionLaw_of_good {t : State} (hgauge : t.position.gauge = t.setup.gauge) (hrange : inRange t.position.frame)
    (hframe : inRange t.sequencer.fieldFrame) (hgood : t.position.state = .good) : t.PositionLaw :=
  ⟨hgauge, hrange, hframe, by simp [hgood], by simp [hgood], by simp [hgood], by simp [hgood]⟩

theorem inRange_frame_of_counted {p : Position} (hp : inRange p.frame) {d : StepDirection} (h : p.refuses d = false)
    (st : PositionState) : inRange { p with count := d.applied p.count, state := st }.frame := by
  rw [inRange_frame_iff] at hp ⊢
  have hperfs := perfs_pos p.gauge
  cases d with
  | forward =>
    have := mt refuses_forward_iff.mpr (Bool.eq_false_iff.mp h)
    simp only [StepDirection.applied]; omega
  | reverse =>
    have := mt refuses_reverse_iff.mpr (Bool.eq_false_iff.mp h)
    simp only [StepDirection.applied]; omega

theorem positionLaw_of_counted {s : State} (hs : s.PositionLaw) {d : StepDirection}
    (h : s.position.refuses d = false) :
    State.PositionLaw
      { s with
        position := { s.position with count := d.applied s.position.count, state := s.position.state.afterStep d } } := by
  obtain ⟨hgauge, hrange, hframe, hsuspect, hfault, hlow, hhigh⟩ := hs
  have hcounted := inRange_frame_of_counted hrange h (s.position.state.afterStep d)
  cases hstate : s.position.state with
  | good => exact ⟨hgauge, hcounted, hframe, nofun, nofun, nofun, nofun⟩
  | suspect e =>
    exact ⟨hgauge, hcounted, hframe, fun _ _ => hsuspect e hstate, nofun, nofun, nofun⟩
  | fault => exact ⟨hgauge, hcounted, hframe, nofun, fun _ => hfault hstate, nofun, nofun⟩
  | limit e =>
    cases d with
    | forward =>
      cases e with
      | low => exact ⟨hgauge, hcounted, hframe, nofun, nofun, nofun, nofun⟩
      | high =>
        exact absurd (refuses_forward_iff.mpr (hhigh hstate).ge) (by simp [h])
    | reverse =>
      cases e with
      | high => exact ⟨hgauge, hcounted, hframe, nofun, nofun, nofun, nofun⟩
      | low =>
        exact absurd (refuses_reverse_iff.mpr (hlow hstate).le) (by simp [h])

theorem positionLaw_of_refused {s : State} (hs : s.PositionLaw) {d : StepDirection} (h : s.position.refuses d = true) :
    State.PositionLaw { s with position := { s.position with state := .limit d.rangeEnd } } := by
  obtain ⟨hgauge, hrange, hframe, -, -, -, -⟩ := hs
  have hbounds := (inRange_frame_iff _).mp hrange
  cases d with
  | forward =>
    exact ⟨hgauge, hrange, hframe, nofun, nofun, nofun, fun _ => le_antisymm hbounds.2 (refuses_forward_iff.mp h)⟩
  | reverse =>
    exact ⟨hgauge, hrange, hframe, nofun, nofun, fun _ => le_antisymm (refuses_reverse_iff.mp h) hbounds.1, nofun⟩

theorem PositionChange.positionLaw {s : State} {p : Position} (h : PositionChange s p) (hs : s.PositionLaw) :
    State.PositionLaw { s with position := p } := by
  have ⟨hgauge, hrange, hframe, hsuspect, hfault, hlow, hhigh⟩ := hs
  cases h with
  | idle hcount hg hstate =>
    have hsame : p.frame = s.position.frame := by unfold Position.frame; rw [hcount, hg]
    unfold State.PositionLaw
    simp only [hsame, hcount, hg, hstate]
    exact hs
  | refuse h => exact positionLaw_of_refused hs h
  | count h => exact positionLaw_of_counted hs h
  | good => exact positionLaw_of_good hgauge hrange hframe rfl
  | suspect d h => exact ⟨hgauge, hrange, hframe, fun _ _ => h, nofun, nofun, nofun⟩
  | fault h => exact ⟨hgauge, hrange, hframe, nofun, fun _ => h, nofun, nofun⟩
  | resynchronise g =>
    have hbounds := phase_bounds s.position
    have hresynced :=
      (frame_of_count (p := { s.position with
        count := s.position.gauge.perfs * clampFrame g + s.position.phase, state := .good }) rfl hbounds.1 hbounds.2).1
    refine positionLaw_of_good hgauge ?_ hframe rfl
    dsimp only
    rw [hresynced]
    exact clampFrame_inRange g

theorem EventStage.positionLaw {s t : State} (h : EventStage s t) (hs : s.PositionLaw) : t.PositionLaw := by
  cases h with
  | same h => exact positionLaw_of_eq hs h.position h.setup (h.sequencer ▸ rfl)
  | takeField id b =>
    obtain ⟨hgauge, hrange, -, hrest⟩ := hs
    exact ⟨hgauge, hrange, hrange, hrest⟩
  | position h => exact h.positionLaw hs
  | _ => exact positionLaw_of_eq hs (by simp) (by simp) (by simp [Sequencer.lost])

theorem positionLaw_takeSetup {s : State} (hs : s.PositionLaw) (st : Setup) : (s.takeSetup st).PositionLaw := by
  obtain ⟨-, hrange, hframe, -⟩ := hs
  exact positionLaw_of_good rfl ((takeSetup_frame _ _).symm ▸ hrange) hframe rfl

@[simp] theorem initialise_position (s : State) (st : Setup) :
    (s.initialise st).position = s.position.takeSetup st.gauge := by
  simp [State.initialise, State.takeSetup]

theorem initialise_sequencer (s : State) (st : Setup) :
    (s.initialise st).sequencer =
      { s.sequencer with alignPending := s.sequencer.alignPending || st.videoMode != s.setup.videoMode } := by
  simp [State.initialise, State.takeSetup]

theorem positionLaw_initialise {s : State} (hs : s.PositionLaw) (st : Setup) : (s.initialise st).PositionLaw :=
  positionLaw_of_eq (positionLaw_takeSetup hs st) (by simp [State.takeSetup]) (by simp)
    (by simp [initialise_sequencer, State.takeSetup])

theorem RequestStage.positionLaw {s t : State} (h : RequestStage s t) (hs : s.PositionLaw) : t.PositionLaw := by
  cases h with
  | applySetup => exact positionLaw_takeSetup hs _
  | _ => exact positionLaw_of_eq hs (by simp) (by simp) (by simp)

theorem positionLaw_of_reset {s : State} (hcount : s.position.count = 0) (hgauge : s.position.gauge = .four)
    (hstate : s.position.state = .good) (hsetup : s.setup = Setup.default) (hframe : s.sequencer.fieldFrame = 0) :
    s.PositionLaw := by
  refine positionLaw_of_good (by rw [hgauge, hsetup]; rfl) ?_ (by rw [hframe]; exact ⟨by omega, by omega⟩) hstate
  rw [inRange_frame_iff, hcount, hgauge]
  simp only [Gauge.perfs]; omega

theorem Stage.positionLaw {s t : State} (h : Stage s t) (hs : s.PositionLaw) : t.PositionLaw := by
  cases h with
  | event h => exact h.positionLaw hs
  | request _ h => exact h.positionLaw hs
  | initialise => exact positionLaw_initialise hs _
  | reset => exact positionLaw_of_reset rfl rfl rfl rfl rfl
  | _ => exact positionLaw_of_eq hs rfl rfl rfl

theorem positionLaw_of_step {s t : State} (hs : s.PositionLaw) (h : step s = .next t) : t.PositionLaw :=
  step_keeps (I := State.PositionLaw) (fun _ _ h => h.positionLaw)
    (fun _ _ _ _ _ hs => positionLaw_of_eq hs rfl rfl rfl)
    (fun _ _ _ _ _ _ => positionLaw_of_reset rfl rfl rfl rfl rfl) h hs

/-- Settles O22: every stage keeps the law of the counter. -/
theorem positionStaysLawful : Obligations.PositionStaysLawful := fun _ _ => positionLaw_of_step

/-! ### The law of the sequencer -/

theorem sequencerLaw_of_eq {s t : State} (hs : s.SequencerLaw) (hsequencer : t.sequencer = s.sequencer)
    (hsetup : t.setup = s.setup) : t.SequencerLaw := by
  unfold State.SequencerLaw at *
  rwa [hsequencer, hsetup]

/-- The identity of the field after one of a given parity, where the identities alternate. -/
theorem identity_of_ne {p : Nat} {id : FieldIdentity}
    (h : some (if p % 2 = 0 then FieldIdentity.field1 else .field2) ≠ some id) (n : Nat) :
    id = if (p + 1) % (2 * n) % 2 = 0 then .field1 else .field2 := by
  rw [Nat.mod_mul_right_mod]
  rcases Nat.mod_two_eq_zero_or_one p with hp | hp <;> cases id <;> simp [hp, Nat.add_mod] at h ⊢

theorem cycleLength_even (mode : VideoMode) : ∃ n, 0 < n ∧ mode.cycleLength = 2 * n := by
  cases mode
  · exact ⟨5, by omega, rfl⟩
  · exact ⟨1, by omega, rfl⟩
  · exact ⟨1, by omega, rfl⟩

theorem frameStart_zero (mode : VideoMode) : mode.frameStart 0 = true := by cases mode <;> rfl

theorem goodAfter_le {n : Nat} (h : n ≤ 4) (j : Judgement) : goodAfter n j ≤ 4 := by
  cases j <;> simp [goodAfter, h]

theorem lockedAfter_iff {n : Nat} {locked : Bool} (h : locked = true ↔ n = 4) (j : Judgement) :
    lockedAfter n locked j = true ↔ goodAfter n j = 4 := by
  cases j with
  | bad => simp [lockedAfter, goodAfter]
  | goodStart =>
    rw [lockedAfter, Bool.or_eq_true, decide_eq_true_iff, h, goodAfter]
    · omega
    · exact nofun
  | good => rw [lockedAfter, Bool.or_eq_true, decide_eq_true_iff, h, goodAfter, or_self]; exact nofun
  | unjudged => rw [lockedAfter, Bool.or_eq_true, decide_eq_true_iff, h, goodAfter, or_self]; exact nofun

/-- The phase of a field under the law: of the cycle, and of the parity of the identity. -/
theorem placeField_spec {s : State} (hs : s.SequencerLaw) (id : FieldIdentity) (b : Bool) {p : Nat}
    (h : placeField s.setup.videoMode (s.sequencer.rephaseDue id b) s.sequencer.phase id = some p) :
    p < s.setup.videoMode.cycleLength ∧ id = (if p % 2 = 0 then .field1 else .field2) ∧
      (s.setup.videoMode.frameStart p = true ∨
        (s.sequencer.rephaseDue id b = false ∧ s.sequencer.firstFieldFrame ≠ none)) := by
  obtain ⟨n, hn, hcycle⟩ := cycleLength_even s.setup.videoMode
  have hfresh {q : Nat} (hq : (if id = .field1 then some 0 else none) = some q) :
      q < s.setup.videoMode.cycleLength ∧ id = (if q % 2 = 0 then .field1 else .field2) ∧
        s.setup.videoMode.frameStart q = true := by
    split at hq
    · next hid =>
      cases hq
      exact ⟨by omega, hid, frameStart_zero _⟩
    · cases hq
  unfold placeField at h
  dsimp only at h
  split at h
  · exact ⟨(hfresh h).1, (hfresh h).2.1, .inl (hfresh h).2.2⟩
  · next hdue =>
    have hdue : s.sequencer.rephaseDue id b = false := by simpa using hdue
    split at h
    · next before hbefore =>
      obtain ⟨-, hfirst, hidentity⟩ := hs.1 before hbefore
      have hne : s.sequencer.lastIdentity ≠ some id := by
        simp [Sequencer.rephaseDue] at hdue
        tauto
      cases h
      refine ⟨Nat.mod_lt _ (by omega), ?_, .inr ⟨hdue, hfirst⟩⟩
      rw [hcycle]
      exact identity_of_ne (hidentity ▸ hne) n
    · exact ⟨(hfresh h).1, (hfresh h).2.1, .inl (hfresh h).2.2⟩

theorem firstAfter_ne_none {mode : VideoMode} {p : Nat} {f : Int} {first : Option Int}
    (h : mode.frameStart p = true ∨ first ≠ none) : firstAfter mode (some p) f first ≠ none := by
  unfold firstAfter
  dsimp only
  split
  · exact Option.some_ne_none _
  · next hstart => exact h.resolve_left hstart

theorem sequencerLaw_takeField {s : State} (hs : s.SequencerLaw) (id : FieldIdentity) (b : Bool) :
    State.SequencerLaw { s with sequencer := s.fieldSequencer id b } := by
  have ⟨_, _, hgood, hlocked, _, _⟩ := hs
  refine ⟨fun p hp => ?_, fun hp => ?_, goodAfter_le hgood _, lockedAfter_iff hlocked _, ?_, nofun⟩
  · obtain ⟨hcycle, hidentity, hfirst⟩ := placeField_spec hs id b hp
    refine ⟨.inl hcycle, ?_, congrArg some hidentity⟩
    unfold State.fieldSequencer at hp ⊢
    dsimp only at hp ⊢
    rw [hp]
    refine firstAfter_ne_none (hfirst.imp_right fun ⟨hdue, hne⟩ => ?_)
    rwa [hdue]
  · unfold State.fieldSequencer at hp ⊢
    dsimp only at hp ⊢
    rw [hp]
    exact ⟨rfl, rfl, rfl⟩
  · exact ⟨nofun, nofun⟩

theorem sequencerLaw_lost {s : State} : State.SequencerLaw { s with sequencer := s.sequencer.lost } :=
  ⟨nofun, fun _ => ⟨rfl, rfl, rfl⟩, Nat.zero_le _, ⟨nofun, nofun⟩, ⟨fun _ => rfl, fun _ => rfl⟩, fun _ => ⟨rfl, rfl, rfl⟩⟩

theorem sequencerLaw_takeFlag {s : State} (hs : s.SequencerLaw) : s.takeActiveFlag.SequencerLaw := by
  obtain ⟨hphase, hnone, hgood, hlocked, htimer, hlost⟩ := hs
  exact ⟨hphase, hnone, hgood, hlocked, htimer, fun h => ⟨(hlost h).1, rfl, (hlost h).2.2⟩⟩

theorem EventStage.sequencerLaw {s t : State} (h : EventStage s t) (hs : s.SequencerLaw) : t.SequencerLaw := by
  cases h with
  | same h => exact sequencerLaw_of_eq hs h.sequencer h.setup
  | takeField id b => exact sequencerLaw_takeField hs id b
  | loseReference => exact sequencerLaw_lost
  | takeFlag => exact sequencerLaw_takeFlag hs
  | _ => exact sequencerLaw_of_eq hs (by simp) (by simp)

/-- A set-up of another video mode makes a re-phase due, so no phase need lie in its cycle. -/
theorem sequencerLaw_of_setup {s t : State} (hs : s.SequencerLaw)
    (h : t.sequencer =
      { s.sequencer with alignPending := s.sequencer.alignPending || t.setup.videoMode != s.setup.videoMode }) :
    t.SequencerLaw := by
  obtain ⟨hphase, hrest⟩ := hs
  unfold State.SequencerLaw
  rw [h]
  refine ⟨fun p hp => ?_, hrest⟩
  obtain ⟨hcycle, hfirst⟩ := hphase p hp
  refine ⟨?_, hfirst⟩
  by_cases hmode : t.setup.videoMode = s.setup.videoMode
  · simpa [hmode] using hcycle
  · exact .inr (by simp [hmode])

theorem RequestStage.sequencerLaw {s t : State} (h : RequestStage s t) (hs : s.SequencerLaw) : t.SequencerLaw := by
  cases h with
  | applySetup => exact sequencerLaw_of_setup hs rfl
  | align =>
    obtain ⟨hphase, hrest⟩ := hs
    exact ⟨fun p hp => ⟨.inr rfl, (hphase p hp).2⟩, hrest⟩
  | _ => exact sequencerLaw_of_eq hs (by simp) (by simp)

theorem sequencerLaw_of_reset {s : State} (h : s.sequencer = State.reset.sequencer) : s.SequencerLaw := by
  unfold State.SequencerLaw
  rw [h]
  exact ⟨nofun, fun _ => ⟨rfl, rfl, rfl⟩, Nat.zero_le _, ⟨nofun, nofun⟩, ⟨nofun, nofun⟩, nofun⟩

theorem Stage.sequencerLaw {s t : State} (h : Stage s t) (hs : s.SequencerLaw) : t.SequencerLaw := by
  cases h with
  | event h => exact h.sequencerLaw hs
  | request _ h => exact h.sequencerLaw hs
  | initialise => exact sequencerLaw_of_setup hs (by rw [initialise_sequencer, initialise_setup])
  | reset => exact sequencerLaw_of_reset rfl
  | _ => exact sequencerLaw_of_eq hs rfl rfl

/-- Settles O26: every stage keeps the law of the sequencer. -/
theorem sequencerStaysLawful : Obligations.SequencerStaysLawful := fun _ _ hs h =>
  step_keeps (I := State.SequencerLaw) (fun _ _ h => h.sequencerLaw) (fun _ _ _ _ _ hs => sequencerLaw_of_eq hs rfl rfl)
    (fun _ _ _ _ _ _ => sequencerLaw_of_reset rfl) h hs

end Sys2Proof.Proofs

/-! The report writer (R164 to R170): what one record handed does, and what a run of records handed leaves in the
ring. -/

namespace Sys2Proof.Proofs
open Sys2Proof.Machine

/-! ### Values in words -/

theorem highWord_append_lowWord (v : DWord) : highWord v ++ lowWord v = v := by
  unfold highWord lowWord
  refine BitVec.eq_of_getLsbD_eq fun i hi => ?_
  rw [BitVec.getLsbD_append]
  split
  · next h => simp [h]
  · next h =>
    have hsum : 16 + (i - 16) = i := by omega
    simp only [BitVec.getLsbD_extractLsb', hsum, show i - 16 < 16 by omega, decide_true, Bool.true_and]

theorem readPair_of_words {m : Memory} {a : Nat} {v : DWord} (hhigh : Memory.read m a = highWord v)
    (hlow : Memory.read m (a + 1) = lowWord v) : Memory.readPair m a = v := by
  unfold Memory.readPair
  rw [hhigh, hlow, highWord_append_lowWord]

theorem natWord_add (m n : Nat) : natWord m + natWord n = natWord (m + n) := (BitVec.ofNat_add m n).symm

@[simp] theorem natWord_zero : natWord 0 = 0 := rfl

theorem add_natWord_zero (w : Word) : w + natWord 0 = w := by simp

/-! ### Places -/

theorem ringPlace_eq_place (w : Writer) : ringPlace w.writeCount.toNat = w.place 0 := rfl

theorem place_bounds (w : Writer) (n : Nat) : 0x9000 ≤ w.place n ∧ w.place n + 16 ≤ 0xB000 := by
  unfold Writer.place; omega

/-- Fewer than 512 records apart, two places do not meet. -/
theorem place_disjoint (w : Writer) {m n : Nat} (hmn : m < n) (hn : n < m + 512) :
    w.place m + 16 ≤ w.place n ∨ w.place n + 16 ≤ w.place m := by
  unfold Writer.place; omega

theorem place_of_writeCount {w w' : Writer} {k : Nat} (h : w'.writeCount = w.writeCount + natWord k) (n : Nat) :
    w'.place n = w.place (k + n) := by
  unfold Writer.place
  rw [h, BitVec.toNat_add, natWord, BitVec.toNat_ofNat]
  omega

/-! ### One record appended -/

theorem getD_padDetail (d : List Word) {k : Nat} (hk : k < 8) : (padDetail d).getD k 0 = d.getD k 0 := by
  unfold padDetail
  rw [List.getD_eq_getElem?_getD, List.getD_eq_getElem?_getD, List.getElem?_take_of_lt hk]
  by_cases hd : k < d.length
  · rw [List.getElem?_append_left hd]
  · rw [List.getElem?_append_right (by omega), List.getElem?_eq_none (l := d) (by omega)]
    have : k - d.length < 8 := by omega
    interval_cases k - d.length <;> rfl

/-- The words of a record after `recordCells` were written. -/
theorem recordStands_writeAll (m : Memory) (place : Nat) (r : Record) (fc : DWord) (sequence : Word) :
    recordStands (Memory.writeAll m (recordCells place r fc sequence)) place sequence fc r := by
  have hword {k : Nat} (hk : k < 15) :
      Memory.read (Memory.writeAll m (recordCells place r fc sequence)) (place + 1 + k) =
        (recordWords r fc).getD k 0 := by
    rw [recordCells, Memory.writeAll_append, Memory.writeAll_cons, Memory.writeAll_nil,
      Memory.read_write_other _ _ _ _ (by dsimp only; omega), Memory.read_writeAll_cellsFrom _ _ _ _
        (by rwa [length_recordWords]), List.getD_eq_getElem _ _ (by rwa [length_recordWords])]
  have hdetail {k : Nat} (hk : k < 8) : (recordWords r fc).getD (7 + k) 0 = (padDetail r.detail).getD k 0 := by
    rw [recordWords, List.getD_append_right _ _ _ _ (by simp [bothWords])]
    simp [bothWords]
  refine ⟨?_, hword (k := 0) (by omega), readPair_of_words (hword (k := 1) (by omega)) (hword (k := 2) (by omega)),
    readPair_of_words (hword (k := 3) (by omega)) (hword (k := 4) (by omega)), hword (k := 5) (by omega),
    hword (k := 6) (by omega), fun k hk => ?_⟩
  · rw [recordCells, Memory.writeAll_append]
    exact Memory.read_write_same _ _ _
  · rw [show place + 8 + k = place + 1 + (7 + k) by omega, hword (by omega), hdetail hk, getD_padDetail _ hk]

@[simp] theorem appendRecord_writer (s : State) (r : Record) (fc : DWord) :
    (s.appendRecord r fc).writer =
      { s.writer with writeCount := s.writer.writeCount + 1, sequence := s.writer.sequence + 1 } := by
  simp [State.appendRecord]

theorem recordStands_appendRecord (s : State) (r : Record) (fc : DWord) :
    recordStands (s.appendRecord r fc).cue (s.writer.place 0) s.writer.sequence fc r := by
  rw [appendRecord_cue, ringPlace_eq_place]
  exact recordStands_writeAll _ _ _ _ _

theorem read_appendRecord_other (s : State) (r : Record) (fc : DWord) {a : Nat}
    (ha : a < s.writer.place 0 ∨ s.writer.place 0 + 16 ≤ a) :
    Memory.read (s.appendRecord r fc).cue a = Memory.read s.cue a := by
  rw [appendRecord_cue, ringPlace_eq_place]
  refine Memory.read_writeAll_other _ _ _ fun c hc => ?_
  have := mem_recordCells hc
  omega

theorem unreleased_succ {w w' : Writer} (h : w.unreleased < 512) (hwrite : w'.writeCount = w.writeCount + 1)
    (hrelease : w'.releaseCount = w.releaseCount) : w'.unreleased = w.unreleased + 1 := by
  have hold := unreleased_eq w
  have hnew := unreleased_eq w'
  have hone : (1 : Word).toNat = 1 := rfl
  rw [hwrite, hrelease, BitVec.toNat_add, hone] at hnew
  omega

theorem causeSet_setCauseIf (s : State) (b : Bool) (c d : Cause) :
    (s.setCauseIf b c).causeSet d = (s.causeSet d || (decide (d = c) && b)) := by
  cases b <;> simp [State.setCauseIf]

theorem causeSet_congr {s t : State} (h : t.port.causes = s.port.causes) (c : Cause) : t.causeSet c = s.causeSet c := by
  unfold State.causeSet; rw [h]

theorem causeSet_appendRecord {s : State} (r : Record) (fc : DWord) (h : s.writer.unreleased < 512) (c : Cause) :
    (s.appendRecord r fc).causeSet c =
      (s.causeSet c || decide (c = .report ∧ s.writer.unreleased + 1 = s.setup.reportThreshold)) := by
  have hcount := unreleased_succ (w := s.writer)
    (w' := { s.writer with writeCount := s.writer.writeCount + 1, sequence := s.writer.sequence + 1 }) h rfl rfl
  unfold State.appendRecord
  dsimp only
  rw [causeSet_setCauseIf, hcount, Bool.decide_and]
  rfl

/-! ### One record handed (R165 to R168) -/

theorem takes_eq_false_iff {s : State} {k : ReportKind} :
    s.takes k = false ↔
      s.port.run ≠ .running ∨ (k = .scene ∧ s.setup.sceneEnable = false) ∨ (k = .hold ∧ s.setup.holdEnable = false) := by
  unfold State.takes
  cases s.setup.sceneEnable <;> cases s.setup.holdEnable <;> simp <;> tauto

theorem hand_of_not_taken {s : State} {r : Record} (h : s.takes r.kind = false) : s.hand r = s := by
  unfold State.hand
  rw [h]; rfl

theorem hand_of_room {s : State} {r : Record} (h : s.takes r.kind = true) (hgap : s.writer.gap = none)
    (hroom : s.writer.unreleased < 512) : s.hand r = s.appendRecord r s.sequencer.fieldCount := by
  unfold State.hand State.writeOrDrop
  rw [if_pos h, hgap]
  exact if_pos hroom

theorem hand_of_full {s : State} {r : Record} (h : s.takes r.kind = true) (hfull : 512 ≤ s.writer.unreleased) :
    s.hand r = s.dropRecord r := by
  have hnot : ¬s.writer.unreleased < ringPlaces := not_lt.mpr hfull
  unfold State.hand State.writeOrDrop
  rw [if_pos h]
  cases s.writer.gap <;> exact if_neg hnot

theorem hand_of_gap {s : State} {r : Record} {g : Gap} (h : s.takes r.kind = true) (hgap : s.writer.gap = some g)
    (hroom : s.writer.unreleased < 512) : s.hand r = (s.closeGap g).writeOrDrop r := by
  unfold State.hand
  rw [if_pos h, hgap]
  exact if_pos hroom

theorem closeGap_writer (s : State) (g : Gap) :
    (s.closeGap g).writer =
      { s.writer with writeCount := s.writer.writeCount + 1, sequence := s.writer.sequence + 1, gap := none } := by
  simp [State.closeGap]

theorem closeGap_cue (s : State) (g : Gap) : (s.closeGap g).cue = (s.appendRecord g.record g.firstFieldCount).cue := rfl

/-! ### The law of the ring -/

theorem ringLaw_of_eq {s t : State} (hs : s.RingLaw) (hwriter : t.writer = s.writer)
    (hcue : ∀ a, inRing a → Memory.read t.cue a = Memory.read s.cue a) : t.RingLaw := by
  obtain ⟨hcount, hsequence, hstand, hgap⟩ := hs
  refine ⟨hwriter ▸ hcount, hwriter ▸ hsequence, fun n hn => ?_, hwriter ▸ hgap⟩
  rw [hwriter] at hn ⊢
  rw [hcue _ (by unfold inRing; omega)]
  exact hstand n hn

theorem ringLaw_appendRecord {s : State} (hs : s.RingLaw) (h : s.writer.unreleased < 512) (r : Record) (fc : DWord) :
    (s.appendRecord r fc).RingLaw := by
  obtain ⟨-, hsequence, hstand, hgap⟩ := hs
  have hcount := unreleased_succ (w' := (s.appendRecord r fc).writer) h (by simp) (by simp)
  refine ⟨by omega, by simp [hsequence], fun n hn => ?_, by simpa using hgap⟩
  have hunreleased := unreleased_eq s.writer
  have hwritten := (recordStands_appendRecord s r fc).1
  have hlt := s.writer.writeCount.isLt
  rw [hcount] at hn
  simp only [appendRecord_writer]
  by_cases hlast : n < s.writer.unreleased
  · rw [read_appendRecord_other, hstand n hlast]
    unfold Writer.place
    omega
  · have hn : n = s.writer.unreleased := by omega
    have hplace : 0x9000 + 16 * ((s.writer.releaseCount.toNat + n) % 512) = s.writer.place 0 := by
      unfold Writer.place; omega
    rw [hplace, hwritten, hsequence]
    refine BitVec.eq_of_toNat_eq ?_
    rw [BitVec.toNat_add, natWord, BitVec.toNat_ofNat]
    omega

theorem kindBit_ne_zero (k : ReportKind) : k.bit ≠ 0 := by cases k <;> decide

theorem ringLaw_dropRecord {s : State} (hs : s.RingLaw) (r : Record) : (s.dropRecord r).RingLaw := by
  obtain ⟨hcount, hsequence, hstand, hgap⟩ := hs
  refine ⟨hcount, hsequence, hstand, fun g hg => ?_⟩
  cases hold : s.writer.gap with
  | none =>
    simp only [State.dropRecord, hold, Option.some.injEq] at hg
    rw [← hg]
    exact ⟨le_refl 1, Nat.le_of_ble_eq_true rfl, kindBit_ne_zero _⟩
  | some old =>
    obtain ⟨hpos, -, hkinds⟩ := hgap old hold
    simp only [State.dropRecord, hold, Option.some.injEq] at hg
    rw [← hg]
    refine ⟨le_min (by decide) (by omega), min_le_left _ _, fun hzero => hkinds ?_⟩
    exact (BitVec.or_eq_zero_iff.mp hzero).1

theorem ringLaw_writeOrDrop {s : State} (hs : s.RingLaw) (r : Record) : (s.writeOrDrop r).RingLaw := by
  unfold State.writeOrDrop
  split
  · next h => exact ringLaw_appendRecord hs h r _
  · exact ringLaw_dropRecord hs r

theorem ringLaw_closeGap {s : State} (hs : s.RingLaw) (h : s.writer.unreleased < 512) (g : Gap) :
    (s.closeGap g).RingLaw := by
  obtain ⟨hcount, hsequence, hstand, -⟩ := ringLaw_appendRecord hs h g.record g.firstFieldCount
  exact ⟨hcount, hsequence, hstand, nofun⟩

theorem ringLaw_hand {s : State} (hs : s.RingLaw) (r : Record) : (s.hand r).RingLaw := by
  unfold State.hand
  split
  · split
    · exact ringLaw_writeOrDrop hs r
    · split
      · next h => exact ringLaw_writeOrDrop (ringLaw_closeGap hs h _) r
      · exact ringLaw_dropRecord hs r
  · exact hs

theorem ringLaw_release {s : State} (hs : s.RingLaw) (v : Word) : (s.release v).RingLaw := by
  obtain ⟨hcount, hsequence, hstand, hgap⟩ := hs
  have hunreleased := unreleased_eq s.writer
  unfold State.release
  dsimp only
  split
  · next hle =>
    have hstep := word_sub_toNat v s.writer.releaseCount
    have hlt := v.isLt
    have hleft : Writer.unreleased { s.writer with releaseCount := v } =
        s.writer.unreleased - (v - s.writer.releaseCount).toNat := by
      rw [unreleased_eq]; dsimp only; omega
    refine ⟨hleft.trans_le (by omega), hsequence, fun n hn => ?_, hgap⟩
    have hn : n < s.writer.unreleased - (v - s.writer.releaseCount).toNat := hleft ▸ hn
    dsimp only
    have hstands := hstand ((v - s.writer.releaseCount).toNat + n) (by omega)
    have hplace : (s.writer.releaseCount.toNat + ((v - s.writer.releaseCount).toNat + n)) % 512 = (v.toNat + n) % 512 := by
      omega
    rw [hplace] at hstands
    rw [hstands]
    refine BitVec.eq_of_toNat_eq ?_
    rw [BitVec.toNat_add, BitVec.toNat_add, natWord, natWord, BitVec.toNat_ofNat, BitVec.toNat_ofNat]
    omega
  · have hnone : Writer.unreleased { s.writer with releaseCount := s.writer.writeCount } = 0 := by
      rw [unreleased_eq]; dsimp only; omega
    refine ringLaw_of_eq (s := { s with writer := { s.writer with releaseCount := s.writer.writeCount } })
      ⟨hnone.trans_le (by omega), hsequence, fun n hn => ?_, hgap⟩ (by simp) (by simp)
    exact absurd (hnone ▸ hn) (Nat.not_lt_zero n)

theorem EventStage.ringLaw {s t : State} (h : EventStage s t) (hs : s.RingLaw) : t.RingLaw := by
  cases h with
  | same h => exact ringLaw_of_eq hs h.writer (h.cue ▸ fun _ _ => rfl)
  | status h =>
    exact ringLaw_of_eq hs rfl fun a ha => h.read (by unfold inRing at ha; unfold inStatus; omega)
  | hand r => exact ringLaw_hand hs r
  | release v => exact ringLaw_release hs v
  | pass h =>
    exact ringLaw_of_eq hs (by simp) fun a ha =>
      (changesWithin_setPass _ _).read (by unfold inRing at ha; unfold inPassBlock; omega)
  | _ => exact ringLaw_of_eq hs (by simp) (by simp)

theorem not_inRequestWords_of_inRing {a : Nat} (h : inRing a) : ¬inRequestWords a := by
  unfold inRing at h
  rintro (⟨i, hi⟩ | hscene)
  · have := inEntryResults_bounds hi
    omega
  · have := inScenes_of_inSceneFields hscene
    unfold inScenes at this
    omega

theorem RequestStage.writer {s t : State} (h : RequestStage s t) : t.writer = s.writer := by
  cases h <;> simp

theorem RequestStage.ringLaw {s t : State} (h : RequestStage s t) (hs : s.RingLaw) : t.RingLaw :=
  ringLaw_of_eq hs h.writer fun _ ha => h.changesWithin.read (not_inRequestWords_of_inRing ha)

theorem ringLaw_of_initial {s : State} (h : s.writer = Writer.initial) : s.RingLaw := by
  unfold State.RingLaw
  rw [h]
  exact ⟨Nat.zero_le _, rfl, fun n hn => absurd hn (Nat.not_lt_zero n), nofun⟩

@[simp] theorem initialise_writer (s : State) (st : Setup) : (s.initialise st).writer = Writer.initial := by
  simp [State.initialise, State.startWriter]

theorem Stage.ringLaw {s t : State} (h : Stage s t) (hs : s.RingLaw) : t.RingLaw := by
  cases h with
  | event h => exact h.ringLaw hs
  | request _ h => exact h.ringLaw hs
  | initialise => exact ringLaw_of_initial (initialise_writer _ _)
  | reset => exact ringLaw_of_initial rfl
  | _ => exact ringLaw_of_eq hs rfl fun _ _ => rfl

theorem read_hostWrite_other {m : Memory} {a b : Nat} {v : Word} (h : hostWriteMade m a v = true)
    (hb : inScenes b ∨ inPassBlock b ∨ inRing b ∨ inStatus b) :
    Memory.read (Memory.write m a v) b = Memory.read m b := by
  refine Memory.read_write_other _ _ _ _ ?_
  rintro rfl
  rw [not_hostWriteMade hb] at h
  cases h

/-- Settles O59: every stage keeps the law of the ring. -/
theorem ringStaysLawful : Obligations.RingStaysLawful := fun _ _ hs h =>
  step_keeps (I := State.RingLaw) (fun _ _ h => h.ringLaw)
    (fun _ _ _ _ hmade hs => ringLaw_of_eq hs rfl fun _ hb => read_hostWrite_other hmade (.inr (.inr (.inl hb))))
    (fun _ _ _ _ _ _ => ringLaw_of_initial rfl) h hs

end Sys2Proof.Proofs

/-! What records handed leave in the ring: one record (R165 to R168), a run of records, and the records of one event,
whose order between blocks is open (R165). -/

namespace Sys2Proof.Proofs
open Sys2Proof.Machine

/-! ### Equal states, field by field -/

theorem state_ext {s t : State} (hposition : s.position = t.position) (hsequencer : s.sequencer = t.sequencer)
    (htracker : s.tracker = t.tracker) (hengine : s.engine = t.engine) (hrequests : s.requests = t.requests)
    (hpass : s.pass = t.pass) (hmatrix : s.matrix = t.matrix) (hwriter : s.writer = t.writer) (hport : s.port = t.port)
    (hsetup : s.setup = t.setup) (hcue : s.cue = t.cue) (hbus : s.busData = t.busData) (hpix : s.pixOut = t.pixOut)
    (hdraws : s.draws = t.draws) (hpending : s.pending = t.pending) : s = t := by
  cases s; cases t; simp_all

theorem port_ext {p q : Port} (hpointer : p.pointer = q.pointer) (hlatch : p.latch = q.latch)
    (hcauses : p.causes = q.causes) (henables : p.enables = q.enables) (hrun : p.run = q.run)
    (hident : p.ident = q.ident) : p = q := by
  cases p; cases q; simp_all

/-- A port whose causes alone may have changed. -/
theorem port_of_causes {s t : State} (hpointer : t.port.pointer = s.port.pointer) (hlatch : t.port.latch = s.port.latch)
    (henables : t.port.enables = s.port.enables) (hrun : t.port.run = s.port.run) (hident : t.port.ident = s.port.ident) :
    t.port = { s.port with causes := t.port.causes } := port_ext hpointer hlatch rfl henables hrun hident

theorem hand_port (s : State) (r : Record) : (s.hand r).port = { s.port with causes := (s.hand r).port.causes } :=
  port_of_causes (by simp) (by simp) (by simp) (by simp) (by simp)

theorem hand_eq (s : State) (r : Record) :
    s.hand r =
      { s with
        writer := (s.hand r).writer, cue := (s.hand r).cue
        port := { s.port with causes := (s.hand r).port.causes } } :=
  state_ext (by simp) (by simp) (by simp) (by simp) (by simp) (by simp) (by simp) rfl (hand_port s r) (by simp) rfl
    (by simp) (by simp) (by simp) (by simp)

/-! ### One record -/

/-- What writing `n` records makes of the write count, the sequence counter, the rest of cue memory and the causes. -/
def RecordsWritten (s t : State) (n : Nat) : Prop :=
  t.writer.writeCount = s.writer.writeCount + natWord n ∧ t.writer.sequence = s.writer.sequence + natWord n ∧
    t.writer.releaseCount = s.writer.releaseCount ∧
    (∀ a, (∀ k, k < n → a < s.writer.place k ∨ s.writer.place k + 16 ≤ a) →
      Memory.read t.cue a = Memory.read s.cue a) ∧
    ∀ c : Cause,
      t.causeSet c =
        (s.causeSet c ||
          decide (c = .report ∧ s.writer.unreleased < s.setup.reportThreshold ∧
            s.setup.reportThreshold ≤ s.writer.unreleased + n))

theorem recordsWritten_appendRecord {s : State} (h : s.writer.unreleased < 512) (r : Record) (fc : DWord) :
    RecordsWritten s (s.appendRecord r fc) 1 := by
  refine ⟨by simp [natWord], by simp [natWord], by simp, fun a ha => read_appendRecord_other s r fc (ha 0 (by omega)),
    fun c => ?_⟩
  rw [causeSet_appendRecord r fc h]
  congr 1
  refine decide_eq_decide.mpr ⟨?_, ?_⟩ <;> rintro ⟨hc, ht⟩ <;> exact ⟨hc, by omega⟩

/-- The causes do not tell a gap that is closed from one that is not. -/
theorem recordsWritten_closeGap {s : State} (h : s.writer.unreleased < 512) (g : Gap) :
    RecordsWritten s (s.closeGap g) 1 := by
  obtain ⟨hwrite, hsequence, hrelease, hread, hcause⟩ := recordsWritten_appendRecord h g.record g.firstFieldCount
  exact ⟨hwrite, hsequence, hrelease, hread, hcause⟩

theorem recordsWritten_trans {s t u : State} {m n : Nat} (h : RecordsWritten s t m) (h' : RecordsWritten t u n)
    (hcount : t.writer.unreleased = s.writer.unreleased + m) (hsetup : t.setup = s.setup) :
    RecordsWritten s u (m + n) := by
  obtain ⟨hwrite, hsequence, hrelease, hread, hcause⟩ := h
  obtain ⟨hwrite', hsequence', hrelease', hread', hcause'⟩ := h'
  refine ⟨?_, ?_, hrelease'.trans hrelease, fun a ha => ?_, fun c => ?_⟩
  · rw [hwrite', hwrite, BitVec.add_assoc, natWord_add]
  · rw [hsequence', hsequence, BitVec.add_assoc, natWord_add]
  · rw [hread' a fun k hk => place_of_writeCount hwrite k ▸ ha (m + k) (by omega), hread a fun k hk => ha k (by omega)]
  · rw [hcause', hcause, hcount, hsetup, Bool.or_assoc, ← Bool.decide_or]
    congr 1
    refine decide_eq_decide.mpr ⟨?_, ?_⟩
    · rintro (⟨hc, ht⟩ | ⟨hc, ht⟩) <;> exact ⟨hc, by omega⟩
    · rintro ⟨hc, ht⟩
      by_cases hm : s.setup.reportThreshold ≤ s.writer.unreleased + m
      · exact .inl ⟨hc, by omega⟩
      · exact .inr ⟨hc, by omega⟩

theorem recordStands_congr {m m' : Memory} {place : Nat} {sequence : Word} {fc : DWord} {r : Record}
    (h : recordStands m place sequence fc r)
    (hread : ∀ a, place ≤ a → a < place + 16 → Memory.read m' a = Memory.read m a) :
    recordStands m' place sequence fc r := by
  have hreads {k : Nat} (hk : k < 16) : Memory.read m' (place + k) = Memory.read m (place + k) :=
    hread _ (by omega) (by omega)
  obtain ⟨hsequence, hkind, hcount, hframe, hslot, hserial, hdetail⟩ := h
  unfold recordStands Memory.readPair at *
  refine ⟨?_, ?_, ?_, ?_, ?_, ?_, fun k hk => ?_⟩
  · rw [hread place (by omega) (by omega), hsequence]
  · rw [hreads (by omega), hkind]
  · rw [hreads (by omega), show place + 2 + 1 = place + 3 from rfl, hreads (by omega), ← hcount]
  · rw [hreads (by omega), show place + 4 + 1 = place + 5 from rfl, hreads (by omega), ← hframe]
  · rw [hreads (by omega), hslot]
  · rw [hreads (by omega), hserial]
  · rw [show place + 8 + k = place + (8 + k) by omega, hreads (by omega), ← hdetail k hk, Nat.add_assoc]

/-- A record handed with a gap outstanding and room for two: the GAP record, then the record. -/
theorem hand_gap_two {s : State} {r : Record} {g : Gap} (htakes : s.takes r.kind = true)
    (hgap : s.writer.gap = some g) (h : s.writer.unreleased < 511) :
    RecordsWritten s (s.hand r) 2 ∧
      recordStands (s.hand r).cue (s.writer.place 0) (s.writer.sequence + natWord 0) g.firstFieldCount g.record ∧
      recordStands (s.hand r).cue (s.writer.place 1) (s.writer.sequence + 1) s.sequencer.fieldCount r ∧
      (s.hand r).writer.gap = none := by
  have hclosed := closeGap_writer s g
  have hcount := unreleased_succ (w := s.writer) (w' := (s.closeGap g).writer) (by omega) (by rw [hclosed])
    (by rw [hclosed])
  have hplace : (s.closeGap g).writer.place 0 = s.writer.place 1 :=
    place_of_writeCount (k := 1) (by rw [hclosed]; rfl) 0
  have hhand : s.hand r = (s.closeGap g).appendRecord r s.sequencer.fieldCount := by
    rw [hand_of_gap htakes hgap (by omega), State.writeOrDrop, if_pos (by unfold ringPlaces; omega)]
    simp
  have hfirst : recordStands (s.closeGap g).cue (s.writer.place 0) (s.writer.sequence + natWord 0)
      g.firstFieldCount g.record := by
    rw [add_natWord_zero]
    exact recordStands_appendRecord s g.record g.firstFieldCount
  have hlast := recordStands_appendRecord (s.closeGap g) r s.sequencer.fieldCount
  rw [hplace, hclosed] at hlast
  rw [hhand]
  refine ⟨recordsWritten_trans (recordsWritten_closeGap (by omega) g)
    (recordsWritten_appendRecord (by omega) r _) hcount (by simp), ?_, hlast, by simp [hclosed]⟩
  refine recordStands_congr hfirst fun a ha ha' => read_appendRecord_other _ _ _ ?_
  have := place_disjoint s.writer (m := 0) (n := 1) (by omega) (by omega)
  omega

/-- A record handed with a gap outstanding and room for one: the GAP record, and the record into a new gap. -/
theorem hand_gap_one {s : State} {r : Record} {g : Gap} (htakes : s.takes r.kind = true)
    (hgap : s.writer.gap = some g) (h : s.writer.unreleased = 511) :
    RecordsWritten s (s.hand r) 1 ∧
      recordStands (s.hand r).cue (s.writer.place 0) (s.writer.sequence + natWord 0) g.firstFieldCount g.record ∧
      (s.hand r).writer.gap =
        some
          { dropped := 1, firstFieldCount := s.sequencer.fieldCount, firstFrame := r.frame
            lastFieldCount := s.sequencer.fieldCount, lastFrame := r.frame, kinds := r.kind.bit } := by
  have hclosed := closeGap_writer s g
  have hcount := unreleased_succ (w := s.writer) (w' := (s.closeGap g).writer) (by omega) (by rw [hclosed])
    (by rw [hclosed])
  have hhand : s.hand r = (s.closeGap g).dropRecord r := by
    rw [hand_of_gap htakes hgap (by omega), State.writeOrDrop, if_neg (by unfold ringPlaces; omega)]
  rw [hhand, add_natWord_zero]
  refine ⟨recordsWritten_closeGap (by omega) g, recordStands_appendRecord s g.record g.firstFieldCount, ?_⟩
  simp [State.dropRecord, hclosed]

theorem dropRecord_of_none {s : State} {r : Record} (h : s.writer.gap = none) :
    (s.dropRecord r).writer =
      { s.writer with
        gap :=
          some
            { dropped := 1, firstFieldCount := s.sequencer.fieldCount, firstFrame := r.frame
              lastFieldCount := s.sequencer.fieldCount, lastFrame := r.frame, kinds := r.kind.bit } } := by
  simp [State.dropRecord, h]

theorem dropRecord_of_some {s : State} {r : Record} {g : Gap} (h : s.writer.gap = some g) :
    (s.dropRecord r).writer =
      { s.writer with
        gap :=
          some
            { g with
              dropped := min droppedMax (g.dropped + 1), lastFieldCount := s.sequencer.fieldCount, lastFrame := r.frame
              kinds := g.kinds ||| r.kind.bit } } := by
  simp [State.dropRecord, h]

/-- Settles O57: by whether the record is taken, the ring has room and a gap is outstanding. -/
theorem handedRecordIsWrittenOrDropped : Obligations.HandedRecordIsWrittenOrDropped := by
  unfold Obligations.HandedRecordIsWrittenOrDropped
  refine ⟨rfl, fun s r => ⟨fun hdiscarded => hand_of_not_taken (takes_eq_false_iff.mpr hdiscarded),
    fun hdiscarded => ?_⟩⟩
  have htakes : s.takes r.kind = true := by
    rw [← takes_eq_false_iff] at hdiscarded
    simpa using hdiscarded
  refine ⟨hand_eq s r, fun hroom hgap => ?_, fun hfull => ?_, fun g hgap hroom => ?_⟩
  · rw [hand_of_room htakes hgap hroom]
    refine ⟨recordsWritten_appendRecord hroom r _, ?_, by simp [hgap]⟩
    simpa using recordStands_appendRecord s r s.sequencer.fieldCount
  · rw [hand_of_full htakes hfull]
    exact ⟨by simp, by simp, dropRecord_of_none, fun g => dropRecord_of_some⟩
  · by_cases hlast : s.writer.unreleased = 511
    · obtain ⟨hwritten, hstands, hgap'⟩ := hand_gap_one htakes hgap hlast
      exact ⟨hstands, fun h => absurd hlast (by omega), fun _ => ⟨hwritten, hgap'⟩⟩
    · obtain ⟨hwritten, hstands, hlast', hnone⟩ := hand_gap_two htakes hgap (by omega)
      exact ⟨hstands, fun _ => ⟨hwritten, hlast', hnone⟩, fun h => absurd h hlast⟩

/-! ### A run of records -/

theorem wrote_nil {s t : State} (hwriter : t.writer = s.writer)
    (hcue : ∀ a, inRing a → Memory.read t.cue a = Memory.read s.cue a) : s.wrote t [] := by
  refine ⟨by simp [hwriter], fun n r h => by simp at h, fun a ha _ => hcue a ha⟩

theorem wrote_trans {s t u : State} {rs rs' : List Record} (h : s.wrote t rs) (h' : t.wrote u rs')
    (hcount : u.sequencer.fieldCount = t.sequencer.fieldCount) (hlength : rs.length + rs'.length ≤ 512) :
    s.wrote u (rs ++ rs') := by
  obtain ⟨hwriter, hstand, hread⟩ := h
  obtain ⟨hwriter', hstand', hread'⟩ := h'
  have hplace (n : Nat) : t.writer.place n = s.writer.place (rs.length + n) :=
    place_of_writeCount (k := rs.length) (by rw [hwriter]) n
  refine ⟨?_, fun n r hr => ?_, fun a ha hout => ?_⟩
  · rw [hwriter', hwriter, List.length_append, ← natWord_add, ← BitVec.add_assoc, ← BitVec.add_assoc]
  · rw [hcount]
    by_cases hn : n < rs.length
    · rw [List.getElem?_append_left hn] at hr
      refine recordStands_congr (hstand n r hr) fun a ha ha' => hread' a ?_ fun k hk => ?_
      · have := place_bounds s.writer n
        unfold inRing; omega
      · have := place_disjoint s.writer (m := n) (n := rs.length + k) (by omega) (by omega)
        rw [hplace]; omega
    · rw [List.getElem?_append_right (by omega)] at hr
      have hstands := hstand' _ r hr
      rw [hplace, hwriter, hcount, show rs.length + (n - rs.length) = n by omega] at hstands
      rwa [BitVec.add_assoc, natWord_add, show rs.length + (n - rs.length) = n by omega] at hstands
  · rw [List.length_append] at hout
    rw [hread' a ha fun n hn => hplace n ▸ hout _ (by omega), hread a ha fun n hn => hout n (by omega)]

/-- What comes before or after the writing does not matter where it leaves the writer and the ring. -/
theorem wrote_after {s t u : State} {rs : List Record} (h : s.wrote t rs) (hwriter : u.writer = t.writer)
    (hcue : ∀ a, inRing a → Memory.read u.cue a = Memory.read t.cue a)
    (hcount : u.sequencer.fieldCount = t.sequencer.fieldCount) : s.wrote u rs := by
  obtain ⟨hw, hstand, hread⟩ := h
  refine ⟨hwriter.trans hw, fun n r hr => ?_, fun a ha hout => (hcue a ha).trans (hread a ha hout)⟩
  rw [hcount]
  refine recordStands_congr (hstand n r hr) fun a ha ha' => hcue a ?_
  have := place_bounds s.writer n
  unfold inRing; omega

theorem wrote_before {s t u : State} {rs : List Record} (h : t.wrote u rs) (hwriter : t.writer = s.writer)
    (hcue : ∀ a, inRing a → Memory.read t.cue a = Memory.read s.cue a) : s.wrote u rs := by
  obtain ⟨hw, hstand, hread⟩ := h
  rw [hwriter] at hw hstand hread
  exact ⟨hw, hstand, fun a ha hout => (hread a ha hout).trans (hcue a ha)⟩

theorem wrote_hand {s : State} {r : Record} (hroom : s.hasRoom 1) (htakes : s.takes r.kind = true) :
    s.wrote (s.hand r) [r] := by
  obtain ⟨-, hgap, hcount⟩ := hroom
  rw [hand_of_room htakes hgap (by omega)]
  refine ⟨by simp [natWord], fun n q hq => ?_, fun a _ hout => read_appendRecord_other s r _ (hout 0 (by simp))⟩
  cases n with
  | zero =>
    cases hq
    simpa using recordStands_appendRecord s r s.sequencer.fieldCount
  | succ n => simp at hq

theorem hasRoom_mono {s : State} {m n : Nat} (h : s.hasRoom n) (hmn : m ≤ n) : s.hasRoom m :=
  ⟨h.1, h.2.1, by have := h.2.2; omega⟩

theorem hasRoom_congr {s t : State} {n : Nat} (h : s.hasRoom n) (hrun : t.port.run = s.port.run)
    (hwriter : t.writer = s.writer) : t.hasRoom n := by
  unfold State.hasRoom
  rw [hrun, hwriter]
  exact h

theorem hasRoom_of_wrote {s t : State} {rs : List Record} {n : Nat} (h : s.wrote t rs) (hrun : t.port.run = s.port.run)
    (hroom : s.hasRoom (rs.length + n)) : t.hasRoom n := by
  obtain ⟨hrunning, hgap, hcount⟩ := hroom
  have hold := unreleased_eq s.writer
  have hnew := unreleased_eq t.writer
  have hwrite : t.writer.writeCount.toNat = (s.writer.writeCount.toNat + rs.length) % 65536 := by
    rw [h.1]
    simp [natWord, BitVec.toNat_add]
  have hrelease : t.writer.releaseCount = s.writer.releaseCount := by rw [h.1]
  rw [hwrite, hrelease] at hnew
  exact ⟨hrun.trans hrunning, by rw [h.1]; exact hgap, by omega⟩

@[simp] theorem hand_takes (s : State) (r : Record) (k : ReportKind) : (s.hand r).takes k = s.takes k := by
  simp [State.takes]

@[simp] theorem drawWord_takes (s : State) (k : ReportKind) : s.drawWord.2.takes k = s.takes k := rfl

theorem wrote_handEach {rs : List Record} {s : State} (hroom : s.hasRoom rs.length)
    (htakes : ∀ r ∈ rs, s.takes r.kind = true) : s.wrote (s.handEach rs) rs := by
  induction rs generalizing s with
  | nil => exact wrote_nil rfl fun _ _ => rfl
  | cons r rs ih =>
    have hfirst : s.wrote (s.hand r) [r] := wrote_hand (hasRoom_mono hroom (by simp)) (htakes r (by simp))
    have hrest : (s.hand r).wrote ((s.hand r).handEach rs) rs := by
      refine ih (hasRoom_of_wrote hfirst (by simp) ?_) fun q hq => ?_
      · exact hasRoom_mono hroom (by simp [Nat.add_comm])
      · rw [hand_takes]
        exact htakes q (by simp [hq])
    have := hroom.2.2
    exact wrote_trans hfirst hrest (by simp) (by simp at this ⊢; omega)

/-! ### The records of one event -/

theorem takeHead_of_waiting {qs : List (List Record)} (hne : ∀ q ∈ qs, q ≠ []) {i : Nat} (hi : i < qs.length) :
    ∃ r rest, takeHead qs i = some (r, rest) ∧ (r :: rest.flatten).Perm qs.flatten ∧
      ∀ q ∈ qs, ∃ q' ∈ rest, q = q' ∨ q = r :: q' := by
  induction qs generalizing i with
  | nil => simp at hi
  | cons q qs ih =>
    obtain ⟨x, xs, rfl⟩ := List.exists_cons_of_ne_nil (hne q (by simp))
    cases i with
    | zero =>
      refine ⟨x, xs :: qs, rfl, by simp, fun q hq => ?_⟩
      rcases List.mem_cons.mp hq with rfl | hq
      · exact ⟨xs, by simp, .inr rfl⟩
      · exact ⟨q, by simp [hq], .inl rfl⟩
    | succ i =>
      obtain ⟨r, rest, hhead, hperm, hsub⟩ := ih (fun q hq => hne q (by simp [hq])) (by simpa using hi)
      refine ⟨r, (x :: xs) :: rest, ?_, ?_, fun q hq => ?_⟩
      · simp [takeHead, hhead]
      · simp only [List.flatten_cons]
        exact (List.perm_middle (l₁ := x :: xs)).symm.trans (hperm.append_left (x :: xs))
      · rcases List.mem_cons.mp hq with rfl | hq
        · exact ⟨x :: xs, by simp, .inl rfl⟩
        · obtain ⟨q', hq', h⟩ := hsub q hq
          exact ⟨q', by simp [hq'], h⟩

theorem flatten_waiting (qs : List (List Record)) : (waiting qs).flatten = qs.flatten := by
  induction qs with
  | nil => rfl
  | cons q qs ih => cases q <;> simp_all [waiting]

theorem mem_waiting {qs : List (List Record)} {q : List Record} : q ∈ waiting qs ↔ q ∈ qs ∧ q ≠ [] := by
  simp [waiting]

/-- The records of one event are written in some order, those of one block in theirs. -/
theorem exists_wrote_handMixed (fuel : Nat) {s : State} {qs : List (List Record)} (hfuel : qs.flatten.length < fuel)
    (hroom : s.hasRoom qs.flatten.length) (htakes : ∀ r ∈ qs.flatten, s.takes r.kind = true) :
    ∃ rs, s.wrote (State.handMixed fuel s qs) rs ∧ rs.Perm qs.flatten ∧ ∀ q ∈ qs, q.Sublist rs := by
  induction fuel generalizing s qs with
  | zero => omega
  | succ fuel ih =>
    have hflat := flatten_waiting qs
    have hsub {rs : List Record} (h : ∀ q ∈ waiting qs, q.Sublist rs) : ∀ q ∈ qs, q.Sublist rs := fun q hq => by
      by_cases hnil : q = []
      · rw [hnil]; exact List.nil_sublist rs
      · exact h q (mem_waiting.mpr ⟨hq, hnil⟩)
    unfold State.handMixed
    split
    · next hnone =>
      rw [hnone] at hflat hsub
      exact ⟨[], wrote_nil rfl fun _ _ => rfl, by rw [← hflat]; exact .refl _, hsub (by simp)⟩
    · next q hone =>
      rw [hone] at hflat hsub
      rw [← hflat, List.flatten_singleton] at hroom htakes ⊢
      exact ⟨q, wrote_handEach hroom htakes, .refl q, hsub (by simp)⟩
    · next many hmany0 hmany1 =>
      dsimp only
      have hne : waiting qs ≠ [] := fun h => hmany0 h
      obtain ⟨r, rest, hhead, hperm, hrest⟩ := takeHead_of_waiting (fun q hq => (mem_waiting.mp hq).2)
        (Nat.mod_lt s.drawWord.1.toNat (List.length_pos_of_ne_nil hne))
      rw [hhead, hflat] at *
      have hlength := hperm.length_eq
      have hmem {q : Record} (hq : q ∈ r :: rest.flatten) : s.takes q.kind = true :=
        htakes q (hperm.mem_iff.mp hq)
      simp only [List.length_cons] at hlength
      have hfirst : s.wrote (s.drawWord.2.hand r) [r] :=
        wrote_before (wrote_hand (hasRoom_congr (hasRoom_mono hroom (by omega)) rfl rfl) (hmem (by simp))) rfl
          fun _ _ => rfl
      obtain ⟨rs, hwrote, hrs, hsubs⟩ := ih (s := s.drawWord.2.hand r) (qs := rest) (by omega)
        (hasRoom_of_wrote hfirst (by simp) (hasRoom_mono hroom (by rw [List.length_singleton]; omega)))
        fun q hq => by rw [hand_takes]; exact hmem (by simp [hq])
      have hsum := hroom.2.2
      refine ⟨r :: rs, wrote_trans hfirst hwrote (by simp) ?_, (hrs.cons r).trans hperm, hsub fun q hq => ?_⟩
      · have := hrs.length_eq
        simp only [List.length_singleton]; omega
      · obtain ⟨q', hq', rfl | rfl⟩ := hrest q hq
        · exact (hsubs q hq').cons r
        · exact (hsubs q' hq').cons_cons r

theorem exists_wrote_handTogether {s : State} {qs : List (List Record)}
    (hroom : s.hasRoom (qs.flatten.filter fun r => s.takes r.kind).length) :
    ∃ rs, s.wrote (s.handTogether qs) rs ∧ rs.Perm (qs.flatten.filter fun r => s.takes r.kind) ∧
      ∀ q ∈ qs, (q.filter fun r => s.takes r.kind).Sublist rs := by
  have hflat : (qs.map fun q => q.filter fun r => s.takes r.kind).flatten =
      qs.flatten.filter fun r => s.takes r.kind := by
    rw [List.filter_flatten]
  obtain ⟨rs, hwrote, hperm, hsub⟩ :=
    exists_wrote_handMixed ((qs.map fun q => q.filter fun r => s.takes r.kind).flatten.length + 1) (s := s)
      (qs := qs.map fun q => q.filter fun r => s.takes r.kind) (Nat.lt_succ_self _) (hflat ▸ hroom)
      fun r hr => by
        rw [hflat] at hr
        exact (List.mem_filter.mp hr).2
  exact ⟨rs, hwrote, hflat ▸ hperm, fun q hq => hsub _ (List.mem_map_of_mem hq)⟩

theorem waiting_eq_nil {qs : List (List Record)} (h : qs.flatten = []) : waiting qs = [] := by
  rw [List.eq_nil_iff_forall_not_mem]
  intro q hq
  obtain ⟨hmem, hne⟩ := mem_waiting.mp hq
  exact hne (List.flatten_eq_nil_iff.mp h q hmem)

theorem waiting_eq_singleton {qs : List (List Record)} {r : Record} (h : qs.flatten = [r]) : waiting qs = [[r]] := by
  induction qs with
  | nil => cases h
  | cons q qs ih =>
    cases q with
    | nil => simpa [waiting] using ih h
    | cons x xs =>
      obtain ⟨rfl, hrest⟩ := List.cons.inj (show x :: (xs ++ qs.flatten) = [r] from h)
      obtain ⟨rfl, hqs⟩ := List.append_eq_nil_iff.mp hrest
      have := waiting_eq_nil hqs
      simpa [waiting] using this

theorem handTogether_eq_handMixed (s : State) (qs : List (List Record)) :
    s.handTogether qs =
      s.handMixed ((qs.map fun q => q.filter fun r => s.takes r.kind).flatten.length + 1)
        (qs.map fun q => q.filter fun r => s.takes r.kind) := rfl

/-- An event that hands no record leaves the part as it is. -/
theorem handTogether_of_nil {s : State} {qs : List (List Record)} (h : qs.flatten = []) : s.handTogether qs = s := by
  rw [handTogether_eq_handMixed, State.handMixed, waiting_eq_nil]
  rw [← List.filter_flatten, h]; rfl

/-- An event that hands one record hands it. -/
theorem handTogether_of_singleton {s : State} {qs : List (List Record)} {r : Record} (h : qs.flatten = [r]) :
    s.handTogether qs = s.hand r := by
  have hflat : (qs.map fun q => q.filter fun r => s.takes r.kind).flatten = [r].filter fun r => s.takes r.kind := by
    rw [← List.filter_flatten, h]
  rw [handTogether_eq_handMixed, State.handMixed]
  cases htakes : s.takes r.kind with
  | true =>
    rw [waiting_eq_singleton (r := r) (hflat.trans (by simp [htakes]))]
    rfl
  | false =>
    rw [waiting_eq_nil (hflat.trans (by simp [htakes])), hand_of_not_taken htakes]

end Sys2Proof.Proofs

/-! The law of the request table (R97) and the law of the pass (R136 to R145), stage by stage. -/

namespace Sys2Proof.Proofs
open Sys2Proof.Machine

/-! ### The entries -/

theorem entryWord_write_same (m : Memory) (i : Fin 32) (w : Word) : entryWord (Memory.write m (entryBase i) w) i 0 = w :=
  Memory.read_write_same _ _ _

theorem entryWord_write_other (m : Memory) {i j : Fin 32} (hij : i ≠ j) (w : Word) :
    entryWord (Memory.write m (entryBase i) w) j 0 = entryWord m j 0 := by
  refine Memory.read_write_other _ _ _ _ fun h => hij ?_
  exact ((entryBase_inj (k := 0) (l := 0) (by omega) (by omega)).mp h).1.symm

theorem not_inEventWords_entryBase {i : Fin 32} {k : Nat} (hk : k < 64) : ¬inEventWords (entryBase i + k) := by
  have := entryBase_bounds i
  unfold inEventWords inStatus inPassBlock inRing
  omega

theorem entryWord_of_reads {m m' : Memory} {P : Nat → Prop} (h : Memory.ChangesWithin P m m')
    (hP : ∀ (i : Fin 32) (k : Nat), k < 64 → ¬P (entryBase i + k)) (i : Fin 32) {k : Nat} (hk : k < 64) :
    entryWord m' i k = entryWord m i k := entryWord_of_changesWithin h (hP i k hk)

/-! ### The law of the request table -/

/-- The law of the requests but for the notification due, which the handling of an ACTIVE START raises on the way
(R103). -/
def EntryLaw (s : State) : Prop :=
  (s.port.run ≠ .uninitialised →
    ∀ i : Fin 32, entryWord s.cue i 0 = 2 ↔ ∃ r, s.requests.ripple = some r ∧ r.entry = i) ∧
  (s.port.run = .uninitialised → s.requests.ripple = none) ∧
  ∀ o, s.requests.setupFault = some o → o < 42

theorem entryLaw_of_eq {s t : State} (hs : EntryLaw s) (hrun : t.port.run = s.port.run)
    (hripple : t.requests.ripple = s.requests.ripple) (hfault : t.requests.setupFault = s.requests.setupFault)
    (hcue : ∀ i, entryWord t.cue i 0 = entryWord s.cue i 0) : EntryLaw t := by
  unfold EntryLaw at *
  rw [hrun, hripple, hfault]
  simpa only [hcue] using hs

theorem EventStage.entryLaw {s t : State} (h : EventStage s t) (hs : EntryLaw s) : EntryLaw t := by
  have hcue (i : Fin 32) : entryWord t.cue i 0 = entryWord s.cue i 0 :=
    entryWord_of_reads h.changesWithin (fun _ _ => not_inEventWords_entryBase) i (by omega)
  cases h with
  | same h => exact entryLaw_of_eq hs h.run (h.requests ▸ rfl) (h.requests ▸ rfl) hcue
  | _ => exact entryLaw_of_eq hs (by simp) (by simp) (by simp) hcue

theorem entryLaw_of_scenes {s t : State} (hs : EntryLaw s) (hrun : t.port.run = s.port.run)
    (hripple : t.requests.ripple = s.requests.ripple) (hfault : t.requests.setupFault = s.requests.setupFault)
    (hcue : Memory.ChangesWithin inSceneFields s.cue t.cue) : EntryLaw t :=
  entryLaw_of_eq hs hrun hripple hfault fun i =>
    entryWord_of_reads hcue (fun _ _ => not_inSceneFields_entryBase) i (by omega)

theorem entryLaw_finishEntry {s : State} (hs : EntryLaw s) {i : Fin 32} (h : entryWord s.cue i 0 ≠ stateTaken)
    (r : Result) : EntryLaw (s.finishEntry i r) := by
  obtain ⟨htaken, hnone, hfault⟩ := hs
  refine ⟨fun hrun j => ?_, fun hrun => ?_, by simpa using hfault⟩
  · have hold := htaken (by simpa using hrun) j
    rw [finishEntry_requests]
    by_cases hij : i = j
    · subst hij
      rw [entryWord_finishEntry_zero]
      exact ⟨fun hstate => absurd hstate (state_ne_taken _), fun hripple => absurd (hold.mpr hripple) h⟩
    · rw [entryWord_finishEntry_other s hij r (by omega)]
      exact hold
  · simpa using hnone (by simpa using hrun)

theorem entryLaw_endRipple {s : State} (hs : EntryLaw s) {r r' : Ripple} (c : ResultCode)
    (h : s.requests.ripple = some r') (he : r.entry = r'.entry) : EntryLaw (s.endRipple r c) := by
  obtain ⟨htaken, -, hfault⟩ := hs
  refine ⟨fun hrun j => ?_, fun _ => by simp [State.endRipple], by simpa [State.endRipple] using hfault⟩
  have hold := htaken (by simpa using hrun) j
  have hcue : (s.endRipple r c).cue =
      (s.finishEntry r.entry { code := c, a := natDWord r.done, b := natDWord r.clamped }).cue := by
    simp [State.endRipple]
  have hnone : (s.endRipple r c).requests.ripple = none := by simp [State.endRipple]
  rw [hcue, hnone]
  refine ⟨fun hstate => ?_, nofun⟩
  by_cases hij : r.entry = j
  · subst hij
    rw [entryWord_finishEntry_zero] at hstate
    exact absurd hstate (state_ne_taken _)
  · rw [entryWord_finishEntry_other s hij _ (by omega)] at hstate
    obtain ⟨q, hq, hentry⟩ := hold.mp hstate
    rw [h] at hq
    cases hq
    exact absurd (he.trans hentry) hij

theorem RequestStage.entryLaw {s t : State} (h : RequestStage s t) (hrun : s.port.run = .running) (hs : EntryLaw s) :
    EntryLaw t := by
  have hinit : s.port.run ≠ .uninitialised := by rw [hrun]; decide
  cases h with
  | finish r h => exact entryLaw_finishEntry hs h r
  | endRipple c h he => exact entryLaw_endRipple hs c h he
  | takeRipple r n h =>
    obtain ⟨htaken, -, hfault⟩ := hs
    refine ⟨fun _ j => ?_, fun hrun' => absurd hrun' hinit, hfault⟩
    by_cases hij : r.entry = j
    · subst hij
      exact ⟨fun _ => ⟨r, rfl, rfl⟩, fun _ => entryWord_write_same s.cue r.entry stateTaken⟩
    · dsimp only
      rw [entryWord_write_other _ hij, htaken hinit j, h]
      exact ⟨nofun, fun ⟨q, hq, hentry⟩ => absurd (by cases hq; exact hentry) hij⟩
  | @moveRipple r r' h he =>
    obtain ⟨htaken, -, hfault⟩ := hs
    refine ⟨fun _ j => ?_, fun hrun' => absurd (by simpa using hrun') hinit, by simpa using hfault⟩
    have hold := htaken hinit j
    rw [h] at hold
    simpa [he] using hold
  | setupFault h => exact ⟨by simpa using hs.1, by simpa using hs.2.1, h⟩
  | probe i h =>
    refine entryLaw_of_eq hs rfl rfl rfl fun j => Memory.read_writeAll_other _ _ _ fun c hc hstate => ?_
    have hbounds := mem_cellsFrom _ _ c hc
    unfold entryBase at hstate hbounds
    omega
  | insert => exact entryLaw_of_scenes hs (by simp) (by simp) (by simp) (changesWithin_makeScene _ _ _ _ _ _ _ _ _)
  | delete =>
    exact entryLaw_of_scenes hs (by simp) rfl rfl
      ((changesWithin_unlinkScene_fields _ _).trans (changesWithin_freeSlot _ _))
  | move => exact entryLaw_of_scenes hs (by simp) (by simp) (by simp) (changesWithin_moveSceneTo _ _ _)
  | @writeField x k w h =>
    have hk : k < 22 := by rcases h with ⟨rfl, -⟩ | rfl | rfl | ⟨j, -, rfl, -⟩ <;> omega
    exact entryLaw_of_scenes hs rfl rfl rfl (changesWithin_write _ _ (inSceneFields_add hk) (slotBase_add_lt (by omega)))
  | clear => exact entryLaw_of_scenes hs rfl rfl rfl (changesWithin_clearScenes _ _ _ _)
  | _ => exact entryLaw_of_eq hs (by simp) (by simp) (by simp) (by simp)

/-! ### The abort of the TAKEN entries at a run start (R122) -/

theorem entryWord_abortTaken (s : State) (i j : Fin 32) :
    entryWord (s.abortTaken j).cue i 0 =
      if i = j ∧ entryWord s.cue i 0 = stateTaken then stateRefused else entryWord s.cue i 0 := by
  unfold State.abortTaken
  by_cases hstate : entryWord s.cue j 0 = stateTaken
  · rw [if_pos hstate]
    by_cases hij : i = j
    · subst hij
      rw [if_pos ⟨rfl, hstate⟩, entryWord_finishEntry_zero]
      rfl
    · rw [if_neg fun h => hij h.1, entryWord_finishEntry_other s (Ne.symm hij) _ (by omega)]
  · rw [if_neg hstate, if_neg]
    rintro ⟨rfl, h⟩
    exact hstate h

/-- An entry after the abort of the entries of a list that are TAKEN. -/
theorem entryWord_foldl_abortTaken (is : List (Fin 32)) (s : State) (i : Fin 32) :
    entryWord (is.foldl State.abortTaken s).cue i 0 =
      if i ∈ is ∧ entryWord s.cue i 0 = stateTaken then stateRefused else entryWord s.cue i 0 := by
  induction is generalizing s with
  | nil => simp
  | cons j is ih =>
    rw [List.foldl_cons, ih, entryWord_abortTaken]
    by_cases hstate : entryWord s.cue i 0 = stateTaken
    · by_cases hij : i = j
      · simp [hij, hij ▸ hstate]
      · simp [hij, hstate]
    · simp [hstate]

theorem entryWord_abortAllTaken_ne (s : State) (i : Fin 32) : entryWord s.abortAllTaken.cue i 0 ≠ stateTaken := by
  have hall (is : List (Fin 32)) (hi : i ∈ is) : entryWord (is.foldl State.abortTaken s).cue i 0 ≠ stateTaken := by
    rw [entryWord_foldl_abortTaken]
    split
    · decide
    · next h => exact fun hstate => h ⟨hi, hstate⟩
  exact hall _ (List.mem_finRange i)

theorem startRequests_cue (s : State) : s.startRequests.cue = s.abortAllTaken.cue := by
  unfold State.startRequests
  generalize s.abortAllTaken = aborted
  rfl

/-- After the entries were aborted, a run start writes the pass block and the ring alone. -/
theorem changesWithin_initialise_of_aborted (s : State) (st : Setup) :
    Memory.ChangesWithin inPassOrRing
      ((((s.takeSetup st).setSetupFault none).layOut).startTracker).abortAllTaken.cue (s.initialise st).cue := by
  simp only [State.initialise, State.setRun_frame]
  rw [← startRequests_cue]
  exact ((changesWithin_startPassController _).or_left inRing).trans
    ((changesWithin_startWriter _).or_right inPassBlock)

theorem initialise_requests (s : State) (st : Setup) :
    (s.initialise st).requests.ripple = none ∧ (s.initialise st).requests.setupFault = none ∧
      (s.initialise st).requests.notifyDue = false ∧ (s.initialise st).requests.takeIndex = 0 ∧
      (s.initialise st).requests.rippleCounter = 0 ∧ (s.initialise st).requests.splitPending = none ∧
      (s.initialise st).requests.freeStack = fullFreeStack := by
  simp [State.initialise, State.startRequests, State.layOut]

theorem entryLaw_initialise (s : State) (st : Setup) : EntryLaw (s.initialise st) := by
  obtain ⟨hripple, hfault, -⟩ := initialise_requests s st
  refine ⟨fun _ i => ?_, fun _ => hripple, by rw [hfault]; exact nofun⟩
  rw [hripple, entryWord_of_reads (changesWithin_initialise_of_aborted s st) ?_ i (by omega)]
  · exact ⟨fun h => absurd h (entryWord_abortAllTaken_ne _ i), nofun⟩
  · intro j k hk h
    exact not_inEventWords_entryBase hk (.inr h)

theorem entryLaw_of_reset {s : State} (hrun : s.port.run = .uninitialised) (hrequests : s.requests = State.reset.requests) :
    EntryLaw s :=
  ⟨fun h => absurd hrun h, fun _ => by rw [hrequests]; rfl, by rw [hrequests]; exact nofun⟩

theorem Stage.entryLaw {s t : State} (h : Stage s t) (hs : EntryLaw s) : EntryLaw t := by
  cases h with
  | event h => exact h.entryLaw hs
  | request hrun h => exact h.entryLaw hrun hs
  | initialise => exact entryLaw_initialise _ _
  | refuseBlock hrun h => exact ⟨hs.1, hs.2.1, fun _ ho => Option.some.inj ho ▸ h⟩
  | resume hrun => exact ⟨fun _ => hs.1 (by rw [hrun]; decide), nofun, hs.2.2⟩
  | halt hrun => exact ⟨fun _ => hs.1 (by rw [hrun]; decide), nofun, hs.2.2⟩
  | reset => exact entryLaw_of_reset rfl rfl

theorem entryLaw_hostWrite {s : State} (hs : EntryLaw s) {a : Nat} {v : Word} (hmade : hostWriteMade s.cue a v = true) :
    EntryLaw { s with cue := Memory.write s.cue a v } := by
  refine ⟨fun hrun i => ?_, hs.2⟩
  rw [← hs.1 hrun i]
  by_cases ha : a = entryBase i + 0
  · rw [ha, hostWriteMade_entry_iff s.cue i (by omega) v] at hmade
    obtain ⟨hfree, hvalue⟩ := hmade
    have hnew : entryWord (Memory.write s.cue a v) i 0 = v := by rw [ha]; exact Memory.read_write_same _ _ _
    dsimp only
    rw [hnew]
    refine ⟨fun h => ?_, fun h => absurd h hfree⟩
    rw [h] at hvalue
    simp at hvalue
  · have hold : entryWord (Memory.write s.cue a v) i 0 = entryWord s.cue i 0 :=
      Memory.read_write_other _ _ _ _ (Ne.symm ha)
    dsimp only
    rw [hold]

/-! ### The notification due -/

theorem EventStage.notifyDue {s t : State} (h : EventStage s t) : t.requests.notifyDue = s.requests.notifyDue := by
  cases h with
  | same h => rw [h.requests]
  | _ => simp

theorem raiseNotify_notifyDue (s : State) : s.raiseNotify.requests.notifyDue = false := by
  unfold State.raiseNotify
  split
  · rfl
  · next h => simpa using h

theorem EventStages.notifyDue {s t : State} (h : EventStages s t) : t.requests.notifyDue = s.requests.notifyDue :=
  h.keeps (I := fun u => u.requests.notifyDue = s.requests.notifyDue) (fun _ _ h hs => h.notifyDue.trans hs) rfl

theorem passActiveStart_notifyDue {s : State} (h : s.requests.notifyDue = false) :
    s.passActiveStart.requests.notifyDue = false := by
  unfold State.passActiveStart
  split
  · exact raiseNotify_notifyDue _
  · simpa using h

theorem writeRunSet_notifyDue {s : State} (h : s.requests.notifyDue = false) :
    s.writeRunSet.requests.notifyDue = false := by
  unfold State.writeRunSet State.runStart
  split
  · split
    · simpa using h
    · exact (initialise_requests _ _).2.2.1
  · exact h
  · exact h

theorem writeRunClear_notifyDue {s : State} (h : s.requests.notifyDue = false) :
    s.writeRunClear.requests.notifyDue = false := by
  unfold State.writeRunClear
  split <;> simpa using h

theorem commandResult_notifyDue {c : Instr} {s : State} (h : s.requests.notifyDue = false) :
    (commandResult c s).requests.notifyDue = false := by
  by_cases hc : eventCommand c = true
  · rw [(eventStages_commandResult hc s).notifyDue, h]
  cases c with
  | dataWrite v =>
    rcases dataWrite_cases v s with ⟨-, hview⟩ | hview <;> rw [hview.requests] <;> exact h
  | powerOnReset a b g r => rfl
  | portReset => rfl
  | runStart => exact writeRunSet_notifyDue (s := s.emptyLatch) h
  | halt => exact writeRunClear_notifyDue (s := s.emptyLatch) h
  | resume => exact writeRunSet_notifyDue (s := s.emptyLatch) h
  | activeStart =>
    cases hflag : s.sequencer.activeStartTaken with
    | true => rwa [commandResult_eq_of_exec (exec_activeStart_of_taken hflag)]
    | false =>
      rw [commandResult_eq_of_exec (exec_activeStart_of_open hflag)]
      exact passActiveStart_notifyDue (by simpa using h)
  | registerWriteOther write =>
    cases write with
    | ident v => exact absurd rfl hc
    | resetWithin m => rfl
    | control v =>
      change (s.emptyLatch.writeControl v).requests.notifyDue = false
      unfold State.writeControl
      split
      · rfl
      · split
        · exact writeRunSet_notifyDue (s := s.emptyLatch) h
        · exact writeRunClear_notifyDue (s := s.emptyLatch) h
  | _ => exact absurd rfl hc

theorem notifyDue_of_step {s t : State} (h : s.requests.notifyDue = false) (hstep : step s = .next t) :
    t.requests.notifyDue = false := by
  unfold step at hstep
  split at hstep
  · cases hstep; exact h
  · rw [exec_eq_next_iff] at hstep
    rw [← hstep]
    exact commandResult_notifyDue h

theorem requestLaw_iff {s : State} : s.RequestLaw ↔ EntryLaw s ∧ s.requests.notifyDue = false := by
  unfold State.RequestLaw EntryLaw
  tauto

/-- Settles O48: every stage keeps the TAKEN entries and the ripple together, and every command ends with no
notification due. -/
theorem onlyRippleEntryIsTaken : Obligations.OnlyRippleEntryIsTaken := fun _ _ hs h => by
  obtain ⟨hentry, hdue⟩ := requestLaw_iff.mp hs
  refine requestLaw_iff.mpr ⟨?_, notifyDue_of_step hdue h⟩
  exact step_keeps (I := EntryLaw) (fun _ _ h => h.entryLaw) (fun _ _ _ _ hmade hs => entryLaw_hostWrite hs hmade)
    (fun _ _ _ _ _ _ => entryLaw_of_reset rfl rfl) h hentry

/-! ### The pass block -/

theorem read_passCells (m : Memory) (p : Pass) {c : Nat × Word} (h : c ∈ passCells p) :
    Memory.read (Memory.writeAll m (passCells p)) c.1 = c.2 :=
  Memory.read_writeAll_mem m _ c h (by simp [passCells, pairCells, passBase])

theorem passBlockShows_writeAll (m : Memory) (p : Pass) : passBlockShows (Memory.writeAll m (passCells p)) p := by
  have hcell (a : Nat) (w : Word) (h : (a, w) ∈ passCells p) :
      Memory.read (Memory.writeAll m (passCells p)) a = w := read_passCells m p h
  have hpair {a : Nat} {v : DWord} (h : (a, highWord v) ∈ passCells p) (h' : (a + 1, lowWord v) ∈ passCells p) :
      Memory.readPair (Memory.writeAll m (passCells p)) a = v := readPair_of_words (hcell _ _ h) (hcell _ _ h')
  refine ⟨hcell _ _ ?_, hcell _ _ ?_, hpair ?_ ?_, hpair ?_ ?_, hpair ?_ ?_, hpair ?_ ?_, hcell _ _ ?_, hpair ?_ ?_,
    hcell _ _ ?_, hpair ?_ ?_⟩ <;> simp [passCells, pairCells, passBase, boolWord, flagWord]

theorem passBlockShows_congr {m m' : Memory} {p : Pass} (h : passBlockShows m p)
    (hread : ∀ a, inPassBlock a → Memory.read m' a = Memory.read m a) : passBlockShows m' p := by
  unfold passBlockShows Memory.readPair at *
  have hreads (a : Nat) (ha : 0x300 ≤ a) (ha' : a < 0x310) : Memory.read m' a = Memory.read m a := hread a ⟨ha, ha'⟩
  rwa [hreads 0x300 (by omega) (by omega), hreads 0x301 (by omega) (by omega), hreads 0x302 (by omega) (by omega),
    hreads (0x302 + 1) (by omega) (by omega), hreads 0x304 (by omega) (by omega),
    hreads (0x304 + 1) (by omega) (by omega), hreads 0x306 (by omega) (by omega),
    hreads (0x306 + 1) (by omega) (by omega), hreads 0x308 (by omega) (by omega),
    hreads (0x308 + 1) (by omega) (by omega), hreads 0x30A (by omega) (by omega), hreads 0x30B (by omega) (by omega),
    hreads (0x30B + 1) (by omega) (by omega), hreads 0x30D (by omega) (by omega), hreads 0x30E (by omega) (by omega),
    hreads (0x30E + 1) (by omega) (by omega)]

/-! ### The law of the pass -/

/-- The law of the pass controller's items by themselves. -/
structure PassItems (p : Pass) : Prop where
  inFrame : inRange p.inFrame
  expected : -65536 ≤ p.expected ∧ p.expected ≤ 1048576
  sum : p.openEnded = false → p.recorded + p.remaining = p.requested
  openEnded : p.openEnded = true → p.requested = 0 ∧ p.remaining = 0
  underWay : p.state.underWay = true → p.openEnded = false → 0 < p.remaining
  cued : p.state = .cued → p.expected = p.inFrame
  recording : p.state = .recording → p.inFrame < p.expected
  paused : p.state = .paused → p.expected ≤ 1048575
  stopPending : p.stopPending = true → p.state = .recording
  requested : p.requested ≤ 4294967295
  recorded : p.recorded ≤ 4294967295

theorem passLaw_iff {s : State} :
    s.PassLaw ↔ (s.port.run ≠ .uninitialised → passBlockShows s.cue s.pass) ∧ PassItems s.pass := by
  constructor
  · rintro ⟨hblock, h1, h2, h3, h4, h5, h6, h7, h8, h9, h10, h11⟩
    exact ⟨hblock, h1, h2, h3, h4, h5, h6, h7, h8, h9, h10, h11⟩
  · rintro ⟨hblock, h1, h2, h3, h4, h5, h6, h7, h8, h9, h10, h11⟩
    exact ⟨hblock, h1, h2, h3, h4, h5, h6, h7, h8, h9, h10, h11⟩

theorem passItems_initial : PassItems Pass.initial where
  inFrame := ⟨by decide, by decide⟩
  expected := ⟨by decide, by decide⟩
  sum _ := rfl
  openEnded := nofun
  underWay := nofun
  cued := nofun
  recording := nofun
  paused := nofun
  stopPending := nofun
  requested := by decide
  recorded := by decide

theorem live_iff {st : PassState} : st.live = true ↔ st = .cued ∨ st = .recording := by
  cases st <;> simp [PassState.live]

theorem passItems_faultedWith {p : Pass} (hp : PassItems p) (c : Condition) : PassItems (p.faultedWith c) where
  inFrame := hp.inFrame
  expected := by
    have hexpected := hp.expected
    have hrec := hp.recording
    have hin := hp.inFrame
    unfold inRange at hin
    simp only [Pass.faultedWith]
    split
    · next h => have := hrec h; omega
    · exact hexpected
  sum := hp.sum
  openEnded := hp.openEnded
  underWay := nofun
  cued := nofun
  recording := nofun
  paused := nofun
  stopPending := nofun
  requested := hp.requested
  recorded := hp.recorded

/-- The pass as its frame is counted, before it completes, pauses or goes on. -/
theorem passItems_counted {p : Pass} (hp : PassItems p) (hrec : p.state = .recording) (hframe : p.expected ≤ 1048575)
    {n : Nat} (hn : n ≤ 4294967295) (hexact : p.recorded + 1 ≤ 4294967295 → n = p.recorded + 1) :
    PassItems (p.counted n) := by
  have hrequested := hp.requested
  have hexpected := hp.expected
  have hlast := hp.recording hrec
  have hleft := hp.underWay (by rw [hrec]; rfl)
  have hsum : p.openEnded = false → n + (p.remaining - 1) = p.requested := fun hopen => by
    have hpos := hleft hopen
    have htotal := hp.sum hopen
    rw [hexact (by omega)]
    omega
  have hin := hp.inFrame
  cases hopen : p.openEnded with
  | true =>
    obtain ⟨hzero, hzero'⟩ := hp.openEnded hopen
    have hremaining : (if p.openEnded then p.remaining else p.remaining - 1) = p.remaining := by rw [hopen]; rfl
    unfold Pass.counted
    rw [hremaining, if_neg fun h => by simp [hopen] at h]
    split
    · constructor <;> simp [*, PassState.underWay]
    · constructor <;> simp [*, PassState.underWay] <;> omega
  | false =>
    have htotal := hsum hopen
    have hremaining : (if p.openEnded then p.remaining else p.remaining - 1) = p.remaining - 1 := by rw [hopen]; rfl
    unfold Pass.counted
    rw [hremaining]
    by_cases hdone : p.remaining - 1 = 0
    · rw [if_pos ⟨hopen, hdone⟩]
      have hlast : n = p.requested := by omega
      constructor <;> simp [*, PassState.underWay]
    · have hpos : 0 < p.remaining - 1 := Nat.pos_of_ne_zero hdone
      rw [if_neg fun h => hdone h.2]
      split
      · constructor <;> simp [*, PassState.underWay]
      · constructor <;> simp [*, PassState.underWay] <;> omega

theorem PassChange.items {s : State} {p : Pass} (h : PassChange s p) (hframe : inRange s.sequencer.fieldFrame)
    (hp : PassItems s.pass) : PassItems p := by
  have hin := hp.inFrame
  have hexpected := hp.expected
  unfold inRange at hframe hin
  cases h with
  | enter hcued hentry =>
    exact ⟨hin, ⟨by dsimp only; omega, by dsimp only; omega⟩, hp.sum, hp.openEnded,
      fun _ => hp.underWay (by rw [hcued]; rfl), nofun, fun _ => by dsimp only; omega, nofun, fun _ => rfl, hp.requested,
      hp.recorded⟩
  | fault _ c => exact passItems_faultedWith hp c
  | count hrec hf hn hexact => exact passItems_counted hp hrec (by omega) hn hexact
  | stop hrec =>
    exact ⟨hin, hexpected, hp.sum, hp.openEnded, hp.underWay, hp.cued, hp.recording, hp.paused, fun _ => hrec,
      hp.requested, hp.recorded⟩
  | start _ hf hn =>
    unfold inRange at hf
    refine ⟨hf, ⟨hf.1, by simp only [Pass.started]; omega⟩, fun _ => Nat.zero_add _, fun hopen => ?_, fun _ hopen => ?_,
      fun _ => rfl, nofun, nofun, nofun, hn, Nat.zero_le _⟩
    · have := of_decide_eq_true hopen
      exact ⟨this, this⟩
    · exact Nat.pos_of_ne_zero (of_decide_eq_false hopen)
  | resume _ hpaused =>
    exact ⟨⟨hexpected.1, hp.paused hpaused⟩, hexpected, hp.sum, hp.openEnded,
      fun _ => hp.underWay (by rw [hpaused]; rfl), fun _ => rfl, nofun, nofun,
      fun h => absurd (hp.stopPending h) (by rw [hpaused]; decide), hp.requested, hp.recorded⟩
  | abandon _ hstate =>
    refine ⟨hin, hexpected, hp.sum, hp.openEnded, nofun, nofun, nofun, nofun, fun h => ?_, hp.requested, hp.recorded⟩
    have hrec := hp.stopPending h
    rcases hstate with h | h <;> rw [h] at hrec <;> cases hrec

theorem passLaw_of_eq {s t : State} (hs : s.PassLaw) (hrun : t.port.run ≠ .uninitialised → s.port.run ≠ .uninitialised)
    (hpass : t.pass = s.pass) (hcue : ∀ a, inPassBlock a → Memory.read t.cue a = Memory.read s.cue a) : t.PassLaw := by
  obtain ⟨hblock, hitems⟩ := passLaw_iff.mp hs
  exact passLaw_iff.mpr ⟨fun h => hpass ▸ passBlockShows_congr (hblock (hrun h)) hcue, hpass ▸ hitems⟩

theorem passLaw_setPass {s : State} {p : Pass} (h : PassItems p) : (s.setPass p).PassLaw := by
  refine passLaw_iff.mpr ⟨fun hrun => ?_, by simpa using h⟩
  have hinit : s.initialised = true := by
    unfold State.initialised
    simpa using hrun
  unfold State.setPass
  dsimp only
  rw [if_pos hinit]
  exact passBlockShows_writeAll _ p

theorem EventStage.passLaw {s t : State} (h : EventStage s t) (hframe : inRange s.sequencer.fieldFrame)
    (hs : s.PassLaw) : t.PassLaw := by
  have hrun : t.port.run ≠ .uninitialised → s.port.run ≠ .uninitialised := fun hne => h.run ▸ hne
  cases h with
  | same h => exact passLaw_of_eq hs hrun h.pass (h.cue ▸ fun _ _ => rfl)
  | status h =>
    exact passLaw_of_eq hs hrun rfl fun a ha => h.read (by unfold inPassBlock at ha; unfold inStatus; omega)
  | hand r =>
    exact passLaw_of_eq hs hrun (by simp) fun a ha =>
      (changesWithin_hand s r).read (by unfold inPassBlock at ha; unfold inRing; omega)
  | pass h => exact passLaw_setPass (h.items hframe (passLaw_iff.mp hs).2)
  | _ => exact passLaw_of_eq hs hrun (by simp) (by simp)

theorem RequestStage.pass {s t : State} (h : RequestStage s t) : t.pass = s.pass := by
  cases h <;> simp

theorem not_inRequestWords_of_inPassBlock {a : Nat} (h : inPassBlock a) : ¬inRequestWords a := by
  unfold inPassBlock at h
  rintro (⟨i, hi⟩ | hscene)
  · have := inEntryResults_bounds hi
    omega
  · have := inScenes_of_inSceneFields hscene
    unfold inScenes at this
    omega

@[simp] theorem initialise_pass (s : State) (st : Setup) : (s.initialise st).pass = Pass.initial := by
  simp [State.initialise, State.startPassController]

theorem passBlockShows_startPassController (s : State) : passBlockShows s.startPassController.cue Pass.initial := by
  unfold State.startPassController
  dsimp only
  exact passBlockShows_writeAll _ _

theorem passBlockShows_initialise (s : State) (st : Setup) : passBlockShows (s.initialise st).cue Pass.initial := by
  simp only [State.initialise, State.setRun_frame]
  exact passBlockShows_congr (passBlockShows_startPassController _) fun a ha =>
    (changesWithin_startWriter _).read (by unfold inPassBlock at ha; unfold inRing; omega)

theorem passLaw_of_reset {s : State} (hrun : s.port.run = .uninitialised) (hpass : s.pass = Pass.initial) : s.PassLaw :=
  passLaw_iff.mpr ⟨fun h => absurd hrun h, hpass ▸ passItems_initial⟩

theorem Stage.passLaw {s t : State} (h : Stage s t) (hframe : inRange s.sequencer.fieldFrame) (hs : s.PassLaw) :
    t.PassLaw := by
  cases h with
  | event h => exact h.passLaw hframe hs
  | request _ h =>
    exact passLaw_of_eq hs (fun hne => h.run ▸ hne) h.pass fun _ ha =>
      h.changesWithin.read (not_inRequestWords_of_inPassBlock ha)
  | initialise =>
    exact passLaw_iff.mpr ⟨fun _ => by simpa using passBlockShows_initialise _ _, by simpa using passItems_initial⟩
  | refuseBlock => exact passLaw_of_eq hs id rfl fun _ _ => rfl
  | resume hrun => exact passLaw_of_eq hs (fun _ => by rw [hrun]; decide) rfl fun _ _ => rfl
  | halt hrun => exact passLaw_of_eq hs (fun _ => by rw [hrun]; decide) rfl fun _ _ => rfl
  | reset => exact passLaw_of_reset rfl rfl

/-- Settles O54: every stage keeps the law of the pass, the field frame being in range. -/
theorem passStaysLawful : Obligations.PassStaysLawful := fun _ _ hposition hs h =>
  (step_keeps (I := fun u => u.PositionLaw ∧ u.PassLaw)
    (fun _ _ h hs => ⟨h.positionLaw hs.1, h.passLaw hs.1.2.2.1 hs.2⟩)
    (fun _ _ _ _ hmade hs => ⟨positionLaw_of_eq hs.1 rfl rfl rfl,
      passLaw_of_eq hs.2 id rfl fun _ hb => read_hostWrite_other hmade (.inr (.inl hb))⟩)
    (fun _ _ _ _ _ _ => ⟨positionLaw_of_reset rfl rfl rfl rfl rfl, passLaw_of_reset rfl rfl⟩) h ⟨hposition, hs⟩).2

end Sys2Proof.Proofs

/-! The words of a slot after each edit, and the law of the grades (R37, R52, R62, R83). -/

namespace Sys2Proof.Proofs
open Sys2Proof.Machine

/-! ### The words of a slot -/

theorem slotWordAt_write (m : Memory) (x y : Slot) {j k : Nat} (hj : j < 32) (hk : k < 32) (w : Word) :
    slotWordAt (Memory.write m (slotBase x + j) w) y k = if y = x ∧ k = j then w else slotWordAt m y k := by
  unfold slotWordAt
  rw [Memory.read_write]
  simp only [slotBase_inj hk hj]

theorem slotWordAt_write_same (m : Memory) (x : Slot) {k : Nat} (hk : k < 32) (w : Word) :
    slotWordAt (Memory.write m (slotBase x + k) w) x k = w := by
  rw [slotWordAt_write m x x hk hk, if_pos ⟨rfl, rfl⟩]

theorem slotWordAt_write_other (m : Memory) {x y : Slot} {j k : Nat} (hj : j < 32) (hk : k < 32) (w : Word)
    (h : ¬(y = x ∧ k = j)) : slotWordAt (Memory.write m (slotBase x + j) w) y k = slotWordAt m y k := by
  rw [slotWordAt_write m x y hj hk, if_neg h]

theorem slotWordAt_of_changesWithin {P : Nat → Prop} {m m' : Memory} (h : Memory.ChangesWithin P m m') {x : Slot}
    {k : Nat} (hk : ¬P (slotBase x + k)) : slotWordAt m' x k = slotWordAt m x k := h.read hk

theorem sceneStart_congr {m m' : Memory} {x y : Slot} (h3 : slotWordAt m' y 3 = slotWordAt m x 3)
    (h4 : slotWordAt m' y 4 = slotWordAt m x 4) : sceneStart m' y = sceneStart m x := by
  unfold sceneStart Memory.readPair
  unfold slotWordAt at h3 h4
  rw [h3, show slotBase y + 3 + 1 = slotBase y + 4 from rfl, h4]

theorem sceneGrade_congr {m m' : Memory} {x y : Slot}
    (h : ∀ k : Fin 10, slotWordAt m' y (12 + k.val) = slotWordAt m x (12 + k.val)) :
    sceneGrade m' y = sceneGrade m x := by
  unfold sceneGrade
  simp only [h]

theorem sceneTag_congr {m m' : Memory} {x y : Slot} (h9 : slotWordAt m' y 9 = slotWordAt m x 9)
    (h10 : slotWordAt m' y 10 = slotWordAt m x 10) (h11 : slotWordAt m' y 11 = slotWordAt m x 11) :
    sceneTag m' y = sceneTag m x := by
  unfold sceneTag Memory.readPair
  rw [h9]
  unfold slotWordAt at h10 h11
  rw [h10, show slotBase y + 10 + 1 = slotBase y + 11 from rfl, h11]

/-- A grade word as it is read. -/
theorem sceneGrade_getElem (m : Memory) (x : Slot) (k : Fin 10) :
    (sceneGrade m x)[k] =
      if paramLow k = 0 then ((slotWordAt m x (12 + k.val)).toNat : Int) else (slotWordAt m x (12 + k.val)).toInt := by
  simp [sceneGrade]

theorem signedWord_toInt {v : Int} (h : -32768 ≤ v) (h' : v < 32768) : (signedWord v).toInt = v := by
  unfold signedWord
  rw [BitVec.toInt_ofInt, Int.bmod_def]
  omega

/-- A parameter in its range is read as it was written. -/
theorem sceneGrade_of_signedWord {m : Memory} {x : Slot} {k : Fin 10} {v : Int}
    (h : slotWordAt m x (12 + k.val) = signedWord v) (hv : paramInRange k v) : (sceneGrade m x)[k] = v := by
  have hk := k.isLt
  have hlow : paramLow k = 0 ↔ 3 ≤ k.val ∧ k.val ≤ 5 ∨ k.val = 9 := by unfold paramLow; split_ifs <;> simp <;> omega
  rw [sceneGrade_getElem, h]
  simp only [hlow]
  unfold paramInRange at hv
  have hnat : 0 ≤ v → v < 65536 → ((signedWord v).toNat : Int) = v := signedWord_toNat
  have hint : -32768 ≤ v → v < 32768 → (signedWord v).toInt = v := signedWord_toInt
  split_ifs at hv ⊢ <;> omega

/-! ### Linking and unlinking -/

/-- The words that linking and unlinking write besides a scene's own fields: STATE, NEXT, PREV and the serial. -/
def inLinkWords (a : Nat) : Prop := ∃ (x : Slot) (k : Nat), (k ≤ 2 ∨ k = 7) ∧ a = slotBase x + k

theorem not_inLinkWords {x : Slot} {k : Nat} (hk : k < 32) (h2 : 2 < k) (h7 : k ≠ 7) : ¬inLinkWords (slotBase x + k) := by
  rintro ⟨y, j, hj, h⟩
  have := ((slotBase_inj hk (by omega)).mp h).2
  omega

theorem inLinkWords_add {x : Slot} {k : Nat} (h : k ≤ 2 ∨ k = 7) : inLinkWords (slotBase x + k) := ⟨x, k, h, rfl⟩

theorem changesWithin_linkScene_links (m : Memory) (x pred : Slot) (fields : List (Nat × Word)) :
    Memory.ChangesWithin inLinkWords (Memory.writeAll m fields) (linkScene m x pred fields) := by
  have hplaced : Memory.ChangesWithin inLinkWords (Memory.writeAll m fields)
      (Memory.writeAll (Memory.writeAll m fields)
        [(slotBase x + 2, slotWord (some pred)), (slotBase x + 1, slotWord (sceneNext m pred)),
          (slotBase x + 7, sceneSerial m x + 1), (slotBase x, 1), (slotBase pred + 1, slotWord (some x))]) := by
    refine changesWithin_writeAll _ fun c hc => ?_
    simp only [List.mem_cons, List.not_mem_nil, or_false] at hc
    rcases hc with rfl | rfl | rfl | rfl | rfl
    · exact ⟨inLinkWords_add (by omega), slotBase_add_lt (by omega)⟩
    · exact ⟨inLinkWords_add (by omega), slotBase_add_lt (by omega)⟩
    · exact ⟨inLinkWords_add (by omega), slotBase_add_lt (by omega)⟩
    · exact ⟨inLinkWords_add (k := 0) (by omega), slotBase_add_lt (k := 0) (by omega)⟩
    · exact ⟨inLinkWords_add (by omega), slotBase_add_lt (by omega)⟩
  unfold linkScene
  dsimp only
  rw [Memory.writeAll_append]
  split
  · exact hplaced.trans (changesWithin_write _ _ (inLinkWords_add (by omega)) (slotBase_add_lt (by omega)))
  · exact hplaced

theorem changesWithin_unlinkScene_links (m : Memory) (x : Slot) :
    Memory.ChangesWithin inLinkWords m (unlinkScene m x) :=
  changesWithin_unlinkScene m (fun _ _ => inLinkWords_add (by omega)) fun _ _ => inLinkWords_add (by omega)

theorem changesWithin_freeSlot_links (m : Memory) (x : Slot) : Memory.ChangesWithin inLinkWords m (freeSlot m x) :=
  changesWithin_write m 0 (inLinkWords_add (k := 0) (by omega)) (slotBase_add_lt (k := 0) (by omega))

theorem changesWithin_clearScenes_links (fuel : Nat) (m : Memory) (stack : List Slot) (n : Nat) :
    Memory.ChangesWithin inLinkWords m (clearScenes fuel m stack n).1 := by
  induction fuel generalizing m stack n with
  | zero => exact .refl _ _
  | succ fuel ih =>
    unfold clearScenes
    split
    · exact ((changesWithin_unlinkScene_links m _).trans (changesWithin_freeSlot_links _ _)).trans (ih _ _ _)
    · exact .refl _ _

/-- The fields written by a link are those of the scene, none of them a word of the links. -/
def FieldCells (x : Slot) (fields : List (Nat × Word)) : Prop :=
  ∀ c ∈ fields, ∃ k, k < 32 ∧ 2 < k ∧ k ≠ 7 ∧ c.1 = slotBase x + k

theorem slotWordAt_writeAll_fields {x y : Slot} {fields : List (Nat × Word)} (hf : FieldCells x fields) (m : Memory)
    {k : Nat} (hk : k < 32) (h : y ≠ x ∨ k ≤ 2 ∨ k = 7) :
    slotWordAt (Memory.writeAll m fields) y k = slotWordAt m y k := by
  refine Memory.read_writeAll_other _ _ _ fun c hc hcell => ?_
  obtain ⟨j, hj, h2, h7, hj'⟩ := hf c hc
  obtain ⟨hxy, hjk⟩ := (slotBase_inj hj hk).mp (hj'.symm.trans hcell)
  rcases h with h | h
  · exact h hxy.symm
  · omega

/-- The fields of a linked scene, and every word of the others but NEXT of the predecessor and PREV of the successor. -/
theorem slotWordAt_linkScene_field (m : Memory) (x pred : Slot) (fields : List (Nat × Word)) {y : Slot} {k : Nat}
    (hk : k < 32) (h2 : 2 < k) (h7 : k ≠ 7) :
    slotWordAt (linkScene m x pred fields) y k = slotWordAt (Memory.writeAll m fields) y k :=
  slotWordAt_of_changesWithin (changesWithin_linkScene_links m x pred fields) (not_inLinkWords hk h2 h7)

/-- The words of the links after a scene is linked. -/
theorem slotWordAt_linkScene {m : Memory} {x pred : Slot} {fields : List (Nat × Word)} (hf : FieldCells x fields)
    (hpred : pred ≠ x) (hsucc : sceneNext m pred ≠ some x) (y : Slot) {k : Nat} (hk : k ≤ 2 ∨ k = 7) :
    slotWordAt (linkScene m x pred fields) y k =
      if y = x then
        (if k = 0 then 1 else if k = 1 then slotWord (sceneNext m pred) else if k = 2 then slotWord (some pred)
          else sceneSerial m x + 1)
      else if y = pred ∧ k = 1 then slotWord (some x)
      else if sceneNext m pred = some y ∧ k = 2 then slotWord (some x)
      else slotWordAt m y k := by
  have hfields (y : Slot) : slotWordAt (Memory.writeAll m fields) y k = slotWordAt m y k :=
    slotWordAt_writeAll_fields hf m (by omega) (.inr hk)
  have hzero (w : Word) (m : Memory) : Memory.write m (slotBase x) w = Memory.write m (slotBase x + 0) w := rfl
  have hlt : k < 32 := by omega
  have hplaced (y : Slot) : slotWordAt
      (Memory.writeAll (Memory.writeAll m fields)
        [(slotBase x + 2, slotWord (some pred)), (slotBase x + 1, slotWord (sceneNext m pred)),
          (slotBase x + 7, sceneSerial m x + 1), (slotBase x, 1), (slotBase pred + 1, slotWord (some x))]) y k =
      if y = x then
        (if k = 0 then 1 else if k = 1 then slotWord (sceneNext m pred) else if k = 2 then slotWord (some pred)
          else sceneSerial m x + 1)
      else if y = pred ∧ k = 1 then slotWord (some x) else slotWordAt m y k := by
    simp only [Memory.writeAll_cons, Memory.writeAll_nil, hzero]
    rw [slotWordAt_write _ _ _ (by omega) hlt, slotWordAt_write _ _ _ (by omega) hlt,
      slotWordAt_write _ _ _ (by omega) hlt, slotWordAt_write _ _ _ (by omega) hlt,
      slotWordAt_write _ _ _ (by omega) hlt, hfields]
    by_cases hyx : y = x
    · subst hyx
      rw [if_neg fun h => hpred h.1.symm, if_pos rfl]
      rcases hk with hk | rfl
      · interval_cases k <;> simp
      · simp
    · simp [hyx]
  unfold linkScene
  dsimp only
  rw [Memory.writeAll_append]
  split
  · next z hz =>
    rw [slotWordAt_write _ _ _ (by omega) hlt, hplaced]
    by_cases hyz : y = z
    · subst hyz
      have hyx : y ≠ x := fun h => hsucc (h ▸ hz)
      by_cases hk2 : k = 2
      · simp [hyx, hk2, hz]
      · simp [hyx, hk2]
    · have : some z ≠ some y := fun h => hyz (Option.some.inj h).symm
      simp [hyz, hz, Ne.symm hyz]
  · next hnone => rw [hplaced]; simp [hnone]

/-- The words after a scene is unlinked: NEXT of its predecessor and PREV of its successor alone change. -/
theorem slotWordAt_unlinkScene (m : Memory) (x y : Slot) {k : Nat} (hk : k < 32) :
    slotWordAt (unlinkScene m x) y k =
      if sceneNext m x = some y ∧ k = 2 then slotWord (scenePrev m x)
      else if scenePrev m x = some y ∧ k = 1 then slotWord (sceneNext m x)
      else slotWordAt m y k := by
  unfold unlinkScene
  cases hprev : scenePrev m x with
  | none => cases hnext : sceneNext m x <;> simp [slotWordAt_write, hk, eq_comm]
  | some p => cases hnext : sceneNext m x <;> simp [slotWordAt_write, hk, eq_comm]

theorem slotWordAt_freeSlot (m : Memory) (x y : Slot) {k : Nat} (hk : k < 32) :
    slotWordAt (freeSlot m x) y k = if y = x ∧ k = 0 then 0 else slotWordAt m y k :=
  slotWordAt_write m x y (j := 0) (by omega) hk 0

/-! ### A new scene's words -/

theorem mem_newSceneCells {x : Slot} {p d : Int} {o mk : Word} {b : Bool} {v : DWord} {g : Grade} {c : Nat × Word}
    (h : c ∈ newSceneCells x p d o mk b v g) :
    c = (slotBase x + 3, highWord (signedDWord p)) ∨ c = (slotBase x + 4, lowWord (signedDWord p)) ∨
      c = (slotBase x + 5, signedWord d) ∨ c = (slotBase x + 6, o) ∨ c = (slotBase x + 8, mk) ∨
      c = (slotBase x + 9, boolWord b) ∨ c = (slotBase x + 10, highWord v) ∨ c = (slotBase x + 11, lowWord v) ∨
      ∃ k : Fin 10, c = (slotBase x + 12 + k.val, signedWord g[k]) := by
  rcases List.mem_append.mp h with h | h
  · simp only [pairCells, List.cons_append, List.nil_append, List.mem_cons, List.not_mem_nil, or_false] at h
    tauto
  · have := mem_gradeCells h
    tauto

theorem fieldCells_newSceneCells {x : Slot} {p d : Int} {o mk : Word} {b : Bool} {v : DWord} {g : Grade} :
    FieldCells x (newSceneCells x p d o mk b v g) := by
  intro c hc
  rcases mem_newSceneCells hc with rfl | rfl | rfl | rfl | rfl | rfl | rfl | rfl | ⟨k, rfl⟩
  · exact ⟨3, by omega, by omega, by omega, rfl⟩
  · exact ⟨4, by omega, by omega, by omega, rfl⟩
  · exact ⟨5, by omega, by omega, by omega, rfl⟩
  · exact ⟨6, by omega, by omega, by omega, rfl⟩
  · exact ⟨8, by omega, by omega, by omega, rfl⟩
  · exact ⟨9, by omega, by omega, by omega, rfl⟩
  · exact ⟨10, by omega, by omega, by omega, rfl⟩
  · exact ⟨11, by omega, by omega, by omega, rfl⟩
  · exact ⟨12 + k.val, by omega, by omega, by omega, by dsimp only; omega⟩

theorem pairwise_gradeCells (x : Slot) (g : Grade) : (gradeCells x g).Pairwise fun c d => c.1 ≠ d.1 := by
  unfold gradeCells
  rw [List.pairwise_map]
  exact (List.nodup_finRange 10).imp fun h => by
    dsimp only
    omega

theorem pairwise_newSceneCells {x : Slot} {p d : Int} {o mk : Word} {b : Bool} {v : DWord} {g : Grade} :
    (newSceneCells x p d o mk b v g).Pairwise fun c d => c.1 ≠ d.1 := by
  unfold newSceneCells
  rw [List.pairwise_append]
  refine ⟨by simp [pairCells], pairwise_gradeCells x g, fun c hc e he => ?_⟩
  have hlow : c.1 < slotBase x + 12 := by
    simp only [pairCells, List.cons_append, List.nil_append, List.mem_cons, List.not_mem_nil, or_false] at hc
    rcases hc with rfl | rfl | rfl | rfl | rfl | rfl | rfl | rfl <;> dsimp only <;> omega
  have := inGradeWords_of_mem_gradeCells he
  unfold inGradeWords at this
  omega

/-- A word of a new scene. -/
theorem slotWordAt_newScene (m : Memory) {x : Slot} {p d : Int} {o mk : Word} {b : Bool} {v : DWord} {g : Grade}
    {k : Nat} {w : Word} (h : (slotBase x + k, w) ∈ newSceneCells x p d o mk b v g) :
    slotWordAt (Memory.writeAll m (newSceneCells x p d o mk b v g)) x k = w :=
  Memory.read_writeAll_mem m _ _ h pairwise_newSceneCells

theorem mem_gradeCells_of (x : Slot) (g : Grade) (k : Fin 10) :
    (slotBase x + (12 + k.val), signedWord g[k]) ∈ gradeCells x g :=
  List.mem_map.mpr ⟨k, List.mem_finRange k, by rw [Nat.add_assoc]⟩

theorem sceneGrade_newScene (m : Memory) {x : Slot} {p d : Int} {o mk : Word} {b : Bool} {v : DWord} {g : Grade}
    (hg : gradeInRange g) : sceneGrade (Memory.writeAll m (newSceneCells x p d o mk b v g)) x = g := by
  ext k hk
  exact sceneGrade_of_signedWord (k := ⟨k, hk⟩)
    (slotWordAt_newScene m (List.mem_append_right _ (mem_gradeCells_of x g ⟨k, hk⟩))) (hg ⟨k, hk⟩)

/-! ### Blends -/

/-- A rounded part of a quantity lies between 0 and it. -/
theorem roundDiv_mul_le {c : Int} {n d : Nat} (hc : 0 ≤ c) (h : n ≤ d) :
    0 ≤ roundDiv (c * n) (d + 1) ∧ roundDiv (c * n) (d + 1) ≤ c := by
  have hn : 0 ≤ c * n := mul_nonneg hc (by omega)
  refine ⟨roundDiv_nonneg hn _, ?_⟩
  rw [roundDiv_of_nonneg hn, Int.ediv_le_iff_le_mul (by omega)]
  have hmul : c * n ≤ c * d := mul_le_mul_of_nonneg_left (by omega) hc
  push_cast
  nlinarith

/-- A blend lies between the two values blended (R82). -/
theorem blendParam_between (a b : Int) {n d : Nat} (h : n ≤ d) :
    (a ≤ blendParam a b n d ∧ blendParam a b n d ≤ b) ∨ (b ≤ blendParam a b n d ∧ blendParam a b n d ≤ a) := by
  unfold blendParam
  rcases le_total a b with hab | hab
  · have := roundDiv_mul_le (c := b - a) (by omega) h
    omega
  · have hneg : (b - a) * n = -((a - b) * n) := by ring
    rw [hneg, roundDiv_neg _ (by omega)]
    have := roundDiv_mul_le (c := a - b) (by omega) h
    omega

theorem paramInRange_of_between {k : Fin 10} {a b v : Int} (ha : paramInRange k a) (hb : paramInRange k b)
    (h : (a ≤ v ∧ v ≤ b) ∨ (b ≤ v ∧ v ≤ a)) : paramInRange k v := by
  unfold paramInRange at *
  split_ifs at * <;> omega

theorem blendGrade_inRange {g g' : Grade} (hg : gradeInRange g) (hg' : gradeInRange g') {n d : Nat} (h : n ≤ d) :
    gradeInRange (blendGrade g g' n d) := fun k => by
  have := paramInRange_of_between (hg k) (hg' k) (blendParam_between g[k] g'[k] h)
  simpa [blendGrade] using this

/-! ### The law of the grades -/

/-- Every scene record has its grade and its DISSOLVE in range. -/
def SceneGrades (m : Memory) : Prop := ∀ x : Slot, gradeInRange (sceneGrade m x) ∧ sceneDissolve m x ≤ 250

theorem sceneGrades_of_words {m m' : Memory} (hm : SceneGrades m) {x : Slot}
    (h5 : slotWordAt m' x 5 = slotWordAt m x 5)
    (hgrade : ∀ k : Fin 10, slotWordAt m' x (12 + k.val) = slotWordAt m x (12 + k.val)) :
    gradeInRange (sceneGrade m' x) ∧ sceneDissolve m' x ≤ 250 := by
  rw [sceneGrade_congr hgrade, sceneDissolve, h5]
  exact hm x

theorem sceneGrades_of_changesWithin {P : Nat → Prop} {m m' : Memory} (hm : SceneGrades m)
    (h : Memory.ChangesWithin P m m') (h5 : ∀ x : Slot, ¬P (slotBase x + 5))
    (hgrade : ∀ (x : Slot) (k : Fin 10), ¬P (slotBase x + (12 + k.val))) : SceneGrades m' := fun x =>
  sceneGrades_of_words hm (slotWordAt_of_changesWithin h (h5 x)) fun k => slotWordAt_of_changesWithin h (hgrade x k)

theorem sceneGrades_of_outside {P : Nat → Prop} {m m' : Memory} (hm : SceneGrades m) (h : Memory.ChangesWithin P m m')
    (hP : ∀ a, inScenes a → ¬P a) : SceneGrades m' :=
  sceneGrades_of_changesWithin hm h
    (fun x => hP _ (inScenes_of_inSceneFields (inSceneFields_add (by omega))))
    fun x k => hP _ (inScenes_of_inSceneFields (inSceneFields_add (by omega)))

theorem sceneGrades_of_links {m m' : Memory} (hm : SceneGrades m) (h : Memory.ChangesWithin inLinkWords m m') :
    SceneGrades m' :=
  sceneGrades_of_changesWithin hm h (fun _ => not_inLinkWords (by omega) (by omega) (by omega))
    fun _ _ => not_inLinkWords (by omega) (by omega) (by omega)

theorem sceneGrades_newScene {m : Memory} (hm : SceneGrades m) {x : Slot} {p d : Int} {o mk : Word} {b : Bool}
    {v : DWord} {g : Grade} (hd : 0 ≤ d ∧ d ≤ 250) (hg : gradeInRange g) :
    SceneGrades (Memory.writeAll m (newSceneCells x p d o mk b v g)) := by
  intro y
  by_cases hyx : y = x
  · subst hyx
    rw [sceneGrade_newScene m hg]
    refine ⟨hg, ?_⟩
    have hword : slotWordAt (Memory.writeAll m (newSceneCells y p d o mk b v g)) y 5 = signedWord d :=
      slotWordAt_newScene m (by simp [newSceneCells, pairCells])
    have := signedWord_toNat hd.1 (by omega)
    rw [sceneDissolve, hword]
    omega
  · exact sceneGrades_of_words hm (slotWordAt_writeAll_fields fieldCells_newSceneCells m (by omega) (.inl hyx))
      fun k => slotWordAt_writeAll_fields fieldCells_newSceneCells m (by omega) (.inl hyx)

theorem sceneGrades_writeField {m : Memory} (hm : SceneGrades m) {x : Slot} {k : Nat} {w : Word}
    (h : FieldWord x k w) : SceneGrades (Memory.write m (slotBase x + k) w) := by
  intro y
  rcases h with ⟨rfl, -, hw⟩ | rfl | rfl | ⟨j, v, rfl, hv, rfl⟩
  · refine ⟨?_, ?_⟩
    · rw [sceneGrade_congr (x := y) (m := m) fun j => slotWordAt_write_other m (by omega) (by omega) w (by omega)]
      exact (hm y).1
    · rw [sceneDissolve, slotWordAt_write m x y (by omega) (by omega)]
      split
      · exact hw
      · exact (hm y).2
  · exact sceneGrades_of_words hm (slotWordAt_write_other m (by omega) (by omega) w (by omega))
      fun j => slotWordAt_write_other m (by omega) (by omega) w (by omega)
  · exact sceneGrades_of_words hm (slotWordAt_write_other m (by omega) (by omega) w (by omega))
      fun j => slotWordAt_write_other m (by omega) (by omega) w (by omega)
  · refine ⟨fun i => ?_, ?_⟩
    · by_cases hij : y = x ∧ 12 + i.val = 12 + j.val
      · obtain ⟨rfl, hij⟩ := hij
        obtain rfl : i = j := Fin.ext (by omega)
        rw [sceneGrade_of_signedWord (slotWordAt_write_same m y (by omega) _) hv]
        exact hv
      · have hword : slotWordAt (Memory.write m (slotBase x + (12 + j.val)) (signedWord v)) y (12 + i.val) =
            slotWordAt m y (12 + i.val) := slotWordAt_write_other m (by omega) (by omega) _ hij
        have := (hm y).1 i
        rw [sceneGrade_getElem] at this
        rwa [sceneGrade_getElem, hword]
    · rw [sceneDissolve, slotWordAt_write_other m (by omega) (by omega) _ (by omega)]
      exact (hm y).2

/-! ### The scene table laid out (R54, R185) -/

theorem pairwise_baseSceneCells : baseSceneCells.Pairwise fun c d => c.1 ≠ d.1 := by decide

theorem baseSceneCells_bounds {c : Nat × Word} (h : c ∈ baseSceneCells) : sceneBase ≤ c.1 ∧ c.1 < sceneBase + 32 := by
  revert c
  decide

/-- A slot's word after the list is laid out: the base scene's cells, 0 elsewhere. -/
theorem slotWordAt_layOutScenes_mem (m : Memory) {k : Nat} {w : Word} (h : (sceneBase + k, w) ∈ baseSceneCells) :
    slotWordAt (layOutScenes m) 0 k = w := by
  have hread := Memory.read_writeAll_mem (Memory.clearRange m sceneBase (sceneBase + 32768)) _ _ h
    pairwise_baseSceneCells
  exact hread

theorem slotWordAt_layOutScenes_other (m : Memory) {x : Slot} {k : Nat} (hk : k < 32)
    (h : ∀ c ∈ baseSceneCells, c.1 ≠ slotBase x + k) : slotWordAt (layOutScenes m) x k = 0 := by
  have hx := slotBase_bounds x
  unfold slotWordAt layOutScenes
  rw [Memory.read_writeAll_other _ _ _ h, Memory.read_clearRange, if_pos]
  · rfl
  · unfold sceneBase; omega

theorem slotWordAt_layOutScenes_of_ne (m : Memory) {x : Slot} {k : Nat} (hk : k < 32) (hx : x ≠ 0) :
    slotWordAt (layOutScenes m) x k = 0 := by
  refine slotWordAt_layOutScenes_other m hk fun c hmem hcell => ?_
  have hbounds := baseSceneCells_bounds hmem
  have hpos : 0 < x.val := Nat.pos_of_ne_zero fun h => hx (Fin.ext h)
  unfold slotBase at hcell
  omega

theorem slotWordAt_layOutScenes_base (m : Memory) {k : Nat} (hk : k < 32)
    (h : ∀ c ∈ baseSceneCells, c.1 ≠ sceneBase + k) : slotWordAt (layOutScenes m) 0 k = 0 :=
  slotWordAt_layOutScenes_other m hk h

theorem sceneGrade_layOutScenes_base (m : Memory) (k : Fin 10) :
    (sceneGrade (layOutScenes m) 0)[k] =
      if 3 ≤ k.val ∧ k.val < 6 then 1024 else if k.val = 9 then 256 else 0 := by
  have hcell (k : Nat) (w : Word) (h : (sceneBase + k, w) ∈ baseSceneCells) := slotWordAt_layOutScenes_mem m h
  have hzero (k : Nat) (hk : k < 32) (h : ∀ c ∈ baseSceneCells, c.1 ≠ sceneBase + k) :=
    slotWordAt_layOutScenes_base m hk h
  have h15 := hcell 15 1024 (by decide)
  have h16 := hcell 16 1024 (by decide)
  have h17 := hcell 17 1024 (by decide)
  have h21 := hcell 21 256 (by decide)
  rw [sceneGrade_getElem]
  fin_cases k
  · simp [hzero 12 (by omega) (by decide)]
  · simp [hzero 13 (by omega) (by decide)]
  · simp [hzero 14 (by omega) (by decide)]
  · simp [h15, paramLow]
  · simp [h16, paramLow]
  · simp [h17, paramLow]
  · simp [hzero 18 (by omega) (by decide)]
  · simp [hzero 19 (by omega) (by decide)]
  · simp [hzero 20 (by omega) (by decide)]
  · simp [h21, paramLow]

theorem sceneGrades_layOutScenes (m : Memory) : SceneGrades (layOutScenes m) := by
  intro x
  by_cases hx : x = 0
  · subst hx
    refine ⟨fun k => ?_, ?_⟩
    · rw [sceneGrade_layOutScenes_base]
      have := k.isLt
      unfold paramInRange
      split_ifs <;> omega
    · rw [sceneDissolve, slotWordAt_layOutScenes_base m (by omega) (by decide)]
      exact Nat.zero_le _
  · refine ⟨fun k => ?_, ?_⟩
    · have hk := k.isLt
      rw [sceneGrade_getElem, slotWordAt_layOutScenes_of_ne m (by omega) hx]
      unfold paramInRange
      split_ifs <;> simp
    · rw [sceneDissolve, slotWordAt_layOutScenes_of_ne m (by omega) hx]
      exact Nat.zero_le _

end Sys2Proof.Proofs

/-! The law of the grades, stage by stage (R37, R52, R62, R83). -/

namespace Sys2Proof.Proofs
open Sys2Proof.Machine

/-- The weight of a resolution is a proper one (R62). -/
def ProperWeight (r : Resolution) : Prop := r.dissolving = true → 1 ≤ r.n ∧ r.n ≤ r.dEff ∧ r.dEff ≤ 250

theorem effectiveDissolve_le (m : Memory) (c : Slot) : effectiveDissolve m c ≤ sceneDissolve m c := by
  unfold effectiveDissolve
  split
  · exact Nat.zero_le _
  · split
    · exact Nat.min_le_left _ _
    · exact le_rfl

theorem properWeight_resolvedRecord {m : Memory} (hm : SceneGrades m) (q : Sequencer) (c : Slot) (n : Nat) :
    ProperWeight (resolvedRecord m q c n) := by
  intro h
  have hdissolving : isDissolving m c q.fieldFrame = true := h
  have hbounds := of_decide_eq_true hdissolving
  have hle := (effectiveDissolve_le m c).trans (hm c).2
  simp only [resolvedRecord, hdissolving, if_true]
  omega

theorem effectiveGrade_inRange {m : Memory} (hm : SceneGrades m) {r : Resolution} (hr : ProperWeight r) :
    gradeInRange (effectiveGrade m r) := by
  unfold effectiveGrade
  split
  · next p hdissolving _ => exact blendGrade_inRange (hm p).1 (hm r.slot).1 (hr hdissolving).2.1
  · exact (hm r.slot).1

theorem trimmed_inRange (e : Engine) {g : Grade} (hg : gradeInRange g) : gradeInRange (e.trimmed g) := by
  unfold Engine.trimmed
  split
  · exact clampGrade_inRange _
  · exact hg

theorem neutral_inRange : gradeInRange State.reset.engine.coefficients := by
  unfold gradeInRange paramInRange
  decide

/-- The coefficient step keeps the set in range. -/
theorem buildCoefficients_inRange {s : State} (hset : gradeInRange s.engine.coefficients)
    (hscenes : SceneGrades s.cue) (hlatest : ∀ r, s.tracker.latest = some r → ProperWeight r) :
    gradeInRange s.buildCoefficients.engine.coefficients := by
  unfold State.buildCoefficients
  split
  · next r hr =>
    split
    · exact trimmed_inRange _ (effectiveGrade_inRange hscenes (hlatest r hr))
    · exact hset
  · exact hset

theorem gradeLaw_of_eq {s t : State} (hs : s.GradeLaw) (hrun : t.port.run = s.port.run)
    (hset : t.engine.coefficients = s.engine.coefficients) (hread : t.engine.read = s.engine.read)
    (hlatest : t.tracker.latest = s.tracker.latest) (hscenes : SceneGrades s.cue → SceneGrades t.cue) : t.GradeLaw := by
  obtain ⟨hcoefficients, hgrades, hweight, hreset⟩ := hs
  refine ⟨hset ▸ hcoefficients, fun h => hscenes (hgrades (hrun ▸ h)), hlatest ▸ hweight, fun h => ?_⟩
  rw [hlatest, hread]
  exact hreset (hrun ▸ h)

theorem not_inStatus_of_inScenes {a : Nat} (h : inScenes a) : ¬inStatus a := by
  unfold inScenes at h; unfold inStatus; omega

theorem not_inRing_of_inScenes {a : Nat} (h : inScenes a) : ¬inRing a := by
  unfold inScenes at h; unfold inRing; omega

theorem not_inPassBlock_of_inScenes {a : Nat} (h : inScenes a) : ¬inPassBlock a := by
  unfold inScenes at h; unfold inPassBlock; omega

theorem not_inEventWords_of_inScenes {a : Nat} (h : inScenes a) : ¬inEventWords a := by
  unfold inScenes at h; unfold inEventWords inStatus inPassBlock inRing; omega

theorem not_inResults_of_inScenes {a : Nat} (h : inScenes a) : ¬inResults a := by
  rintro ⟨i, hi⟩
  have := inEntryResults_bounds hi
  unfold inScenes at h; omega

theorem EventStage.gradeLaw {s t : State} (h : EventStage s t) (hs : s.GradeLaw) : t.GradeLaw := by
  have hscenes : SceneGrades s.cue → SceneGrades t.cue := fun hm =>
    sceneGrades_of_outside hm h.changesWithin fun _ => not_inEventWords_of_inScenes
  have hinit (hactive : s.port.run = .running ∨ s.engine.read ≠ none) : s.port.run ≠ .uninitialised := fun hun => by
    rcases hactive with hactive | hactive
    · rw [hun] at hactive; cases hactive
    · obtain ⟨-, -, -, hidle⟩ := hs
      exact hactive (hidle hun).2
  cases h with
  | same h => exact gradeLaw_of_eq hs h.run (h.engine ▸ rfl) (h.engine ▸ rfl) (h.tracker ▸ rfl) hscenes
  | engine e h hset =>
    exact ⟨hset ▸ hs.1, hs.2.1, hs.2.2.1, fun hun => absurd hun (hinit h)⟩
  | build e h hset =>
    have hrun := hinit h
    refine ⟨buildCoefficients_inRange (hset ▸ hs.1) (hs.2.1 hrun) hs.2.2.1, fun _ => ?_, ?_, fun hun => ?_⟩
    · exact hscenes (hs.2.1 hrun)
    · simpa using hs.2.2.1
    · exact absurd (by simpa using hun) hrun
  | resolved hrun _ =>
    have hinit : s.port.run ≠ .uninitialised := by rw [hrun]; decide
    refine ⟨hs.1, hs.2.1, fun r hr => ?_, fun hun => absurd hun hinit⟩
    rw [← Option.some.inj hr]
    exact properWeight_resolvedRecord (hs.2.1 hinit) _ _ _
  | held hrun _ =>
    refine ⟨hs.1, hs.2.1, fun r hr => ?_, fun hun => absurd (hrun.symm.trans hun) (by decide)⟩
    rw [← Option.some.inj hr]
    exact nofun
  | _ => exact gradeLaw_of_eq hs (by simp) (by simp) (by simp) (by simp) hscenes

theorem RequestStage.sceneGrades {s t : State} (h : RequestStage s t) (hm : SceneGrades s.cue) : SceneGrades t.cue := by
  cases h with
  | finish r h =>
    exact sceneGrades_of_outside hm (changesWithin_finishEntry _ _ _) fun _ ha hr =>
      not_inResults_of_inScenes ha ⟨_, hr⟩
  | endRipple c h he =>
    exact sceneGrades_of_outside hm (changesWithin_endRipple _ _ _) fun _ ha hr => not_inResults_of_inScenes ha ⟨_, hr⟩
  | takeRipple r n h =>
    have hentry : Memory.ChangesWithin (fun a => a = entryBase r.entry + 0) s.cue
        (Memory.write s.cue (entryBase r.entry + 0) stateTaken) :=
      changesWithin_write _ _ rfl (entryBase_add_lt (by omega))
    refine sceneGrades_of_outside hm hentry fun a ha hr => ?_
    rw [hr] at ha
    exact not_inScenes_entryBase (by omega) ha
  | @insert x rest p d g o mk tag hstack hp hnew hd hg =>
    have hrange : gradeInRange g := by
      rcases hg with hg | ⟨y, rfl⟩
      · exact hg
      · exact (hm y).1
    exact sceneGrades_of_links (sceneGrades_newScene hm hd hrange) (changesWithin_linkScene_links _ _ _ _)
  | delete =>
    exact sceneGrades_of_links hm ((changesWithin_unlinkScene_links _ _).trans (changesWithin_freeSlot_links _ _))
  | @move x p =>
    refine sceneGrades_of_links ?_ (changesWithin_linkScene_links _ _ _ _)
    refine sceneGrades_of_changesWithin (sceneGrades_of_links hm (changesWithin_unlinkScene_links _ x))
      (changesWithin_writeAll (P := fun a => slotBase x + 3 ≤ a ∧ a ≤ slotBase x + 4) _ fun c hc => ?_) ?_ ?_
    · have := slotBase_bounds x
      simp only [pairCells, List.mem_cons, List.not_mem_nil, or_false] at hc
      rcases hc with rfl | rfl <;> unfold cueSize <;> dsimp only <;> omega
    · intro y
      unfold slotBase
      omega
    · intro y k
      unfold slotBase
      omega
  | writeField h => exact sceneGrades_writeField hm h
  | clear => exact sceneGrades_of_links hm (changesWithin_clearScenes_links _ _ _ _)
  | probe i h =>
    refine sceneGrades_of_outside hm (changesWithin_writeAll (P := fun a => a < 0x1000) _ fun c hc => ?_)
      fun a ha hlt => ?_
    · have := mem_cellsFrom _ _ c hc
      have := entryBase_bounds i
      unfold cueSize; omega
    · unfold inScenes at ha; omega
  | _ => simpa using hm

theorem RequestStage.engine {s t : State} (h : RequestStage s t) : t.engine = s.engine := by
  cases h <;> simp

theorem RequestStage.latest {s t : State} (h : RequestStage s t) : t.tracker.latest = s.tracker.latest := by
  cases h with
  | delete => unfold State.leaveSlot; dsimp only; split <;> rfl
  | move => unfold State.leaveSlot; dsimp only; split <;> rfl
  | locate => rfl
  | clear => rfl
  | takeRipple => rfl
  | writeField => rfl
  | align => rfl
  | probe => rfl
  | _ => simp

theorem initialise_engine (s : State) (st : Setup) : (s.initialise st).engine = s.engine := by
  simp [State.initialise]

theorem startTracker_tracker (s : State) : s.startTracker.tracker = Tracker.initial := by
  simp [State.startTracker]

theorem initialise_tracker (s : State) (st : Setup) : (s.initialise st).tracker = Tracker.initial := by
  simp [State.initialise, startTracker_tracker]

/-- What a run start leaves of the scene table is the table laid out. -/
theorem read_initialise_scenes (s : State) (st : Setup) {a : Nat} (ha : inScenes a) :
    Memory.read (s.initialise st).cue a = Memory.read (layOutScenes s.cue) a := by
  have hlaid : ((((s.takeSetup st).setSetupFault none).layOut).startTracker).cue = layOutScenes s.cue := by
    simp [State.layOut, State.startTracker]
  rw [(changesWithin_initialise_of_aborted s st).read fun h =>
    not_inEventWords_of_inScenes ha (.inr h), ← startRequests_cue, ← hlaid]
  exact (changesWithin_startRequests _).read (not_inResults_of_inScenes ha)

theorem gradeLaw_of_reset {s : State} (hrun : s.port.run = .uninitialised) (hengine : s.engine = State.reset.engine)
    (htracker : s.tracker = Tracker.initial) : s.GradeLaw := by
  refine ⟨hengine ▸ neutral_inRange, fun h => absurd hrun h, ?_, fun _ => ?_⟩
  · rw [htracker]; exact nofun
  · rw [htracker, hengine]; exact ⟨rfl, rfl⟩

theorem Stage.gradeLaw {s t : State} (h : Stage s t) (hs : s.GradeLaw) : t.GradeLaw := by
  cases h with
  | event h => exact h.gradeLaw hs
  | request hrun h =>
    exact gradeLaw_of_eq hs h.run (h.engine ▸ rfl) (h.engine ▸ rfl) h.latest h.sceneGrades
  | initialise hrun h =>
    refine ⟨by rw [initialise_engine]; exact hs.1, fun _ x => ?_, ?_, fun hun => ?_⟩
    · have hword {k : Nat} (hk : k < 22) := read_initialise_scenes s (readSetup s.cue)
        (inScenes_of_inSceneFields (inSceneFields_add (x := x) hk))
      exact sceneGrades_of_words (sceneGrades_layOutScenes s.cue) (hword (by omega)) fun k => hword (by omega)
    · rw [initialise_tracker]; exact nofun
    · rw [initialise_run] at hun; cases hun
  | refuseBlock => exact gradeLaw_of_eq hs rfl rfl rfl rfl id
  | resume hrun => exact ⟨hs.1, fun _ => hs.2.1 (by rw [hrun]; decide), hs.2.2.1, nofun⟩
  | halt hrun => exact ⟨hs.1, fun _ => hs.2.1 (by rw [hrun]; decide), hs.2.2.1, nofun⟩
  | reset => exact gradeLaw_of_reset rfl rfl rfl

theorem sceneGrades_hostWrite {m : Memory} {a : Nat} {v : Word} (hmade : hostWriteMade m a v = true)
    (hm : SceneGrades m) : SceneGrades (Memory.write m a v) := fun x =>
  sceneGrades_of_words hm
    (read_hostWrite_other hmade (.inl (inScenes_of_inSceneFields (inSceneFields_add (by omega)))))
    fun _ => read_hostWrite_other hmade (.inl (inScenes_of_inSceneFields (inSceneFields_add (by omega))))

/-- Settles O36: every stage keeps the grades in range; a blend stays between the grades it blends. -/
theorem gradesStayInRange : Obligations.GradesStayInRange := fun _ _ hs h =>
  step_keeps (I := State.GradeLaw) (fun _ _ h => h.gradeLaw)
    (fun _ _ _ _ hmade hs => gradeLaw_of_eq hs rfl rfl rfl rfl (sceneGrades_hostWrite hmade))
    (fun _ _ _ _ _ _ => gradeLaw_of_reset rfl rfl rfl) h hs

end Sys2Proof.Proofs

/-! The scene list as a chain of links: what its scenes cover, and the links after each edit (R40 to R44, R51). -/

namespace Sys2Proof.Proofs
open Sys2Proof.Machine

/-! ### Slots as words -/

theorem natWord_slot_toNat (x : Slot) : (natWord x.val).toNat = x.val := by
  have := x.isLt
  simp only [natWord, BitVec.toNat_ofNat]
  omega

@[simp] theorem slotOfWord_natWord (x : Slot) : slotOfWord (natWord x.val) = some x := by
  unfold slotOfWord
  simp only [natWord_slot_toNat, x.isLt, dif_pos]

@[simp] theorem slotOfWord_slotWord (o : Option Slot) : slotOfWord (slotWord o) = o := by
  cases o with
  | none => rfl
  | some x => exact slotOfWord_natWord x

theorem slotOfWord_none : slotOfWord 0xFFFF = none := rfl

theorem listed_iff {m : Memory} {x : Slot} : listed m x = true ↔ slotWordAt m x 0 = 1 := beq_iff_eq

/-! ### Links -/

/-- Two slots linked both ways, the STARTs rising. -/
def Linked (m : Memory) (x y : Slot) : Prop :=
  slotWordAt m x 1 = natWord y.val ∧ slotWordAt m y 2 = natWord x.val ∧ sceneStart m x < sceneStart m y

theorem linkedRun_iff {m : Memory} {l : List Slot} :
    linkedRun m l ↔ l.IsChain (Linked m) ∧ ∀ x, l.getLast? = some x → slotWordAt m x 1 = 0xFFFF := by
  induction l with
  | nil => simp [linkedRun]
  | cons x l ih =>
    cases l with
    | nil => simp [linkedRun]
    | cons y rest =>
      rw [linkedRun, List.isChain_cons_cons, ih, List.getLast?_cons_cons]
      unfold Linked
      tauto

/-- The list is linked from the base scene, whatever the STATE words say. -/
structure ListLinks (m : Memory) (l : List Slot) : Prop where
  head : l.head? = some 0
  basePrev : slotWordAt m 0 2 = 0xFFFF
  baseStart : sceneStart m 0 = -65536
  linked : linkedRun m l
  nodup : l.Nodup
  range : ∀ x ∈ l, inRange (sceneStart m x)
  baseDissolve : sceneDissolve m 0 = 0

/-- The STATE words say which slots are on the list. -/
def StatesShow (m : Memory) (l : List Slot) : Prop := ∀ x : Slot, slotWordAt m x 0 = if x ∈ l then 1 else 0

theorem isSceneList_iff {m : Memory} {l : List Slot} : isSceneList m l ↔ ListLinks m l ∧ StatesShow m l := by
  constructor
  · rintro ⟨h1, h2, h3, h4, h5, h6, h7, h8⟩
    exact ⟨⟨h1, h2, h3, h4, h5, h7, h8⟩, h6⟩
  · rintro ⟨⟨h1, h2, h3, h4, h5, h7, h8⟩, h6⟩
    exact ⟨h1, h2, h3, h4, h5, h6, h7, h8⟩

theorem StatesShow.listed_iff {m : Memory} {l : List Slot} (h : StatesShow m l) {x : Slot} :
    listed m x = true ↔ x ∈ l := by
  rw [Proofs.listed_iff, h x]
  split <;> simp [*]

section Links
variable {m : Memory} {l : List Slot}

theorem linkedRun_split {as bs : List Slot} {x : Slot} :
    linkedRun m (as ++ x :: bs) ↔ (as ++ [x]).IsChain (Linked m) ∧ linkedRun m (x :: bs) := by
  rw [linkedRun_iff, linkedRun_iff, List.isChain_split, List.getLast?_append_of_ne_nil _ (List.cons_ne_nil x bs),
    and_assoc]

theorem sceneNext_of_linkedRun {x : Slot} {bs : List Slot} (h : linkedRun m (x :: bs)) : sceneNext m x = bs.head? := by
  unfold sceneNext
  cases bs with
  | nil => rw [show slotWordAt m x 1 = 0xFFFF from h]; rfl
  | cons y bs => rw [h.1, slotOfWord_natWord]; rfl

theorem ListLinks.next (h : ListLinks m l) {as bs : List Slot} {x : Slot} (hl : l = as ++ x :: bs) :
    sceneNext m x = bs.head? := sceneNext_of_linkedRun (linkedRun_split.mp (hl ▸ h.linked)).2

theorem ListLinks.prev_base (h : ListLinks m l) : scenePrev m 0 = none := by
  unfold scenePrev
  rw [h.basePrev, slotOfWord_none]

theorem ListLinks.prev (h : ListLinks m l) {as bs : List Slot} {p x : Slot} (hl : l = as ++ p :: x :: bs) :
    scenePrev m x = some p := by
  have hrun := (linkedRun_split.mp (hl ▸ h.linked)).2
  unfold scenePrev
  rw [hrun.2.1, slotOfWord_natWord]

theorem ListLinks.base_mem (h : ListLinks m l) : 0 ∈ l := List.mem_of_mem_head? h.head

/-- A scene other than the base comes after another. -/
theorem ListLinks.exists_pred (h : ListLinks m l) {x : Slot} (hx : x ∈ l) (hbase : x ≠ 0) :
    ∃ as p bs, l = as ++ p :: x :: bs := by
  obtain ⟨as, bs, rfl⟩ := List.append_of_mem hx
  rcases List.eq_nil_or_concat as with rfl | ⟨as, p, rfl⟩
  · exact absurd (Option.some.inj h.head) hbase
  · exact ⟨as, p, bs, by simp⟩

theorem ListLinks.next_mem (h : ListLinks m l) {x y : Slot} (hx : x ∈ l) (hy : sceneNext m x = some y) : y ∈ l := by
  obtain ⟨as, bs, rfl⟩ := List.append_of_mem hx
  rw [h.next rfl] at hy
  exact List.mem_append_right _ (List.mem_cons_of_mem _ (List.mem_of_mem_head? hy))

theorem ListLinks.prev_mem (h : ListLinks m l) {x p : Slot} (hx : x ∈ l) (hp : scenePrev m x = some p) : p ∈ l := by
  by_cases hbase : x = 0
  · subst hbase
    rw [h.prev_base] at hp
    cases hp
  · obtain ⟨as, q, bs, hl⟩ := h.exists_pred hx hbase
    rw [h.prev hl] at hp
    cases hp
    rw [hl]
    simp

theorem length_le_of_nodup (h : l.Nodup) : l.length ≤ 1024 := by
  simpa using h.length_le_card

/-- Following NEXT from a scene of the list gives the rest of the list. -/
theorem scenesFrom_of_linkedRun {x : Slot} {bs : List Slot} {fuel : Nat} (h : linkedRun m (x :: bs))
    (hfuel : bs.length < fuel) : scenesFrom m fuel x = x :: bs := by
  induction bs generalizing x fuel with
  | nil =>
    obtain ⟨fuel, rfl⟩ := Nat.exists_eq_succ_of_ne_zero (by simp at hfuel; omega : fuel ≠ 0)
    simp [scenesFrom, sceneNext_of_linkedRun h]
  | cons y bs ih =>
    obtain ⟨fuel, rfl⟩ := Nat.exists_eq_succ_of_ne_zero (by omega : fuel ≠ 0)
    simp only [scenesFrom, sceneNext_of_linkedRun h, List.head?_cons]
    obtain ⟨-, -, -, htail⟩ := h
    rw [ih htail (by simpa using hfuel)]

theorem ListLinks.exists_tail (h : ListLinks m l) : ∃ bs, l = 0 :: bs := by
  cases l with
  | nil => exact absurd h.head (by simp)
  | cons x bs => exact ⟨bs, by rw [Option.some.inj h.head]⟩

/-- The list as the part follows it is the list. -/
theorem ListLinks.sceneList (h : ListLinks m l) : sceneList m = l := by
  obtain ⟨bs, rfl⟩ := h.exists_tail
  have hlen := length_le_of_nodup h.nodup
  rw [List.length_cons] at hlen
  exact scenesFrom_of_linkedRun h.linked (by omega)

/-! ### Order and coverage (R41, R42) -/

theorem ListLinks.pairwise (h : ListLinks m l) : l.Pairwise fun x y => sceneStart m x < sceneStart m y := by
  have hchain := (linkedRun_iff.mp h.linked).1
  exact (hchain.imp fun _ _ h => h.2.2).pairwise (R := fun x y => sceneStart m x < sceneStart m y)

theorem ListLinks.covers_iff (h : ListLinks m l) {as bs : List Slot} {x : Slot} (hl : l = as ++ x :: bs) (f : Int) :
    covers m x f = true ↔ sceneStart m x ≤ f ∧ ∀ y, bs.head? = some y → f < sceneStart m y := by
  unfold covers
  rw [h.next hl]
  cases bs with
  | nil => simp
  | cons y bs => simp

/-- Of a run of scenes of which the first starts at or before a frame, one covers it. -/
theorem exists_last_start_le {x : Slot} {bs : List Slot} {f : Int} (hx : sceneStart m x ≤ f) :
    ∃ as c cs, x :: bs = as ++ c :: cs ∧ sceneStart m c ≤ f ∧ ∀ y, cs.head? = some y → f < sceneStart m y := by
  induction bs generalizing x with
  | nil => exact ⟨[], x, [], rfl, hx, nofun⟩
  | cons y bs ih =>
    by_cases hy : sceneStart m y ≤ f
    · obtain ⟨as, c, cs, heq, hc, hcs⟩ := ih hy
      exact ⟨x :: as, c, cs, by rw [heq]; rfl, hc, hcs⟩
    · refine ⟨[], x, y :: bs, rfl, hx, fun z hz => ?_⟩
      rw [← Option.some.inj hz]
      omega

theorem ListLinks.exists_covers (h : ListLinks m l) {f : Int} (hf : -65536 ≤ f) :
    ∃ as c bs, l = as ++ c :: bs ∧ covers m c f = true := by
  obtain ⟨bs, hl⟩ := h.exists_tail
  obtain ⟨as, c, cs, heq, hc, hcs⟩ := exists_last_start_le (m := m) (x := 0) (bs := bs) (f := f)
    (by rw [h.baseStart]; exact hf)
  have hsplit : l = as ++ c :: cs := hl.trans heq
  exact ⟨as, c, cs, hsplit, (h.covers_iff hsplit f).mpr ⟨hc, hcs⟩⟩

/-- Two scenes of the list that cover one frame are one. -/
theorem ListLinks.covers_unique (h : ListLinks m l) {x y : Slot} {f : Int} (hx : x ∈ l) (hy : y ∈ l)
    (hcx : covers m x f = true) (hcy : covers m y f = true) : x = y := by
  by_contra hne
  wlog hbefore : ∃ as bs, l = as ++ x :: bs ∧ y ∈ bs generalizing x y
  · refine this hy hx hcy hcx (Ne.symm hne) ?_
    obtain ⟨as, bs, rfl⟩ := List.append_of_mem hx
    rcases List.mem_append.mp hy with hy | hy
    · obtain ⟨cs, ds, rfl⟩ := List.append_of_mem hy
      exact ⟨cs, ds ++ x :: bs, by simp, by simp⟩
    · rcases List.mem_cons.mp hy with rfl | hy
      · exact absurd rfl hne
      · exact absurd ⟨as, bs, rfl, hy⟩ hbefore
  · obtain ⟨as, bs, hl, hmem⟩ := hbefore
    obtain ⟨-, hnext⟩ := (h.covers_iff hl f).mp hcx
    have hstart : sceneStart m y ≤ f := by
      unfold covers at hcy
      exact of_decide_eq_true (Bool.and_eq_true_iff.mp hcy).1
    cases bs with
    | nil => cases hmem
    | cons z bs =>
      have hz := hnext z rfl
      have horder := h.pairwise
      rw [hl, List.pairwise_append, List.pairwise_cons, List.pairwise_cons] at horder
      obtain ⟨-, ⟨-, hrest, -⟩, -⟩ := horder
      rcases List.mem_cons.mp hmem with rfl | hmem
      · omega
      · have := hrest y hmem
        omega

/-- The search finds the scene that covers a frame. -/
theorem ListLinks.coveringScene (h : ListLinks m l) {x : Slot} {f : Int} (hx : x ∈ l) (hc : covers m x f = true) :
    coveringScene m f = x := by
  unfold Machine.coveringScene
  rw [h.sceneList]
  cases hfind : l.find? fun x => covers m x f with
  | none => exact absurd hc (by simpa using List.find?_eq_none.mp hfind x hx)
  | some y =>
    exact h.covers_unique (List.mem_of_find?_eq_some hfind) hx (by simpa using List.find?_some hfind) hc

theorem ListLinks.startingAt_none (h : ListLinks m l) {f : Int} :
    startingAt m f = none ↔ ∀ x ∈ l, sceneStart m x ≠ f := by
  unfold startingAt
  rw [h.sceneList, List.find?_eq_none]
  simp

theorem ListLinks.startingAtOther_none (h : ListLinks m l) {x : Slot} {f : Int} :
    startingAtOther m x f = none ↔ ∀ y ∈ l, y ≠ x → sceneStart m y ≠ f := by
  unfold startingAtOther
  rw [h.sceneList, List.find?_eq_none]
  simp

/-- Two scenes of the list that start at one frame are one. -/
theorem ListLinks.start_inj (h : ListLinks m l) {x y : Slot} (hx : x ∈ l) (hy : y ∈ l)
    (heq : sceneStart m x = sceneStart m y) : x = y := by
  by_contra hne
  have horder : l.Pairwise fun x y => sceneStart m x ≠ sceneStart m y := h.pairwise.imp fun h => ne_of_lt h
  have hsymm : Std.Symm fun x y => sceneStart m x ≠ sceneStart m y := ⟨fun _ _ h => Ne.symm h⟩
  exact horder.forall hx hy hne heq

/-! ### Memories that agree in the links -/

theorem linked_congr {m' : Memory} {x y : Slot} (h : Linked m x y) (h1 : slotWordAt m' x 1 = slotWordAt m x 1)
    (h2 : slotWordAt m' y 2 = slotWordAt m y 2) (hx : sceneStart m' x = sceneStart m x)
    (hy : sceneStart m' y = sceneStart m y) : Linked m' x y := by
  obtain ⟨hnext, hprev, hstart⟩ := h
  exact ⟨h1.trans hnext, h2.trans hprev, by rw [hx, hy]; exact hstart⟩

theorem linkedRun_congr {m' : Memory} (h : linkedRun m l) (hnext : ∀ x ∈ l, slotWordAt m' x 1 = slotWordAt m x 1)
    (hprev : ∀ x ∈ l.tail, slotWordAt m' x 2 = slotWordAt m x 2) (hstart : ∀ x ∈ l, sceneStart m' x = sceneStart m x) :
    linkedRun m' l := by
  obtain ⟨hchain, hlast⟩ := linkedRun_iff.mp h
  refine linkedRun_iff.mpr ⟨hchain.imp_of_mem_tail_imp fun x y hx hy hxy => ?_, fun x hx => ?_⟩
  · exact linked_congr hxy (hnext x hx) (hprev y hy) (hstart x hx) (hstart y (List.mem_of_mem_tail hy))
  · rw [hnext x (List.mem_of_getLast? hx)]
    exact hlast x hx

theorem ListLinks.congr {m' : Memory} (h : ListLinks m l)
    (hword : ∀ x ∈ l, ∀ k, 1 ≤ k → k ≤ 4 → slotWordAt m' x k = slotWordAt m x k)
    (hdissolve : slotWordAt m' 0 5 = slotWordAt m 0 5) : ListLinks m' l := by
  have hstart (x : Slot) (hx : x ∈ l) : sceneStart m' x = sceneStart m x :=
    sceneStart_congr (hword x hx 3 (by omega) (by omega)) (hword x hx 4 (by omega) (by omega))
  exact {
    head := h.head
    basePrev := (hword 0 h.base_mem 2 (by omega) (by omega)).trans h.basePrev
    baseStart := (hstart 0 h.base_mem).trans h.baseStart
    linked := linkedRun_congr h.linked (fun x hx => hword x hx 1 (by omega) (by omega))
      (fun x hx => hword x (List.mem_of_mem_tail hx) 2 (by omega) (by omega)) hstart
    nodup := h.nodup
    range := fun x hx => by rw [hstart x hx]; exact h.range x hx
    baseDissolve := by unfold sceneDissolve; rw [hdissolve]; exact h.baseDissolve }

end Links

end Sys2Proof.Proofs

/-! The scene list after each edit: a scene linked, unlinked, moved, and the list cleared or laid out (R43, R51, R54,
R106 to R108, R112). -/

namespace Sys2Proof.Proofs
open Sys2Proof.Machine

section Edits
variable {m : Memory} {as bs : List Slot} {c p x : Slot}

/-- The links up to a scene stand in another memory where PREV of all of them, NEXT of those before it and the STARTs
stand. -/
theorem isChain_before {m' : Memory} (h : (as ++ [c]).IsChain (Linked m))
    (hnext : ∀ y ∈ as, slotWordAt m' y 1 = slotWordAt m y 1)
    (hprev : ∀ y ∈ as ++ [c], slotWordAt m' y 2 = slotWordAt m y 2)
    (hstart : ∀ y ∈ as ++ [c], sceneStart m' y = sceneStart m y) : (as ++ [c]).IsChain (Linked m') := by
  obtain ⟨hchain, -, hlast⟩ := List.isChain_append.mp h
  have hlink {a b : Slot} (ha : a ∈ as) (hb : b ∈ as ++ [c]) (hab : Linked m a b) : Linked m' a b :=
    linked_congr hab (hnext a ha) (hprev b hb) (hstart a (List.mem_append_left _ ha)) (hstart b hb)
  refine List.isChain_append.mpr ⟨?_, List.isChain_singleton c, fun a ha b hb => ?_⟩
  · exact hchain.imp_of_mem_imp fun a b ha hb => hlink ha (List.mem_append_left _ hb)
  · exact hlink (List.mem_of_mem_getLast? ha) (List.mem_append_right _ (List.mem_of_mem_head? hb)) (hlast a ha b hb)

/-! ### A scene linked -/

/-- The START of a scene after one is linked. -/
theorem sceneStart_linkScene {fields : List (Nat × Word)} (hf : FieldCells x fields) (pred : Slot) {y : Slot}
    (hy : y ≠ x) : sceneStart (linkScene m x pred fields) y = sceneStart m y := by
  refine sceneStart_congr ?_ ?_ <;>
    rw [slotWordAt_linkScene_field _ _ _ _ (by omega) (by omega) (by omega),
      slotWordAt_writeAll_fields hf m (by omega) (.inl hy)]

theorem sceneStart_linkScene_new {fields : List (Nat × Word)} (pred : Slot) :
    sceneStart (linkScene m x pred fields) x = sceneStart (Memory.writeAll m fields) x := by
  refine sceneStart_congr ?_ ?_ <;> exact slotWordAt_linkScene_field _ _ _ _ (by omega) (by omega) (by omega)

theorem ListLinks.link (h : ListLinks m (as ++ c :: bs)) (hx : x ∉ as ++ c :: bs) {fields : List (Nat × Word)}
    (hf : FieldCells x fields) (hp : inRange (sceneStart (Memory.writeAll m fields) x))
    (hlow : sceneStart m c < sceneStart (Memory.writeAll m fields) x)
    (hhigh : ∀ y, bs.head? = some y → sceneStart (Memory.writeAll m fields) x < sceneStart m y) :
    ListLinks (linkScene m x c fields) (as ++ c :: x :: bs) := by
  have hnext : sceneNext m c = bs.head? := h.next rfl
  have hnodup := h.nodup
  have hne {y : Slot} (hy : y ∈ as ++ c :: bs) : y ≠ x := fun heq => hx (heq ▸ hy)
  have hcx : c ≠ x := hne (by simp)
  have hsucc : sceneNext m c ≠ some x := by
    rw [hnext]
    exact fun heq => hx (List.mem_append_right _ (List.mem_cons_of_mem _ (List.mem_of_mem_head? heq)))
  have hword (y : Slot) {k : Nat} (hk : k ≤ 2 ∨ k = 7) := slotWordAt_linkScene (m := m) hf hcx hsucc y hk
  have hstart {y : Slot} (hy : y ∈ as ++ c :: bs) := sceneStart_linkScene (m := m) hf c (hne hy)
  have hnew := sceneStart_linkScene_new (m := m) (x := x) (fields := fields) c
  have hold1 {y : Slot} (hy : y ∈ as ++ c :: bs) (hyc : y ≠ c) :
      slotWordAt (linkScene m x c fields) y 1 = slotWordAt m y 1 := by
    rw [hword y (by omega), if_neg (hne hy), if_neg fun h => hyc h.1, if_neg fun h => absurd h.2 (by omega)]
  have hold2 {y : Slot} (hy : y ∈ as ++ c :: bs) (hyb : bs.head? ≠ some y) :
      slotWordAt (linkScene m x c fields) y 2 = slotWordAt m y 2 := by
    rw [hword y (by omega), if_neg (hne hy), if_neg fun h => absurd h.2 (by omega), if_neg fun h => hyb (hnext ▸ h.1)]
  obtain ⟨hbefore, hafter⟩ := linkedRun_split.mp h.linked
  have hdisjoint : ∀ y ∈ as ++ [c], y ∉ bs := fun y hy hyb => by
    rw [List.append_cons] at hnodup
    exact (List.nodup_append.mp hnodup).2.2 y hy y hyb rfl
  have hasc : c ∉ as := fun hc => by
    have := (List.nodup_append.mp hnodup).2.2 c hc c (List.mem_cons_self ..)
    exact this rfl
  have hmem {y : Slot} (hy : y ∈ as ++ [c]) : y ∈ as ++ c :: bs := by
    rw [List.append_cons]
    exact List.mem_append_left _ hy
  have hlinked : linkedRun (linkScene m x c fields) (as ++ c :: x :: bs) := by
    refine linkedRun_split.mpr ⟨isChain_before hbefore (fun y hy => ?_) (fun y hy => ?_) fun y hy => hstart (hmem hy), ?_⟩
    · exact hold1 (List.mem_append_left _ hy) fun heq => hasc (heq ▸ hy)
    · exact hold2 (hmem hy) fun heq => hdisjoint y hy (List.mem_of_mem_head? heq)
    · refine ⟨?_, ?_, by rwa [hnew, hstart (by simp)], ?_⟩
      · rw [hword c (by omega), if_neg hcx, if_pos ⟨rfl, rfl⟩]; rfl
      · rw [hword x (by omega), if_pos rfl]; rfl
      · cases bs with
        | nil =>
          change slotWordAt _ x 1 = 0xFFFF
          rw [hword x (by omega), if_pos rfl, hnext]; rfl
        | cons y bs =>
          refine ⟨?_, ?_, by rw [hnew, hstart (by simp)]; exact hhigh y rfl, ?_⟩
          · rw [hword x (by omega), if_pos rfl, hnext]; rfl
          · rw [hword y (by omega), if_neg (hne (by simp)), if_neg fun h => absurd h.2 (by omega),
              if_pos ⟨hnext, rfl⟩]; rfl
          · have hyb : y ∉ bs := by
              have := (List.nodup_append.mp hnodup).2.1
              exact (List.nodup_cons.mp (List.nodup_cons.mp this).2).1
            obtain ⟨-, -, -, htail⟩ := hafter
            refine linkedRun_congr htail (fun z hz => ?_) (fun z hz => ?_) fun z hz => ?_
            · exact hold1 (by simp_all) fun heq => hdisjoint c (by simp) (heq ▸ hz)
            · refine hold2 (by simp at hz; simp [hz]) fun heq => hyb ?_
              rw [Option.some.inj heq]
              exact hz
            · exact hstart (by simp_all)
  have hbase : (0 : Slot) ∈ as ++ c :: bs := h.base_mem
  exact {
    head := by
      have hhead := h.head
      cases as <;> simpa using hhead
    basePrev := by
      rw [hold2 hbase fun heq => ?_, h.basePrev]
      cases bs with
      | nil => cases heq
      | cons y bs =>
        obtain rfl := Option.some.inj heq
        exact absurd (h.prev (as := as) (p := c) (bs := bs) rfl) (by rw [h.prev_base]; exact nofun)
    baseStart := (hstart hbase).trans h.baseStart
    linked := hlinked
    nodup := by
      have hperm : (as ++ c :: x :: bs).Perm (x :: (as ++ c :: bs)) := by
        rw [List.append_cons, List.append_cons as c bs]
        exact List.perm_middle
      exact hperm.nodup_iff.mpr (List.nodup_cons.mpr ⟨hx, hnodup⟩)
    range := fun y hy => by
      by_cases hyx : y = x
      · rw [hyx, hnew]; exact hp
      · have hmem : y ∈ as ++ c :: bs := by simp_all
        rw [hstart hmem]
        exact h.range y hmem
    baseDissolve := by
      unfold sceneDissolve
      rw [slotWordAt_linkScene_field _ _ _ _ (by omega) (by omega) (by omega),
        slotWordAt_writeAll_fields hf m (by omega) (.inl (hne hbase))]
      exact h.baseDissolve }

/-! ### A scene unlinked -/

theorem ListLinks.unlink (h : ListLinks m (as ++ p :: x :: bs)) : ListLinks (unlinkScene m x) (as ++ p :: bs) := by
  have hprev : scenePrev m x = some p := h.prev rfl
  have hnext : sceneNext m x = bs.head? := h.next (as := as ++ [p]) (by simp)
  have hnodup := h.nodup
  have hword (y : Slot) {k : Nat} (hk : k < 32) := slotWordAt_unlinkScene m x y hk
  have hstart (y : Slot) : sceneStart (unlinkScene m x) y = sceneStart m y :=
    sceneStart_congr
      (slotWordAt_of_changesWithin (changesWithin_unlinkScene_links m x) (not_inLinkWords (by omega) (by omega) (by omega)))
      (slotWordAt_of_changesWithin (changesWithin_unlinkScene_links m x) (not_inLinkWords (by omega) (by omega) (by omega)))
  have hold1 {y : Slot} (hyp : y ≠ p) : slotWordAt (unlinkScene m x) y 1 = slotWordAt m y 1 := by
    rw [hword y (by omega), if_neg fun h => absurd h.2 (by omega), if_neg fun h => hyp ?_]
    exact Option.some.inj (h.1.symm.trans hprev)
  have hold2 {y : Slot} (hyb : bs.head? ≠ some y) : slotWordAt (unlinkScene m x) y 2 = slotWordAt m y 2 := by
    rw [hword y (by omega), if_neg fun h => hyb (hnext ▸ h.1), if_neg fun h => absurd h.2 (by omega)]
  obtain ⟨hbefore, hafter⟩ := linkedRun_split.mp h.linked
  have hnodup' := hnodup
  rw [List.append_cons] at hnodup'
  obtain ⟨hnodupBefore, hnodupAfter, hdisjoint⟩ := List.nodup_append.mp hnodup'
  have hpas : p ∉ as := fun hp => (List.nodup_append.mp hnodupBefore).2.2 p hp p (by simp) rfl
  have hlinked : linkedRun (unlinkScene m x) (as ++ p :: bs) := by
    refine linkedRun_split.mpr ⟨isChain_before hbefore (fun y hy => ?_) (fun y hy => ?_) fun y _ => hstart y, ?_⟩
    · exact hold1 fun heq => hpas (heq ▸ hy)
    · exact hold2 fun heq => hdisjoint y hy y (List.mem_cons_of_mem _ (List.mem_of_mem_head? heq)) rfl
    · have hpnext : slotWordAt (unlinkScene m x) p 1 = slotWord bs.head? := by
        rw [hword p (by omega), if_neg fun h => absurd h.2 (by omega), if_pos ⟨hprev, rfl⟩, hnext]
      cases bs with
      | nil => exact hpnext
      | cons y bs =>
        obtain ⟨-, -, hpx, -, -, hxy, htail⟩ := hafter
        refine ⟨hpnext, ?_, ?_, ?_⟩
        · rw [hword y (by omega), if_pos ⟨hnext, rfl⟩, hprev]; rfl
        · rw [hstart, hstart]
          exact hpx.trans hxy
        · have hyb : y ∉ bs := (List.nodup_cons.mp (List.nodup_cons.mp hnodupAfter).2).1
          refine linkedRun_congr htail (fun z hz => ?_) (fun z hz => ?_) fun z _ => hstart z
          · exact hold1 fun heq => hdisjoint p (by simp) p (heq ▸ List.mem_cons_of_mem _ hz) rfl
          · refine hold2 fun heq => hyb ?_
            rw [Option.some.inj heq]
            exact hz
  have hsub : (as ++ p :: bs).Sublist (as ++ p :: x :: bs) :=
    (List.Sublist.refl as).append (.cons_cons p (List.sublist_cons_self x bs))
  exact {
    head := by
      have hhead := h.head
      cases as <;> simpa using hhead
    basePrev := by
      rw [hold2 fun heq => ?_, h.basePrev]
      cases bs with
      | nil => cases heq
      | cons y bs =>
        obtain rfl := Option.some.inj heq
        exact absurd (h.prev (as := as ++ [p]) (p := x) (x := 0) (bs := bs) (by simp)) (by rw [h.prev_base]; exact nofun)
    baseStart := (hstart 0).trans h.baseStart
    linked := hlinked
    nodup := hnodup.sublist hsub
    range := fun y hy => by rw [hstart]; exact h.range y (hsub.subset hy)
    baseDissolve := by
      unfold sceneDissolve
      rw [slotWordAt_of_changesWithin (changesWithin_unlinkScene_links m x)
        (not_inLinkWords (by omega) (by omega) (by omega))]
      exact h.baseDissolve }

/-- The words of a scene that is unlinked stand. -/
theorem slotWordAt_unlinkScene_self (h : ListLinks m (as ++ p :: x :: bs)) {k : Nat} (hk : k < 32) :
    slotWordAt (unlinkScene m x) x k = slotWordAt m x k := by
  have hnodup := h.nodup
  rw [List.append_cons] at hnodup
  obtain ⟨-, hafter, hdisjoint⟩ := List.nodup_append.mp hnodup
  rw [slotWordAt_unlinkScene m x x hk, if_neg, if_neg]
  · rintro ⟨hprev, -⟩
    rw [h.prev rfl] at hprev
    exact hdisjoint p (by simp) x (by simp) (Option.some.inj hprev)
  · rintro ⟨hnext, -⟩
    rw [h.next (as := as ++ [p]) (bs := bs) (by simp)] at hnext
    exact (List.nodup_cons.mp hafter).1 (List.mem_of_mem_head? hnext)

theorem slotWordAt_unlinkScene_state (m : Memory) (x y : Slot) : slotWordAt (unlinkScene m x) y 0 = slotWordAt m y 0 := by
  rw [slotWordAt_unlinkScene m x y (by omega), if_neg fun h => absurd h.2 (by omega),
    if_neg fun h => absurd h.2 (by omega)]

theorem ListLinks.freeSlot {l : List Slot} (h : ListLinks m l) (x : Slot) : ListLinks (freeSlot m x) l :=
  h.congr (fun y _ k h1 h4 => by rw [slotWordAt_freeSlot m x y (by omega), if_neg fun h => by omega])
    (by rw [slotWordAt_freeSlot m x 0 (by omega), if_neg fun h => absurd h.2 (by omega)])

/-- The list after a scene is deleted. -/
theorem isSceneList_delete (h : isSceneList m (as ++ p :: x :: bs)) :
    isSceneList (freeSlot (unlinkScene m x) x) (as ++ p :: bs) := by
  obtain ⟨hlinks, hstates⟩ := isSceneList_iff.mp h
  refine isSceneList_iff.mpr ⟨hlinks.unlink.freeSlot x, fun y => ?_⟩
  rw [slotWordAt_freeSlot _ _ _ (by omega), slotWordAt_unlinkScene_state, hstates y]
  have hnodup := hlinks.nodup
  rw [List.append_cons] at hnodup
  obtain ⟨-, hafter, hdisjoint⟩ := List.nodup_append.mp hnodup
  by_cases hyx : y = x
  · subst hyx
    have hout : y ∉ as ++ p :: bs := by
      rw [List.append_cons]
      rintro hmem
      rcases List.mem_append.mp hmem with hmem | hmem
      · exact hdisjoint y hmem y (by simp) rfl
      · exact (List.nodup_cons.mp hafter).1 hmem
    rw [if_pos ⟨rfl, rfl⟩, if_neg hout]
  · rw [if_neg fun h => hyx h.1]
    simp [hyx]

/-! ### Placing a scene -/

/-- Where a new START goes: the scene that covers it starts before it, the next one after it. -/
theorem ListLinks.exists_place {l : List Slot} (h : ListLinks m l) {f : Int} (hf : inRange f)
    (hnew : ∀ y ∈ l, sceneStart m y ≠ f) :
    ∃ as c bs, l = as ++ c :: bs ∧ covers m c f = true ∧ Machine.coveringScene m f = c ∧ sceneStart m c < f ∧
      ∀ y, bs.head? = some y → f < sceneStart m y := by
  obtain ⟨as, c, bs, rfl, hc⟩ := h.exists_covers hf.1
  have hmem : c ∈ as ++ c :: bs := by simp
  obtain ⟨hle, hnext⟩ := (h.covers_iff rfl f).mp hc
  have hlt : sceneStart m c < f := lt_of_le_of_ne hle (hnew c hmem)
  exact ⟨as, c, bs, rfl, hc, h.coveringScene hmem hc, hlt, hnext⟩

/-- The STATE words after a scene is linked. -/
theorem statesShow_link {fields : List (Nat × Word)} (hf : FieldCells x fields) (hcx : c ≠ x)
    (hsucc : sceneNext m c ≠ some x)
    (hstates : ∀ y, y ≠ x → slotWordAt m y 0 = if y ∈ as ++ c :: bs then 1 else 0) :
    StatesShow (linkScene m x c fields) (as ++ c :: x :: bs) := by
  intro y
  rw [slotWordAt_linkScene hf hcx hsucc y (by omega)]
  by_cases hyx : y = x
  · simp [hyx]
  · have hmem : y ∈ as ++ c :: x :: bs ↔ y ∈ as ++ c :: bs := by simp [hyx]
    rw [if_neg hyx, if_neg fun h => absurd h.2 (by omega), if_neg fun h => absurd h.2 (by omega), hstates y hyx]
    simp only [hmem]

/-- The list after a scene is linked at a free START in a slot off the list. -/
theorem isSceneList_link {fields : List (Nat × Word)} {f : Int} (h : ListLinks m (as ++ c :: bs))
    (hstates : ∀ y, y ≠ x → slotWordAt m y 0 = if y ∈ as ++ c :: bs then 1 else 0) (hx : x ∉ as ++ c :: bs)
    (hf : FieldCells x fields) (hstart : sceneStart (Memory.writeAll m fields) x = f) (hrange : inRange f)
    (hlow : sceneStart m c < f) (hhigh : ∀ y, bs.head? = some y → f < sceneStart m y) :
    isSceneList (linkScene m x c fields) (as ++ c :: x :: bs) := by
  subst hstart
  have hcx : c ≠ x := fun heq => hx (by simp [heq])
  have hsucc : sceneNext m c ≠ some x := by
    rw [h.next rfl]
    exact fun heq => hx (List.mem_append_right _ (List.mem_cons_of_mem _ (List.mem_of_mem_head? heq)))
  exact isSceneList_iff.mpr ⟨h.link hx hf hrange hlow hhigh, statesShow_link hf hcx hsucc hstates⟩

end Edits

end Sys2Proof.Proofs

/-! The law of the scene list, stage by stage (R40 to R44, R56, R65, R112, R133). -/

namespace Sys2Proof.Proofs
open Sys2Proof.Machine

/-! ### The law after an edit -/

section Law
variable {m : Memory} {free : List Slot}

theorem isSceneList_congr {m' : Memory} {l : List Slot} (h : isSceneList m l)
    (hword : ∀ (x : Slot) (k : Nat), k ≤ 4 → slotWordAt m' x k = slotWordAt m x k)
    (hdissolve : slotWordAt m' 0 5 = slotWordAt m 0 5) : isSceneList m' l := by
  obtain ⟨hlinks, hstates⟩ := isSceneList_iff.mp h
  exact isSceneList_iff.mpr ⟨hlinks.congr (fun x _ k _ => hword x k) hdissolve,
    fun x => (hword x 0 (by omega)).trans (hstates x)⟩

theorem law_congr {m' : Memory} (h : sceneListLaw m free)
    (hword : ∀ (x : Slot) (k : Nat), k ≤ 4 → slotWordAt m' x k = slotWordAt m x k)
    (hdissolve : slotWordAt m' 0 5 = slotWordAt m 0 5) : sceneListLaw m' free := by
  obtain ⟨l, hl, hfree⟩ := h
  exact ⟨l, isSceneList_congr hl hword hdissolve, hfree⟩

theorem law_of_outside {P : Nat → Prop} {m' : Memory} (h : sceneListLaw m free) (hm : Memory.ChangesWithin P m m')
    (hP : ∀ a, inScenes a → ¬P a) : sceneListLaw m' free :=
  law_congr h
    (fun _ _ hk => slotWordAt_of_changesWithin hm (hP _ (inScenes_of_inSceneFields (inSceneFields_add (by omega)))))
    (slotWordAt_of_changesWithin hm (hP _ (inScenes_of_inSceneFields (inSceneFields_add (by omega)))))

/-- The list before and after a scene is linked at a free START in the slot on top of the stack. -/
theorem exists_list_link {x : Slot} {f : Int} {fields : List (Nat × Word)} (h : sceneListLaw m (x :: free))
    (hfields : FieldCells x fields) (hstart : sceneStart (Memory.writeAll m fields) x = f) (hrange : inRange f)
    (hnew : ∀ y : Slot, listed m y = true → sceneStart m y ≠ f) :
    ∃ as c bs, isSceneList m (as ++ c :: bs) ∧ coveringScene m f = c ∧ covers m c f = true ∧ x ∉ as ++ c :: bs ∧
      isSceneList (linkScene m x (coveringScene m f) fields) (as ++ c :: x :: bs) ∧
      sceneListLaw (linkScene m x (coveringScene m f) fields) free := by
  obtain ⟨l, hl, hnodup, hmem⟩ := h
  obtain ⟨hlinks, hstates⟩ := isSceneList_iff.mp hl
  obtain ⟨as, c, bs, rfl, hcovers, hcover, hlow, hhigh⟩ :=
    hlinks.exists_place hrange fun y hy => hnew y (hstates.listed_iff.mpr hy)
  obtain ⟨hxfree, hfree⟩ := List.nodup_cons.mp hnodup
  have hx : x ∉ as ++ c :: bs := (hmem x).mp (List.mem_cons_self ..)
  have hlist := isSceneList_link hlinks (fun y _ => hstates y) hx hfields hstart hrange hlow hhigh
  rw [hcover]
  refine ⟨as, c, bs, hl, rfl, hcovers, hx, hlist, as ++ c :: x :: bs, hlist, hfree, fun y => ?_⟩
  have hy := hmem y
  by_cases hyx : y = x
  · subst hyx
    exact ⟨fun h => absurd h hxfree, fun h => absurd (by simp) h⟩
  · simp only [List.mem_cons, hyx, false_or] at hy
    rw [hy]
    simp [hyx]

/-- A scene unlinked, its slot pushed. -/
theorem law_delete {x : Slot} (h : sceneListLaw m free) (hx : x ≠ 0) (hlisted : listed m x = true) :
    sceneListLaw (freeSlot (unlinkScene m x) x) (x :: free) := by
  obtain ⟨l, hl, hnodup, hmem⟩ := h
  obtain ⟨hlinks, hstates⟩ := isSceneList_iff.mp hl
  have hxl := hstates.listed_iff.mp hlisted
  obtain ⟨as, p, bs, rfl⟩ := hlinks.exists_pred hxl hx
  have hdeleted := isSceneList_delete hl
  refine ⟨as ++ p :: bs, hdeleted, List.nodup_cons.mpr ⟨fun h => (hmem x).mp h hxl, hnodup⟩, fun y => ?_⟩
  have hstate := (isSceneList_iff.mp hdeleted).2 y
  rw [slotWordAt_freeSlot _ _ _ (by omega), slotWordAt_unlinkScene_state, hstates y] at hstate
  by_cases hyx : y = x
  · subst hyx
    rw [if_pos ⟨rfl, rfl⟩] at hstate
    refine ⟨fun _ hmem => ?_, fun _ => List.mem_cons_self ..⟩
    rw [if_pos hmem] at hstate
    cases hstate
  · rw [List.mem_cons, hmem y]
    simp [hyx]

theorem fieldCells_pairStart (x : Slot) (v : DWord) : FieldCells x (pairCells (slotBase x + 3) v) := by
  intro c hc
  simp only [pairCells, List.mem_cons, List.not_mem_nil, or_false] at hc
  rcases hc with rfl | rfl
  · exact ⟨3, by omega, by omega, by omega, rfl⟩
  · exact ⟨4, by omega, by omega, by omega, rfl⟩

theorem signedDWord_toInt {v : Int} (h : inRange v) : (signedDWord v).toInt = v := by
  unfold inRange at h
  unfold signedDWord
  rw [BitVec.toInt_ofInt, Int.bmod_def]
  omega

theorem sceneStart_of_words {x : Slot} {v : Int} (hv : inRange v) (h3 : slotWordAt m x 3 = highWord (signedDWord v))
    (h4 : slotWordAt m x 4 = lowWord (signedDWord v)) : sceneStart m x = v := by
  have hpair : Memory.readPair m (slotBase x + 3) = signedDWord v := readPair_of_words h3 h4
  unfold sceneStart
  rw [hpair, signedDWord_toInt hv]

theorem sceneStart_pairStart (m : Memory) (x : Slot) {f : Int} (hf : inRange f) :
    sceneStart (Memory.writeAll m (pairCells (slotBase x + 3) (signedDWord f))) x = f := by
  have hdistinct : (pairCells (slotBase x + 3) (signedDWord f)).Pairwise fun c d => c.1 ≠ d.1 := by simp [pairCells]
  exact sceneStart_of_words hf
    (Memory.read_writeAll_mem m _ (slotBase x + 3, highWord (signedDWord f)) (by simp [pairCells]) hdistinct)
    (Memory.read_writeAll_mem m _ (slotBase x + 3 + 1, lowWord (signedDWord f)) (by simp [pairCells]) hdistinct)

theorem sceneStart_newScene (m : Memory) {x : Slot} {p d : Int} {o mk : Word} {b : Bool} {v : DWord} {g : Grade}
    (hp : inRange p) : sceneStart (Memory.writeAll m (newSceneCells x p d o mk b v g)) x = p :=
  sceneStart_of_words hp (slotWordAt_newScene m (by simp [newSceneCells, pairCells]))
    (slotWordAt_newScene m (by simp [newSceneCells, pairCells]))

/-- The list after a scene is moved to a free START. -/
theorem exists_list_moveSceneTo {x : Slot} {as bs : List Slot} {p : Slot} {f : Int}
    (h : isSceneList m (as ++ p :: x :: bs)) (hrange : inRange f)
    (hnew : ∀ y ∈ as ++ p :: bs, sceneStart m y ≠ f) :
    ∃ as' c bs', as ++ p :: bs = as' ++ c :: bs' ∧ coveringScene (unlinkScene m x) f = c ∧
      isSceneList (moveSceneTo m x f) (as' ++ c :: x :: bs') ∧ c ≠ x ∧ sceneNext (unlinkScene m x) c ≠ some x := by
  obtain ⟨hlinks, hstates⟩ := isSceneList_iff.mp h
  have hunlinked := hlinks.unlink
  have hnodup := hlinks.nodup
  have hout : x ∉ as ++ p :: bs := by
    have hperm : (as ++ p :: x :: bs).Perm (x :: (as ++ p :: bs)) := by
      rw [List.append_cons, List.append_cons as p bs]
      exact List.perm_middle
    exact (List.nodup_cons.mp (hperm.nodup_iff.mp hnodup)).1
  have hstart (y : Slot) : sceneStart (unlinkScene m x) y = sceneStart m y :=
    sceneStart_congr
      (slotWordAt_of_changesWithin (changesWithin_unlinkScene_links m x) (not_inLinkWords (by omega) (by omega) (by omega)))
      (slotWordAt_of_changesWithin (changesWithin_unlinkScene_links m x) (not_inLinkWords (by omega) (by omega) (by omega)))
  obtain ⟨as', c, bs', heq, -, hcover, hlow, hhigh⟩ :=
    hunlinked.exists_place hrange fun y hy => by rw [hstart]; exact hnew y hy
  refine ⟨as', c, bs', heq, hcover, ?_, fun h => hout (by rw [heq, h]; simp), fun h => hout ?_⟩
  · unfold moveSceneTo
    dsimp only
    rw [hcover]
    refine isSceneList_link (heq ▸ hunlinked) (fun y hy => ?_) (heq ▸ hout) (fieldCells_pairStart x _)
      (sceneStart_pairStart _ x hrange) hrange hlow hhigh
    rw [slotWordAt_unlinkScene_state, hstates y, ← heq]
    simp [hy]
  · exact hunlinked.next_mem (heq ▸ List.mem_append_right _ (List.mem_cons_self ..)) h

theorem law_move {x : Slot} {f : Int} (h : sceneListLaw m free) (hx : x ≠ 0) (hlisted : listed m x = true)
    (hrange : inRange f) (hnew : ∀ y : Slot, listed m y = true → y ≠ x → sceneStart m y ≠ f) :
    sceneListLaw (moveSceneTo m x f) free := by
  obtain ⟨l, hl, hnodup, hmem⟩ := h
  obtain ⟨hlinks, hstates⟩ := isSceneList_iff.mp hl
  obtain ⟨as, p, bs, rfl⟩ := hlinks.exists_pred (hstates.listed_iff.mp hlisted) hx
  have hperm : (as ++ p :: x :: bs).Perm (x :: (as ++ p :: bs)) := by
    rw [List.append_cons, List.append_cons as p bs]
    exact List.perm_middle
  have hout : x ∉ as ++ p :: bs := (List.nodup_cons.mp (hperm.nodup_iff.mp hlinks.nodup)).1
  obtain ⟨as', c, bs', heq, -, hmoved, -⟩ := exists_list_moveSceneTo hl hrange fun y hy =>
    hnew y (hstates.listed_iff.mpr (hperm.mem_iff.mpr (List.mem_cons_of_mem _ hy))) fun h => hout (h ▸ hy)
  refine ⟨_, hmoved, hnodup, fun y => ?_⟩
  have hperm' : (as' ++ c :: x :: bs').Perm (x :: (as' ++ c :: bs')) := by
    rw [List.append_cons, List.append_cons as' c bs']
    exact List.perm_middle
  rw [hmem y, hperm.mem_iff, hperm'.mem_iff, heq]

theorem law_clear (h : sceneListLaw m free) (fuel n : Nat) :
    sceneListLaw (clearScenes fuel m free n).1 (clearScenes fuel m free n).2.1 := by
  induction fuel generalizing m free n with
  | zero => exact h
  | succ fuel ih =>
    unfold clearScenes
    split
    · next x hx =>
      obtain ⟨l, hl, -, -⟩ := id h
      obtain ⟨hlinks, hstates⟩ := isSceneList_iff.mp hl
      refine ih (law_delete h (fun hbase => ?_) (hstates.listed_iff.mpr (hlinks.next_mem hlinks.base_mem hx))) _
      obtain ⟨bs, rfl⟩ := hlinks.exists_tail
      rw [hbase, hlinks.next (as := []) (x := 0) (bs := bs) rfl] at hx
      exact (List.nodup_cons.mp hlinks.nodup).1 (List.mem_of_mem_head? hx)
    · exact h

end Law

/-! ### The list laid out -/

theorem mem_fullFreeStack {x : Slot} : x ∈ fullFreeStack ↔ x ≠ 0 := by
  unfold fullFreeStack
  rw [List.mem_map]
  constructor
  · rintro ⟨i, hi, rfl⟩ heq
    have := List.mem_range.mp hi
    have hval := congrArg Fin.val heq
    simp only [Fin.ofNat, Fin.val_zero] at hval
    omega
  · intro hx
    have hpos : x.val ≠ 0 := fun h => hx (Fin.ext h)
    have := x.isLt
    refine ⟨x.val - 1, List.mem_range.mpr (by omega), Fin.ext ?_⟩
    simp only [Fin.ofNat]
    omega

theorem nodup_fullFreeStack : fullFreeStack.Nodup := by
  unfold fullFreeStack
  refine List.Nodup.map_on (fun i hi j hj heq => ?_) List.nodup_range
  have hi := List.mem_range.mp hi
  have hj := List.mem_range.mp hj
  have hval := congrArg Fin.val heq
  simp only [Fin.ofNat] at hval
  omega

theorem isSceneList_layOutScenes (m : Memory) : isSceneList (layOutScenes m) [0] := by
  have h0 := slotWordAt_layOutScenes_mem m (k := 0) (w := 1) (by decide)
  have h1 := slotWordAt_layOutScenes_mem m (k := 1) (w := 0xFFFF) (by decide)
  have h2 := slotWordAt_layOutScenes_mem m (k := 2) (w := 0xFFFF) (by decide)
  have h3 := slotWordAt_layOutScenes_mem m (k := 3) (w := 0xFFFF) (by decide)
  have h4 := slotWordAt_layOutScenes_base m (k := 4) (by omega) (by decide)
  have h5 := slotWordAt_layOutScenes_base m (k := 5) (by omega) (by decide)
  have hstart : sceneStart (layOutScenes m) 0 = -65536 := sceneStart_of_words ⟨by omega, by omega⟩ h3 h4
  refine ⟨rfl, h2, hstart, h1, List.nodup_singleton 0, fun x => ?_, fun x hx => ?_, ?_⟩
  · by_cases hx : x = 0
    · simp only [hx, h0, List.mem_singleton, if_true]
    · rw [slotWordAt_layOutScenes_of_ne m (by omega) hx, if_neg (by simpa using hx)]
  · rw [List.mem_singleton.mp hx, hstart]
    exact ⟨by omega, by omega⟩
  · rw [sceneDissolve, h5]
    rfl

theorem law_layOutScenes (m : Memory) : sceneListLaw (layOutScenes m) fullFreeStack :=
  ⟨[0], isSceneList_layOutScenes m, nodup_fullFreeStack, fun x => by rw [mem_fullFreeStack, List.mem_singleton]⟩

end Sys2Proof.Proofs

/-! The law of the scene list at every step, and what it says of coverage and of the walk (R42, R44, R58). -/

namespace Sys2Proof.Proofs
open Sys2Proof.Machine

/-! ### The tracker's current slot -/

theorem walk_listed {m : Memory} {l : List Slot} (h : isSceneList m l) (f : Int) (fuel : Nat) {c : Slot} (steps : Nat)
    (hc : c ∈ l) : (walk m f fuel c steps).1 ∈ l := by
  obtain ⟨hlinks, -⟩ := isSceneList_iff.mp h
  have hstep {c : Slot} (hc : c ∈ l) : walkStep m f c ∈ l := by
    unfold walkStep
    split
    · cases hp : scenePrev m c with
      | none => exact hc
      | some p => exact hlinks.prev_mem hc hp
    · cases hn : sceneNext m c with
      | none => exact hc
      | some y => exact hlinks.next_mem hc hn
  induction fuel generalizing c steps with
  | zero => exact hc
  | succ fuel ih =>
    unfold walk
    split
    · exact hc
    · exact ih _ (hstep hc)

theorem mem_of_law {m : Memory} {l : List Slot} (h : isSceneList m l) {x : Slot} :
    listed m x = true ↔ x ∈ l := (isSceneList_iff.mp h).2.listed_iff

/-- The law of the list, and the current slot is listed. -/
def ListHolds (m : Memory) (free : List Slot) (current : Slot) : Prop :=
  sceneListLaw m free ∧ listed m current = true

section Holds
variable {m : Memory} {free : List Slot} {current : Slot}

theorem listHolds_congr {m' : Memory} (h : ListHolds m free current)
    (hword : ∀ (x : Slot) (k : Nat), k ≤ 4 → slotWordAt m' x k = slotWordAt m x k)
    (hdissolve : slotWordAt m' 0 5 = slotWordAt m 0 5) : ListHolds m' free current :=
  ⟨law_congr h.1 hword hdissolve, listed_iff.mpr ((hword current 0 (by omega)).trans (listed_iff.mp h.2))⟩

theorem listHolds_of_outside {P : Nat → Prop} {m' : Memory} (h : ListHolds m free current)
    (hm : Memory.ChangesWithin P m m') (hP : ∀ a, inScenes a → ¬P a) : ListHolds m' free current :=
  listHolds_congr h
    (fun _ _ hk => slotWordAt_of_changesWithin hm (hP _ (inScenes_of_inSceneFields (inSceneFields_add (by omega)))))
    (slotWordAt_of_changesWithin hm (hP _ (inScenes_of_inSceneFields (inSceneFields_add (by omega)))))

theorem listHolds_walk (h : ListHolds m free current) (f : Int) (fuel steps : Nat) :
    ListHolds m free (walk m f fuel current steps).1 := by
  obtain ⟨⟨l, hl, hfree⟩, hcurrent⟩ := h
  have hstates := (isSceneList_iff.mp hl).2
  exact ⟨⟨l, hl, hfree⟩, hstates.listed_iff.mpr (walk_listed hl f fuel steps (hstates.listed_iff.mp hcurrent))⟩

theorem listHolds_link {x : Slot} {f : Int} {fields : List (Nat × Word)} (h : ListHolds m (x :: free) current)
    (hfields : FieldCells x fields) (hstart : sceneStart (Memory.writeAll m fields) x = f) (hrange : inRange f)
    (hnew : startingAt m f = none) : ListHolds (linkScene m x (coveringScene m f) fields) free current := by
  obtain ⟨hlaw, hcurrent⟩ := h
  have hnew' (y : Slot) (hy : listed m y = true) : sceneStart m y ≠ f := by
    obtain ⟨l, hl, -⟩ := hlaw
    obtain ⟨hlinks, hstates⟩ := isSceneList_iff.mp hl
    exact hlinks.startingAt_none.mp hnew y (hstates.listed_iff.mp hy)
  obtain ⟨as, c, bs, hl, -, -, -, hlist, hlaw'⟩ := exists_list_link hlaw hfields hstart hrange hnew'
  refine ⟨hlaw', (isSceneList_iff.mp hlist).2.listed_iff.mpr ?_⟩
  have := (isSceneList_iff.mp hl).2.listed_iff.mp hcurrent
  simp only [List.mem_append, List.mem_cons] at this ⊢
  tauto

/-- The predecessor of a listed scene other than the base. -/
theorem exists_prev (h : sceneListLaw m free) {x : Slot} (hx : x ≠ 0) (hlisted : listed m x = true) :
    ∃ p, scenePrev m x = some p ∧ listed m p = true ∧ p ≠ x := by
  obtain ⟨l, hl, -⟩ := h
  obtain ⟨hlinks, hstates⟩ := isSceneList_iff.mp hl
  obtain ⟨as, p, bs, heq⟩ := hlinks.exists_pred (hstates.listed_iff.mp hlisted) hx
  refine ⟨p, hlinks.prev heq, hstates.listed_iff.mpr (by rw [heq]; simp), fun h => ?_⟩
  have hnodup := hlinks.nodup
  rw [heq, h] at hnodup
  have := (List.nodup_append.mp hnodup).2.1
  simp at this

theorem listed_freeSlot_unlinkScene (m : Memory) (x y : Slot) :
    listed (freeSlot (unlinkScene m x) x) y = true ↔ listed m y = true ∧ y ≠ x := by
  rw [listed_iff, listed_iff, slotWordAt_freeSlot _ _ _ (by omega), slotWordAt_unlinkScene_state]
  by_cases hyx : y = x <;> simp [hyx]

theorem listHolds_delete {x : Slot} (h : ListHolds m free current) (hx : x ≠ 0) (hlisted : listed m x = true) :
    ListHolds (freeSlot (unlinkScene m x) x) (x :: free)
      (if current = x then (scenePrev m x).getD 0 else current) := by
  refine ⟨law_delete h.1 hx hlisted, (listed_freeSlot_unlinkScene _ _ _).mpr ?_⟩
  split
  · obtain ⟨p, hp, hlistedp, hne⟩ := exists_prev h.1 hx hlisted
    rw [hp]
    exact ⟨hlistedp, hne⟩
  · next hne => exact ⟨h.2, hne⟩

theorem listed_moveSceneTo {x : Slot} {f : Int} (h : sceneListLaw m free) (hx : x ≠ 0) (hlisted : listed m x = true)
    (hrange : inRange f) (hnew : ∀ y : Slot, listed m y = true → y ≠ x → sceneStart m y ≠ f) (y : Slot) :
    listed (moveSceneTo m x f) y = true ↔ listed m y = true := by
  obtain ⟨l', hl', -, hmem'⟩ := law_move h hx hlisted hrange hnew
  obtain ⟨l, hl, -, hmem⟩ := h
  rw [(isSceneList_iff.mp hl').2.listed_iff, (isSceneList_iff.mp hl).2.listed_iff]
  exact not_iff_not.mp ((hmem' y).symm.trans (hmem y))

theorem listHolds_move {x : Slot} {f : Int} (h : ListHolds m free current) (hx : x ≠ 0) (hlisted : listed m x = true)
    (hrange : inRange f) (hnew : startingAtOther m x f = none) :
    ListHolds (moveSceneTo m x f) free (if current = x then (scenePrev m x).getD 0 else current) := by
  have hnew' (y : Slot) (hy : listed m y = true) : y ≠ x → sceneStart m y ≠ f := by
    obtain ⟨l, hl, -⟩ := h.1
    obtain ⟨hlinks, hstates⟩ := isSceneList_iff.mp hl
    exact hlinks.startingAtOther_none.mp hnew y (hstates.listed_iff.mp hy)
  refine ⟨law_move h.1 hx hlisted hrange hnew', (listed_moveSceneTo h.1 hx hlisted hrange hnew' _).mpr ?_⟩
  split
  · obtain ⟨p, hp, hlistedp, -⟩ := exists_prev h.1 hx hlisted
    rw [hp]
    exact hlistedp
  · exact h.2

theorem listed_base (h : sceneListLaw m free) : listed m 0 = true := by
  obtain ⟨l, hl, -⟩ := h
  obtain ⟨hlinks, hstates⟩ := isSceneList_iff.mp hl
  exact hstates.listed_iff.mpr hlinks.base_mem

theorem listHolds_writeField {x : Slot} {k : Nat} {w : Word} (h : ListHolds m free current) (hw : FieldWord x k w) :
    ListHolds (Memory.write m (slotBase x + k) w) free current := by
  have hk : k < 32 ∧ 4 < k ∧ (k = 5 → x ≠ 0) := by
    rcases hw with ⟨rfl, hx, -⟩ | rfl | rfl | ⟨j, -, rfl, -⟩
    · exact ⟨by omega, by omega, fun _ => hx⟩
    · omega
    · omega
    · omega
  refine listHolds_congr h (fun y j hj => slotWordAt_write_other m hk.1 (by omega) w (by omega))
    (slotWordAt_write_other m hk.1 (by omega) w fun heq => hk.2.2 heq.2.symm heq.1.symm)

end Holds

/-! ### The stages -/

theorem makeScene_requests (s : State) (x : Slot) (rest : List Slot) (p d : Int) (o mk : Word) (tag : Option DWord)
    (g : Grade) : (s.makeScene x rest p d o mk tag g).requests = { s.requests with freeStack := rest } := by
  simp [State.makeScene]

theorem leaveSlot_current (s : State) (x : Slot) :
    (s.leaveSlot x).tracker.current =
      if s.tracker.current = x then (scenePrev s.cue x).getD 0 else s.tracker.current := by
  unfold State.leaveSlot
  split <;> rfl

theorem sceneListLaw_of_eq {s t : State} (hs : s.SceneListLaw) (hrun : t.port.run = s.port.run)
    (hcurrent : t.tracker.current = s.tracker.current) (hrequests : t.requests.freeStack = s.requests.freeStack)
    (hpending : t.requests.splitPending = s.requests.splitPending)
    (hcue : ∀ a, inScenes a → Memory.read t.cue a = Memory.read s.cue a) : t.SceneListLaw := by
  refine ⟨fun h => ?_, by rw [hpending]; exact hs.2⟩
  rw [hrequests, hcurrent]
  exact listHolds_congr (hs.1 (hrun ▸ h))
    (fun _ _ _ => hcue _ (inScenes_of_inSceneFields (inSceneFields_add (by omega))))
    (hcue _ (inScenes_of_inSceneFields (inSceneFields_add (by omega))))

theorem EventStage.sceneListLaw {s t : State} (h : EventStage s t) (hframe : inRange s.sequencer.fieldFrame)
    (hs : s.SceneListLaw) : t.SceneListLaw := by
  have hcue (a : Nat) (ha : inScenes a) : Memory.read t.cue a = Memory.read s.cue a :=
    h.changesWithin.read (not_inEventWords_of_inScenes ha)
  cases h with
  | same h => exact sceneListLaw_of_eq hs h.run (h.tracker ▸ rfl) (h.requests ▸ rfl) (h.requests ▸ rfl) hcue
  | splitPending => exact ⟨hs.1, fun f hf => Option.some.inj hf ▸ hframe⟩
  | @resolved _ c n hwalk =>
    refine ⟨fun h => ?_, hs.2⟩
    have := listHolds_walk (hs.1 h) s.sequencer.fieldFrame s.setup.walkLimit 0
    rwa [hwalk] at this
  | @held _ c n hwalk =>
    refine ⟨fun h => ?_, hs.2⟩
    have := listHolds_walk (hs.1 h) s.sequencer.fieldFrame s.setup.walkLimit 0
    rwa [hwalk] at this
  | _ => exact sceneListLaw_of_eq hs (by simp) (by simp) (by simp) (by simp) hcue

theorem RequestStage.listHolds {s t : State} (h : RequestStage s t)
    (hpending : ∀ f, s.requests.splitPending = some f → inRange f)
    (hs : ListHolds s.cue s.requests.freeStack s.tracker.current) :
    ListHolds t.cue t.requests.freeStack t.tracker.current := by
  cases h with
  | @finish i r h =>
    have hnew := listHolds_of_outside hs (changesWithin_finishEntry s i r) fun _ ha hr =>
      not_inResults_of_inScenes ha ⟨_, hr⟩
    rw [finishEntry_requests]
    simpa using hnew
  | @endRipple r r' c h he =>
    have hnew := listHolds_of_outside hs (changesWithin_endRipple s r c) fun _ ha hr =>
      not_inResults_of_inScenes ha ⟨_, hr⟩
    simpa using hnew
  | takeRipple r n h =>
    have hentry : Memory.ChangesWithin (fun a => a = entryBase r.entry + 0) s.cue
        (Memory.write s.cue (entryBase r.entry + 0) stateTaken) :=
      changesWithin_write _ _ rfl (entryBase_add_lt (by omega))
    refine listHolds_of_outside hs hentry fun a ha hr => ?_
    rw [hr] at ha
    exact not_inScenes_entryBase (by omega) ha
  | @insert x rest p d g o mk tag hstack hp hnew hd hg =>
    have hrange : inRange p := hp.elim id (hpending p)
    rw [hstack] at hs
    have hlinked := listHolds_link hs (fieldCells_newSceneCells (d := d) (o := o) (mk := mk) (b := tag.isSome)
      (v := (s.orFree tag).1) (g := g)) (sceneStart_newScene s.cue hrange) hrange hnew
    have htracker : (s.makeScene x rest p d o mk tag g).tracker = s.tracker := by simp
    rw [makeScene_cue, htracker]
    exact hlinked
  | @delete x hx hl =>
    dsimp only
    rw [leaveSlot_current]
    exact listHolds_delete hs hx hl
  | @move x p hx hl hp hnew =>
    have hstack : (s.leaveSlot x).requests = s.requests := by simp
    dsimp only
    rw [leaveSlot_current, hstack]
    exact listHolds_move hs hx hl hp hnew
  | writeField h => exact listHolds_writeField hs h
  | clear =>
    have hlaw := law_clear hs.1 1023 0
    exact ⟨hlaw, listed_base hlaw⟩
  | locate h => exact ⟨hs.1, h⟩
  | probe i h =>
    refine listHolds_of_outside hs (changesWithin_writeAll (P := fun a => a < 0x1000) _ fun c hc => ?_)
      fun a ha hlt => ?_
    · have := mem_cellsFrom _ _ c hc
      have := entryBase_bounds i
      unfold cueSize; omega
    · unfold inScenes at ha; omega
  | _ => simpa using hs

theorem RequestStage.splitPending {s t : State} (h : RequestStage s t) {f : Int}
    (hf : t.requests.splitPending = some f) : s.requests.splitPending = some f := by
  cases h with
  | clearSplit => cases hf
  | finish => rwa [finishEntry_requests] at hf
  | insert => rwa [makeScene_requests] at hf
  | _ => simpa using hf

theorem sceneListLaw_of_reset {s : State} (hrun : s.port.run = .uninitialised) (hpending : s.requests.splitPending = none) :
    s.SceneListLaw := ⟨fun h => absurd hrun h, by rw [hpending]; exact nofun⟩

theorem Stage.sceneListLaw {s t : State} (h : Stage s t) (hframe : inRange s.sequencer.fieldFrame)
    (hs : s.SceneListLaw) : t.SceneListLaw := by
  cases h with
  | event h => exact h.sceneListLaw hframe hs
  | request hrun h =>
    have hinit : s.port.run ≠ .uninitialised := by rw [hrun]; decide
    exact ⟨fun _ => h.listHolds hs.2 (hs.1 hinit), fun f hf => hs.2 f (h.splitPending hf)⟩
  | initialise hrun h =>
    obtain ⟨-, -, -, -, -, hpending, hstack⟩ := initialise_requests s (readSetup s.cue)
    refine ⟨fun _ => ?_, by rw [hpending]; exact nofun⟩
    have hlaw := law_layOutScenes s.cue
    have hholds : ListHolds (layOutScenes s.cue) fullFreeStack 0 := ⟨hlaw, listed_base hlaw⟩
    have hword {x : Slot} {k : Nat} (hk : k < 22) := read_initialise_scenes s (readSetup s.cue)
      (inScenes_of_inSceneFields (inSceneFields_add (x := x) hk))
    rw [hstack, initialise_tracker]
    exact listHolds_congr hholds (fun x k hk => hword (by omega)) (hword (by omega))
  | refuseBlock => exact sceneListLaw_of_eq hs rfl rfl rfl rfl fun _ _ => rfl
  | resume hrun => exact ⟨fun _ => hs.1 (by rw [hrun]; decide), hs.2⟩
  | halt hrun => exact ⟨fun _ => hs.1 (by rw [hrun]; decide), hs.2⟩
  | reset => exact sceneListLaw_of_reset rfl rfl

/-- Settles O27: every stage keeps the law of the list, the field frame being in range. -/
theorem sceneListStaysLawful : Obligations.SceneListStaysLawful := fun _ _ hposition hs h =>
  (step_keeps (I := fun u => u.PositionLaw ∧ u.SceneListLaw)
    (fun _ _ h hs => ⟨h.positionLaw hs.1, h.sceneListLaw hs.1.2.2.1 hs.2⟩)
    (fun _ _ _ _ hmade hs => ⟨positionLaw_of_eq hs.1 rfl rfl rfl,
      sceneListLaw_of_eq hs.2 rfl rfl rfl rfl fun _ hb => read_hostWrite_other hmade (.inl hb)⟩)
    (fun _ _ _ _ _ _ => ⟨positionLaw_of_reset rfl rfl rfl rfl rfl, sceneListLaw_of_reset rfl rfl⟩) h ⟨hposition, hs⟩).2

end Sys2Proof.Proofs

/-! What the law of the list says of coverage, of the counts and of the walk (R42, R44, R58). -/

namespace Sys2Proof.Proofs
open Sys2Proof.Machine

/-! ### The counts (R44) -/

theorem read_eq_of_mem {m : Memory} (h : m.Pairwise fun x y => x.1 < y.1) {c : Nat × Word} (hc : c ∈ m) :
    Memory.read m c.1 = c.2 := by
  induction m with
  | nil => cases hc
  | cons d m ih =>
    obtain ⟨hd, hm⟩ := List.pairwise_cons.mp h
    rw [Memory.read]
    rcases List.mem_cons.mp hc with rfl | hc
    · rw [if_pos rfl]
    · rw [if_neg (ne_of_lt (hd c hc)), ih hm hc]

theorem mem_of_read {m : Memory} {a : Nat} (h : Memory.read m a ≠ Memory.unlisted) : (a, Memory.read m a) ∈ m := by
  induction m with
  | nil => exact absurd rfl h
  | cons d m ih =>
    rw [Memory.read] at h ⊢
    split
    · next heq => rw [← heq]; exact List.mem_cons_self ..
    · next hne =>
      rw [if_neg hne] at h
      exact List.mem_cons_of_mem _ (ih h)

/-- The slot whose STATE word a cell is. -/
def cellSlot (c : Nat × Word) : Slot := Fin.ofNat 1024 ((c.1 - sceneBase) / 32)

theorem slotBase_cellSlot {c : Nat × Word} (h : listedCell c = true) : slotBase (cellSlot c) = c.1 ∧ c.2 = 1 := by
  obtain ⟨haddress, hword⟩ := Bool.and_eq_true_iff.mp h
  have hbounds := of_decide_eq_true haddress
  refine ⟨?_, beq_iff_eq.mp hword⟩
  unfold slotBase cellSlot
  simp only [Fin.ofNat]
  unfold sceneBase at *
  omega

theorem slotWordAt_zero (m : Memory) (x : Slot) : slotWordAt m x 0 = Memory.read m (slotBase x) := by
  rw [slotWordAt, Nat.add_zero]

theorem slotBase_injective {x y : Slot} (h : slotBase x = slotBase y) : x = y :=
  ((slotBase_inj (j := 0) (k := 0) (by omega) (by omega)).mp (by rw [h])).1

/-- LISTED COUNT is the length of the list. -/
theorem listedCount_eq {m : Memory} {l : List Slot} (h : isSceneList m l) (hm : Memory.wf m = true) :
    listedCount m = l.length := by
  obtain ⟨hlinks, hstates⟩ := isSceneList_iff.mp h
  have horder := ((Memory.wf_iff m).mp hm).1
  have hnodup : ((m.filter listedCell).map cellSlot).Nodup := by
    refine List.Nodup.map_on (fun c hc d hd heq => ?_) ((horder.imp fun h heq => ?_).filter _)
    · obtain ⟨hc1, hc2⟩ := slotBase_cellSlot (List.mem_filter.mp hc).2
      obtain ⟨hd1, hd2⟩ := slotBase_cellSlot (List.mem_filter.mp hd).2
      exact Prod.ext (by rw [← hc1, ← hd1, heq]) (by rw [hc2, hd2])
    · exact absurd (congrArg Prod.fst heq) (ne_of_lt h)
  have hmem (x : Slot) : x ∈ (m.filter listedCell).map cellSlot ↔ x ∈ l := by
    rw [← hstates.listed_iff, listed_iff, slotWordAt_zero, List.mem_map]
    constructor
    · rintro ⟨c, hc, rfl⟩
      obtain ⟨hcell, hlisted⟩ := List.mem_filter.mp hc
      obtain ⟨haddress, hword⟩ := slotBase_cellSlot hlisted
      rw [haddress, read_eq_of_mem horder hcell, hword]
    · intro hread
      have hcell := mem_of_read (m := m) (a := slotBase x) (by rw [hread]; decide)
      rw [hread] at hcell
      have hlisted : listedCell (slotBase x, 1) = true := by
        refine Bool.and_eq_true_iff.mpr ⟨decide_eq_true ?_, rfl⟩
        have := x.isLt
        unfold slotBase sceneBase
        dsimp only
        omega
      exact ⟨_, List.mem_filter.mpr ⟨hcell, hlisted⟩, slotBase_injective (slotBase_cellSlot hlisted).1⟩
  have hperm := (List.perm_ext_iff_of_nodup hnodup hlinks.nodup).mpr hmem
  rw [← hperm.length_eq, List.length_map, listedCount, List.countP_eq_length_filter]

theorem length_add_length_free {l free : List Slot} (hl : l.Nodup) (hfree : free.Nodup)
    (hmem : ∀ x : Slot, x ∈ free ↔ x ∉ l) : l.length + free.length = 1024 := by
  have hnodup : (l ++ free).Nodup :=
    List.nodup_append.mpr ⟨hl, hfree, fun x hx y hy heq => (hmem y).mp hy (heq ▸ hx)⟩
  have hall : (l ++ free).Perm (List.finRange 1024) :=
    (List.perm_ext_iff_of_nodup hnodup (List.nodup_finRange 1024)).mpr fun x => by
      simp only [List.mem_append, hmem, List.mem_finRange, iff_true]
      exact Classical.em _
  simpa using hall.length_eq

/-- Settles O28, from the chain of links: the scenes in order cut the range into runs of frames. -/
theorem everyFrameHasOneScene : Obligations.EveryFrameHasOneScene := by
  rintro m free ⟨l, hl, hnodup, hmem⟩
  obtain ⟨hlinks, hstates⟩ := isSceneList_iff.mp hl
  refine ⟨fun f hf => ?_, fun hm => ?_⟩
  · obtain ⟨as, c, bs, heq, hcovers⟩ := hlinks.exists_covers hf.1
    have hc : c ∈ l := by rw [heq]; simp
    exact ⟨c, ⟨hstates.listed_iff.mpr hc, hcovers⟩,
      fun y hy hcy => hlinks.covers_unique (hstates.listed_iff.mp hy) hc hcy hcovers, hlinks.coveringScene hc hcovers⟩
  · rw [listedCount_eq hl hm]
    exact length_add_length_free hlinks.nodup hnodup hmem

/-! ### The walk (R58) -/

section Walk
variable {m : Memory} {l : List Slot}

theorem eq_take_append_getElem_cons {i : Nat} (hi : i < l.length) : l = l.take i ++ l[i] :: l.drop (i + 1) := by
  rw [← List.drop_eq_getElem_cons hi, List.take_append_drop]

theorem ListLinks.next_getElem (h : ListLinks m l) {i : Nat} (hi : i < l.length) : sceneNext m l[i] = l[i + 1]? := by
  rw [h.next (eq_take_append_getElem_cons hi), List.head?_drop]

theorem ListLinks.prev_getElem (h : ListLinks m l) {i : Nat} (hi : i + 1 < l.length) :
    scenePrev m l[i + 1] = some l[i] := by
  refine h.prev (as := l.take i) (bs := l.drop (i + 2)) ?_
  rw [← List.drop_eq_getElem_cons hi, ← List.drop_eq_getElem_cons (by omega), List.take_append_drop]

theorem ListLinks.start_lt (h : ListLinks m l) {i j : Nat} (hi : i < l.length) (hj : j < l.length) (hij : i < j) :
    sceneStart m l[i] < sceneStart m l[j] := List.pairwise_iff_getElem.mp h.pairwise i j hi hj hij

theorem ListLinks.covers_getElem_iff (h : ListLinks m l) {i : Nat} (hi : i < l.length) (f : Int) :
    covers m l[i] f = true ↔ sceneStart m l[i] ≤ f ∧ ∀ y, l[i + 1]? = some y → f < sceneStart m y := by
  rw [h.covers_iff (eq_take_append_getElem_cons hi), List.head?_drop]

/-- From a scene before the one that covers the frame the walk goes to NEXT. -/
theorem walkStep_of_lt (h : ListLinks m l) {f : Int} {i j : Nat} (hj : j < l.length) (hc : covers m l[j] f = true)
    (hij : i < j) : walkStep m f l[i] = l[i + 1] := by
  have hstart := h.start_lt (by omega) hj hij
  have hle := ((h.covers_getElem_iff hj f).mp hc).1
  unfold walkStep
  rw [if_neg (by omega), h.next_getElem (by omega), List.getElem?_eq_getElem (by omega)]
  rfl

/-- From a scene after the one that covers the frame the walk goes to PREV. -/
theorem walkStep_of_gt (h : ListLinks m l) {f : Int} {i j : Nat} (hi : i + 1 < l.length) (hj : j < l.length)
    (hc : covers m l[j] f = true) (hij : j ≤ i) : walkStep m f l[i + 1] = l[i] := by
  have hlt := ((h.covers_getElem_iff hj f).mp hc).2 l[j + 1] (List.getElem?_eq_getElem (by omega))
  have hle : sceneStart m l[j + 1] ≤ sceneStart m l[i + 1] := by
    rcases Nat.lt_or_ge j i with hji | hji
    · exact (h.start_lt (by omega) hi (by omega)).le
    · obtain rfl : i = j := by omega
      exact le_rfl
  unfold walkStep
  rw [if_pos (by omega), h.prev_getElem hi]
  rfl

theorem ListLinks.not_covers (h : ListLinks m l) {f : Int} {i j : Nat} (hi : i < l.length) (hj : j < l.length)
    (hc : covers m l[j] f = true) (hij : i ≠ j) : covers m l[i] f = false := by
  rw [Bool.eq_false_iff]
  intro hci
  have heq := h.covers_unique (List.getElem_mem hi) (List.getElem_mem hj) hci hc
  exact hij ((List.Nodup.getElem_inj_iff h.nodup).mp heq)

/-- The walk from the i-th scene where the j-th covers the frame. -/
theorem walk_eq (h : ListLinks m l) {f : Int} {j : Nat} (hj : j < l.length) (hc : covers m l[j] f = true) (limit : Nat) :
    ∀ {i : Nat} (hi : i < l.length) (steps : Nat),
      (j - i + (i - j) ≤ limit → walk m f limit l[i] steps = (l[j], steps + (j - i + (i - j)))) ∧
      (limit < j - i + (i - j) →
        ∃ (k : Nat) (hk : k < l.length), k = (if i < j then i + limit else i - limit) ∧
          walk m f limit l[i] steps = (l[k], steps + limit)) := by
  induction limit with
  | zero =>
    intro i hi steps
    refine ⟨fun hle => ?_, fun _ => ⟨i, hi, by simp, rfl⟩⟩
    obtain rfl : i = j := by omega
    simp [walk]
  | succ limit ih =>
    intro i hi steps
    rcases Nat.lt_trichotomy i j with hij | rfl | hij
    · have hstep := walkStep_of_lt h hj hc hij
      rw [walk, h.not_covers hi hj hc (by omega), if_neg Bool.false_ne_true, hstep]
      obtain ⟨hreach, hshort⟩ := ih (i := i + 1) (by omega) (steps + 1)
      refine ⟨fun hle => ?_, fun hlt => ?_⟩
      · rw [hreach (by omega)]
        congr 1
        omega
      · obtain ⟨k, hk, hindex, hwalk⟩ := hshort (by omega)
        refine ⟨k, hk, ?_, by rw [hwalk]; congr 1; omega⟩
        split at hindex <;> split <;> omega
    · refine ⟨fun _ => ?_, fun hlt => by omega⟩
      simp [walk, hc]
    · obtain ⟨i, rfl⟩ := Nat.exists_eq_succ_of_ne_zero (by omega : i ≠ 0)
      have hstep := walkStep_of_gt h hi hj hc (by omega)
      rw [walk, h.not_covers hi hj hc (by omega), if_neg Bool.false_ne_true, hstep]
      obtain ⟨hreach, hshort⟩ := ih (i := i) (by omega) (steps + 1)
      refine ⟨fun hle => ?_, fun hlt => ?_⟩
      · rw [hreach (by omega)]
        congr 1
        omega
      · obtain ⟨k, hk, hindex, hwalk⟩ := hshort (by omega)
        refine ⟨k, hk, ?_, by rw [hwalk]; congr 1; omega⟩
        split at hindex <;> split <;> omega

end Walk

/-- Settles O29, by induction on the limit: each step goes to the neighbour on the side of the frame. -/
theorem walkGoesStraightToCoveringScene : Obligations.WalkGoesStraightToCoveringScene := by
  intro m l f limit i j hi hj hl _ hc
  obtain ⟨hlinks, -⟩ := isSceneList_iff.mp hl
  obtain ⟨hreach, hshort⟩ := walk_eq hlinks hj hc limit hi 0
  simp only [Nat.zero_add] at hreach hshort
  refine ⟨hreach, fun hlt => ?_⟩
  obtain ⟨k, hk, hindex, hwalk⟩ := hshort hlt
  exact ⟨k, hk, hindex, hwalk, hlinks.not_covers hk hj hc (by split at hindex <;> omega)⟩

end Sys2Proof.Proofs

/-! Who writes cue memory, the resets, the run start that refuses its block, and CONTROL (R36, R49, R95, R114, R174,
R177 to R180). -/

namespace Sys2Proof.Proofs
open Sys2Proof.Machine

/-! ### The writers of cue memory -/

theorem Stages.read_other {s t : State} (h : Stages s t) {a : Nat} (ha : ¬partWrites a) :
    Memory.read t.cue a = Memory.read s.cue a :=
  h.keeps (I := fun u => Memory.read u.cue a = Memory.read s.cue a)
    (fun _ _ h hs => (h.changesWithin.read ha).trans hs) rfl

theorem EventStages.read_scenes {s t : State} (h : EventStages s t) {a : Nat} (ha : inScenes a) :
    Memory.read t.cue a = Memory.read s.cue a :=
  h.keeps (I := fun u => Memory.read u.cue a = Memory.read s.cue a)
    (fun _ _ h hs => (h.changesWithin.read (not_inEventWords_of_inScenes ha)).trans hs) rfl

/-- The stages of a halt but for the run state (R148, R163). -/
theorem exists_eventStages_halt (s : State) : ∃ u, EventStages s u ∧ s.halt = u.setRun .halted := by
  refine ⟨_, ?_, rfl⟩
  exact (((eventStages_finishLiveRead s).trans (eventStages_faultPassIf id .halted)).trans
    (eventStages_handEach _ _)).view (sameView_clearInternalEdges _)

theorem read_halt_scenes (s : State) {a : Nat} (ha : inScenes a) :
    Memory.read s.halt.cue a = Memory.read s.cue a := by
  obtain ⟨u, hu, heq⟩ := exists_eventStages_halt s
  rw [heq]
  exact hu.read_scenes ha

theorem read_writeRunClear_scenes (s : State) {a : Nat} (ha : inScenes a) :
    Memory.read s.writeRunClear.cue a = Memory.read s.cue a := by
  unfold State.writeRunClear
  split
  · rfl
  · rfl
  · exact read_halt_scenes s ha

theorem runStart_of_invalid {s : State} {o : Nat} (h : setupFirstInvalid s.cue = some o) :
    s.runStart = (s.setSetupFault (some o)).setCause .setup := by
  unfold State.runStart
  rw [h]

theorem runStart_of_valid {s : State} (h : setupFirstInvalid s.cue = none) : s.runStart = s.initialise (readSetup s.cue) := by
  unfold State.runStart
  rw [h]

/-- A CONTROL write of RUN 1 changes the scene table where it initialises alone. -/
theorem writeRunSet_scenes (s : State) :
    (s.port.run = .uninitialised ∧ s.writeRunSet.port.run = .running) ∨ s.writeRunSet.cue = s.cue := by
  unfold State.writeRunSet
  split
  · next hrun =>
    cases hfirst : setupFirstInvalid s.cue with
    | some o => exact .inr (by rw [runStart_of_invalid hfirst]; simp)
    | none => exact .inl ⟨hrun, by rw [runStart_of_valid hfirst, initialise_run]⟩
  · exact .inr rfl
  · exact .inr rfl

theorem activeStart_scenes {s : State} (h : ¬(s.port.run = .running ∧ s.sequencer.activeStartTaken = false)) {a : Nat}
    (ha : inScenes a) : Memory.read (commandResult .activeStart s).cue a = Memory.read s.cue a := by
  cases hflag : s.sequencer.activeStartTaken with
  | true => rw [commandResult_eq_of_exec (exec_activeStart_of_taken hflag)]
  | false =>
    have hrun : s.port.run ≠ .running := fun hrun => h ⟨hrun, hflag⟩
    rw [commandResult_eq_of_exec (exec_activeStart_of_open hflag)]
    unfold State.passActiveStart
    rw [if_neg (by simpa using hrun)]
    exact ((eventStages_finishLiveRead s).tail (.takeFlag _)).read_scenes ha

theorem untilReset_of_not_open {s : State} (h : ¬(s.port.run = .running ∧ s.sequencer.activeStartTaken = false))
    (m : ResetMoment) : s.untilReset m = s := if_neg h

/-- Where the host may not write through DATA. -/
theorem read_dataWrite_other {s t : State} {v : Word} (h : exec (.dataWrite v) s = .next t) {a : Nat}
    (ha : hostWriteMade s.cue a v = false) : Memory.read t.cue a = Memory.read s.cue a := by
  rw [exec_eq_next_iff] at h
  rcases dataWrite_cases v s with ⟨hmade, hview⟩ | hview
  · rw [← h, hview.cue]
    refine Memory.read_write_other _ _ _ _ ?_
    rintro rfl
    rw [ha] at hmade
    cases hmade
  · rw [← h, hview.cue]

/-- Settles O3: the stages' words for the part, the regions for the host, and no event stage in the scene table. -/
theorem cueMemoryHasItsWriters : Obligations.CueMemoryHasItsWriters := by
  refine ⟨fun c s t h hwrite hpower a ha => ?_, fun v s t h a ha => ?_, fun c s t h hchange => ?_⟩
  · rw [exec_eq_next_iff] at h
    rw [← h]
    exact (stages_commandResult s hwrite hpower).read_other ha
  · refine read_dataWrite_other h ?_
    rcases ha with ha | ha | ha | ha | ⟨i, ⟨hlow, hhigh⟩, htaken⟩
    · exact hostWriteMade_of_partOwned (by omega) (by unfold hostOwned; omega) _ _
    · exact hostWriteMade_of_partOwned (by omega) (by unfold hostOwned; omega) _ _
    · exact not_hostWriteMade (.inl ha)
    · exact not_hostWriteMade (.inr (.inr (.inl ha)))
    · obtain ⟨k, rfl⟩ := Nat.exists_eq_add_of_le hlow
      rw [Bool.eq_false_iff]
      exact fun hmade => ((hostWriteMade_entry_iff s.cue i (by omega) v).mp hmade).1 htaken
  · obtain ⟨a, ha, hne⟩ := hchange
    rw [exec_eq_next_iff] at h
    have hrunSet (u : State) (hu : u.port.run = s.port.run) (hcue : u.cue = s.cue) (ht : u.writeRunSet = t) :
        s.port.run = .uninitialised ∧ t.port.run = .running := by
      rcases writeRunSet_scenes u with ⟨hrun, hrun'⟩ | hsame
      · exact ⟨hu ▸ hrun, ht ▸ hrun'⟩
      · exact absurd (by rw [← ht, hsame, hcue]) hne
    by_cases hevent : eventCommand c = true
    · exact absurd (by rw [← h]; exact (eventStages_commandResult hevent s).read_scenes ha) hne
    cases c with
    | dataWrite v =>
      exact absurd (read_dataWrite_other (exec_eq_next_iff.mpr h) (not_hostWriteMade (.inl ha))) hne
    | powerOnReset a b g r => exact .inr (.inr ⟨a, b, g, r, rfl⟩)
    | portReset => exact absurd (by rw [← h]; rfl) hne
    | runStart =>
      obtain ⟨hrun, hrun'⟩ := hrunSet s.emptyLatch rfl rfl h
      exact .inr (.inl ⟨hrun, hrun', .inl rfl⟩)
    | resume =>
      obtain ⟨hrun, hrun'⟩ := hrunSet s.emptyLatch rfl rfl h
      exact .inr (.inl ⟨hrun, hrun', .inr (.inl rfl)⟩)
    | halt => exact absurd (by rw [← h]; exact read_writeRunClear_scenes s.emptyLatch ha) hne
    | activeStart =>
      refine .inl ⟨.inl rfl, ?_⟩
      by_contra hclosed
      exact hne (by rw [← h]; exact activeStart_scenes hclosed ha)
    | registerWriteOther write =>
      cases write with
      | ident v => exact absurd rfl hevent
      | resetWithin m =>
        refine .inl ⟨.inr ⟨m, rfl⟩, ?_⟩
        by_contra hclosed
        refine hne ?_
        rw [← h]
        change Memory.read (s.untilReset m).cue a = _
        rw [untilReset_of_not_open hclosed]
      | control v =>
        change s.emptyLatch.writeControl v = t at h
        unfold State.writeControl at h
        split at h
        · exact absurd (by rw [← h]; rfl) hne
        · split at h
          · obtain ⟨hrun, hrun'⟩ := hrunSet s.emptyLatch rfl rfl h
            exact .inr (.inl ⟨hrun, hrun', .inr (.inr ⟨v, rfl⟩)⟩)
          · exact absurd (by rw [← h]; exact read_writeRunClear_scenes s.emptyLatch ha) hne
    | _ => exact absurd rfl hevent

/-! ### The resets (R180) -/

/-- Every law holds of a state that a reset left. -/
theorem safe_of_reset {s : State} (hm : Memory.wf s.cue = true) (hcount : s.position.count = 0)
    (hgauge : s.position.gauge = .four) (hposition : s.position.state = .good)
    (hsequencer : s.sequencer = State.reset.sequencer) (htracker : s.tracker = Tracker.initial)
    (hengine : s.engine = State.reset.engine) (hrequests : s.requests = State.reset.requests)
    (hpass : s.pass = Pass.initial) (hwriter : s.writer = Writer.initial) (hrun : s.port.run = .uninitialised)
    (hsetup : s.setup = Setup.default) : s.Safe := by
  refine ⟨hm, hsetup ▸ valid_default, ?_, ?_, passLaw_of_reset hrun hpass, ?_, gradeLaw_of_reset hrun hengine htracker,
    ?_, ?_, ?_, ?_⟩
  · exact positionLaw_of_reset hcount hgauge hposition hsetup (by rw [hsequencer]; rfl)
  · exact sequencerLaw_of_reset (by rw [hsequencer])
  · exact ringLaw_of_initial hwriter
  · exact requestLaw_iff.mpr ⟨entryLaw_of_reset hrun hrequests, by rw [hrequests]; rfl⟩
  · exact fun _ => ⟨hsetup, htracker, hengine, hpass, hwriter, by rw [hrequests]⟩
  · exact fun _ => by rw [hengine]; rfl
  · exact sceneListLaw_of_reset hrun (by rw [hrequests]; rfl)

theorem safe_portReset {s : State} (hm : Memory.wf s.cue = true) : s.portReset.Safe :=
  safe_of_reset hm rfl rfl rfl rfl rfl rfl rfl rfl rfl rfl rfl

theorem wf_untilReset {s : State} (hm : Memory.wf s.cue = true) (m : ResetMoment) :
    Memory.wf (s.untilReset m).cue = true :=
  (stages_untilReset s m).keeps (I := fun u => Memory.wf u.cue = true) (fun _ _ h hs => h.changesWithin.wf hs) hm

/-- Settles O5: a reset puts every block at values of which each law holds. -/
theorem resetsAreSafe : Obligations.ResetsAreSafe := by
  refine ⟨safe_of_reset rfl rfl rfl rfl rfl rfl rfl rfl rfl rfl rfl rfl, fun c s t hc hm h => ?_,
    fun a b g r s t h => ?_⟩
  · rcases hc with rfl | ⟨m, rfl⟩
    · cases h
      exact safe_portReset hm
    · cases h
      exact safe_portReset (wf_untilReset hm m)
  · cases h
    exact safe_of_reset (wf_powerOnMemory r) rfl rfl rfl rfl rfl rfl rfl rfl rfl rfl rfl

theorem default_userSelection (u : Fin 11) : Setup.default.userSelection[u] = none := by
  fin_cases u <;> rfl

theorem default_channelSelection (c : Fin 8) : Setup.default.channelSelection[c] = none := by
  fin_cases c <;> rfl

/-- The reset columns hold of a state that a reset left, whatever the lines, the outputs and cue memory. -/
theorem resetValues_of_reset {s : State}
    (hposition : ∃ a b, s.position = { State.reset.position with perfA := a, perfB := b })
    (hsequencer : s.sequencer = State.reset.sequencer) (htracker : s.tracker = Tracker.initial)
    (hengine : s.engine = State.reset.engine) (hrequests : s.requests = State.reset.requests)
    (hpass : s.pass = Pass.initial) (hmatrix : ∃ g, s.matrix = { State.reset.matrix with gpi := g })
    (hwriter : s.writer = Writer.initial) (hport : s.port = State.reset.port) (hsetup : s.setup = Setup.default) :
    s.ResetValues := by
  obtain ⟨a, b, hposition⟩ := hposition
  obtain ⟨g, hmatrix⟩ := hmatrix
  have hinversion (c : Fin 8) : s.matrix.inversion[c] = .none := by rw [hmatrix]; fin_cases c <;> rfl
  refine ⟨?_, ?_, ?_, ⟨?_, ?_⟩, ?_, ?_, ⟨fun c => ⟨hinversion c, ?_⟩, fun u => ?_, fun g => ⟨?_, ?_⟩, ?_⟩, ?_, ?_, ?_⟩
  · rw [hposition]
    exact ⟨rfl, rfl, rfl, rfl, rfl, rfl, rfl⟩
  · rw [hsequencer]
    exact ⟨rfl, rfl, rfl, rfl, rfl, rfl, rfl, rfl, rfl, rfl, rfl, rfl⟩
  · rw [htracker]
    exact ⟨rfl, rfl, rfl, rfl, rfl, rfl⟩
  · rw [hengine]
    decide
  · rw [hengine]
    exact ⟨rfl, rfl, rfl, rfl, rfl, rfl, by decide⟩
  · rw [hrequests]
    exact ⟨rfl, rfl, rfl, rfl, rfl, rfl⟩
  · rw [hpass]
    exact ⟨rfl, rfl, rfl, rfl, rfl, rfl, rfl, rfl, rfl, rfl⟩
  · unfold State.channel State.inverted
    rw [hinversion, hsetup, default_channelSelection]
    rfl
  · rw [hmatrix]
    fin_cases u <;> exact ⟨rfl, rfl⟩
  · rw [hmatrix]
    fin_cases g <;> rfl
  · unfold State.gpo
    rw [hsetup, default_userSelection]
  · rw [hmatrix]
    exact ⟨rfl, rfl⟩
  · rw [hwriter]
    exact ⟨rfl, rfl, rfl, rfl⟩
  · unfold State.causeSet State.causeEnabled State.attn
    rw [hport]
    exact ⟨rfl, rfl, fun c => by cases c <;> decide, rfl, rfl, rfl⟩
  · rw [hsetup]
    decide

theorem resetValues_portReset (s : State) : s.portReset.ResetValues :=
  resetValues_of_reset ⟨_, _, rfl⟩ rfl rfl rfl rfl rfl ⟨_, rfl⟩ rfl rfl rfl

theorem read_powerOnMemory_mem {ram : List (Addr × Word)} (hram : ram.Pairwise fun x y => x.1 ≠ y.1)
    {c : Addr × Word} (hc : c ∈ ram) : Memory.read (powerOnMemory ram) c.1.toNat = c.2 := by
  have hdistinct : (ram.map fun c => (c.1.toNat, c.2)).Pairwise fun x y => x.1 ≠ y.1 := by
    rw [List.pairwise_map]
    exact hram.imp fun hne heq => hne (BitVec.eq_of_toNat_eq heq)
  exact Memory.read_writeAll_mem [] _ (c.1.toNat, c.2) (List.mem_map.mpr ⟨c, hc, rfl⟩) hdistinct

theorem read_powerOnMemory_other {ram : List (Addr × Word)} {x : Addr} (hx : ∀ c ∈ ram, c.1 ≠ x) :
    Memory.read (powerOnMemory ram) x.toNat = 0 := by
  refine Memory.read_writeAll_other [] _ _ fun c hc heq => ?_
  obtain ⟨d, hd, rfl⟩ := List.mem_map.mp hc
  exact hx d hd (BitVec.eq_of_toNat_eq heq)

/-! ### The levels of the lines -/

/-- The two states agree in the levels of the lines, which a reset takes (R180). -/
def SameLines (s t : State) : Prop :=
  t.position.perfA = s.position.perfA ∧ t.position.perfB = s.position.perfB ∧ t.matrix.gpi = s.matrix.gpi

theorem SameLines.of_eq {s t : State} (hp : t.position = s.position) (hm : t.matrix = s.matrix) : SameLines s t := by
  unfold SameLines
  rw [hp, hm]
  exact ⟨rfl, rfl, rfl⟩

theorem SameLines.trans {s t u : State} (h : SameLines s t) (h' : SameLines t u) : SameLines s u :=
  ⟨h'.1.trans h.1, h'.2.1.trans h.2.1, h'.2.2.trans h.2.2⟩

theorem sameLines_settle (s t : State) : SameLines t (s.settle t) := ⟨rfl, rfl, rfl⟩

theorem sameLines_setPass (s : State) (p : Pass) : SameLines s (s.setPass p) := by
  unfold State.setPass
  dsimp only
  split <;> exact ⟨rfl, rfl, rfl⟩

theorem sameLines_changePass (s : State) (p : Pass) : SameLines s (s.changePass p).1 :=
  (sameLines_setPass s p).trans (.of_eq (by simp [State.changePass]) (by simp [State.changePass]))

theorem sameLines_passDone (s : State) (p : Pass) : SameLines s (passDone (s.changePass p)).1 :=
  (sameLines_changePass s p).trans (.of_eq (by simp [passDone]) (by simp [passDone]))

theorem sameLines_takeSetup (s : State) (st : Setup) : SameLines s (s.takeSetup st) := by
  unfold SameLines State.takeSetup Position.takeSetup
  simp [State.takeSelections]

theorem sameLines_applySetup (s : State) : SameLines s s.applySetup.1 := by
  unfold State.applySetup
  split
  · exact .of_eq rfl rfl
  · split
    · exact .of_eq rfl rfl
    · exact sameLines_takeSetup s _

theorem sameLines_startPass (s : State) (i : Fin 32) : SameLines s (s.startPass i).1 := by
  unfold State.startPass
  dsimp only
  split
  · exact .of_eq rfl rfl
  · split
    · exact .of_eq rfl rfl
    · exact sameLines_passDone s _

theorem sameLines_resumePass (s : State) : SameLines s s.resumePass.1 := by
  unfold State.resumePass
  split
  · exact sameLines_passDone s _
  · exact .of_eq rfl rfl

theorem sameLines_abandonPass (s : State) : SameLines s s.abandonPass.1 := by
  unfold State.abandonPass
  split
  · exact sameLines_passDone s _
  · exact sameLines_passDone s _
  · exact sameLines_passDone s _
  · exact .of_eq rfl rfl

theorem sameLines_stopPass (s : State) : SameLines s s.stopPass.1 := by
  unfold State.stopPass
  split
  · exact sameLines_setPass s _
  · exact .of_eq rfl rfl

theorem sameLines_takeEntry (s : State) (i : Fin 32) : SameLines s (s.takeEntry i) := by
  have hfinish {answer : State × Result} (h : SameLines s answer.1) : SameLines s (finishWith i answer) :=
    h.trans (.of_eq (by simp [finishWith]) (by simp [finishWith]))
  unfold State.takeEntry
  split
  · exact hfinish (.of_eq (by simp) (by simp))
  · exact hfinish (.of_eq (by simp) (by simp))
  · exact hfinish (.of_eq (by simp) (by simp))
  · exact hfinish (.of_eq (by simp) (by simp))
  · exact hfinish (.of_eq (by simp) (by simp))
  · exact hfinish (.of_eq (by simp) (by simp))
  · exact .of_eq (by simp) (by simp)
  · exact hfinish (.of_eq (by simp) (by simp))
  · exact hfinish (sameLines_applySetup s)
  · exact hfinish (.of_eq (by simp) (by simp))
  · exact hfinish ⟨rfl, rfl, rfl⟩
  · exact hfinish (sameLines_startPass s i)
  · exact hfinish (sameLines_stopPass s)
  · exact hfinish (sameLines_resumePass s)
  · exact hfinish (sameLines_abandonPass s)
  · exact hfinish (.of_eq rfl rfl)
  · exact hfinish (.of_eq (by simp) (by simp))
  · exact hfinish (.of_eq (by simp) (by simp))
  · exact .of_eq (by simp) (by simp)

theorem sameLines_scan (fuel : Nat) (s : State) : SameLines s (State.scan fuel s) := by
  induction fuel generalizing s with
  | zero => exact .of_eq rfl rfl
  | succ fuel ih =>
    unfold State.scan
    split
    · exact .of_eq rfl rfl
    · exact ((sameLines_takeEntry s _).trans (.of_eq rfl rfl)).trans (ih _)

theorem sameLines_untilReset (s : State) (m : ResetMoment) : SameLines s (s.untilReset m) := by
  have hsplit : SameLines s s.finishLiveRead.takeActiveFlag.executeSplit := .of_eq (by simp) (by simp)
  have hscan (n : Nat) := hsplit.trans (sameLines_scan n _)
  unfold State.untilReset
  split
  · cases m with
    | scan takings => exact hscan takings.val
    | visits made => exact (hscan 4).trans (.of_eq (by simp) (by simp))
  · exact .of_eq rfl rfl

/-- Settles O6: the reset state's columns, item by item. -/
theorem resetsGiveResetValues : Obligations.ResetsGiveResetValues := by
  refine ⟨fun a b g ram s => ⟨_, rfl, resetValues_of_reset ⟨_, _, rfl⟩ rfl rfl rfl rfl rfl ⟨_, rfl⟩ rfl rfl rfl, rfl,
    rfl, fun i => ?_, rfl, rfl, rfl, fun hram c hc => read_powerOnMemory_mem hram hc,
    fun x hx => read_powerOnMemory_other hx⟩, fun s => ?_, fun m s => ?_⟩
  · simp [State.powerOn, gpiLevels]
  · exact ⟨_, rfl, resetValues_portReset s, rfl, rfl, rfl, rfl, rfl, rfl, rfl⟩
  · obtain ⟨hA, hB, hgpi⟩ := sameLines_untilReset s m
    refine ⟨_, rfl, resetValues_portReset _, hA, hB, hgpi, ?_, ?_, ?_, fun hclosed => ?_⟩
    · simp [portReset_frame]
    · simp [portReset_frame]
    · simp [portReset_frame]
    · change Host.Outcome.next (s.untilReset m).portReset = _
      rw [State.untilReset_closed s m hclosed]
      rfl

/-! ### The run start that refuses its block (R114, R178) -/

theorem setupFirstInvalid_eq_some {m : Memory} {o : Nat} (ho : o < 42)
    (hbad : ¬validSetupWord o (Memory.read m o) (Memory.read m 10))
    (hbefore : ∀ k, k < o → validSetupWord k (Memory.read m k) (Memory.read m 10)) : setupFirstInvalid m = some o := by
  unfold setupFirstInvalid
  rw [List.find?_range_eq_some]
  refine ⟨?_, List.mem_range.mpr ho, fun k hk => ?_⟩
  · rw [← setupWordValid_iff ho] at hbad
    simpa using hbad
  · simpa using (setupWordValid_iff (by omega)).mpr (hbefore k hk)

/-- Settles O7: the first offending offset is what the search finds. -/
theorem runStartRefusesOffendingBlock : Obligations.RunStartRefusesOffendingBlock := by
  intro s o hrun ho hbad hbefore
  have hfirst : setupFirstInvalid s.emptyLatch.cue = some o := setupFirstInvalid_eq_some ho hbad hbefore
  refine ⟨(s.emptyLatch.setSetupFault (some o)).setCause .setup, ?_, fun c => ?_, rfl⟩
  · change Host.Outcome.next s.emptyLatch.writeRunSet = _
    unfold State.writeRunSet
    rw [show s.emptyLatch.port.run = .uninitialised from hrun]
    dsimp only
    rw [runStart_of_invalid hfirst]
  · rw [causeSet_setCause]
    rfl

/-! ### CONTROL (R177, R179) -/

theorem writeRunSet_of_halted {s : State} (h : s.port.run = .halted) : s.writeRunSet = s.setRun .running := by
  unfold State.writeRunSet
  rw [h]

theorem writeRunSet_of_running {s : State} (h : s.port.run = .running) : s.writeRunSet = s := by
  unfold State.writeRunSet
  rw [h]

theorem writeRunClear_of_running {s : State} (h : s.port.run = .running) : s.writeRunClear = s.halt := by
  unfold State.writeRunClear
  rw [h]

theorem writeRunClear_of_not_running {s : State} (h : s.port.run ≠ .running) : s.writeRunClear = s := by
  unfold State.writeRunClear
  cases hrun : s.port.run with
  | running => exact absurd hrun h
  | halted => rfl
  | uninitialised => rfl

theorem exec_control (v : Word) (s : State) :
    exec (.registerWriteOther (.control v)) s = .next (s.emptyLatch.writeControl v) := rfl

/-- Settles O11: bits 15 and 0 and the run state decide. -/
theorem controlWriteTakenByRunState : Obligations.ControlWriteTakenByRunState := by
  intro v s
  refine ⟨rfl, fun h15 => ?_, fun h15 h0 => ⟨?_, rfl, fun hrun => ?_, fun hrun => ?_⟩, fun h15 h0 => ⟨?_, fun hrun => ?_,
    fun hrun => ⟨_, rfl, ?_⟩⟩⟩
  · rw [exec_control, State.writeControl, if_pos h15]
    rfl
  · rw [exec_control, State.writeControl, if_neg (Bool.eq_false_iff.mp h15), if_pos h0]
    rfl
  · exact congrArg Host.Outcome.next (writeRunSet_of_halted (s := s.emptyLatch) hrun)
  · exact congrArg Host.Outcome.next (writeRunSet_of_running (s := s.emptyLatch) hrun)
  · rw [exec_control, State.writeControl, if_neg (Bool.eq_false_iff.mp h15), if_neg (Bool.eq_false_iff.mp h0)]
    rfl
  · exact congrArg Host.Outcome.next (writeRunClear_of_not_running (s := s.emptyLatch) hrun)
  · rw [writeRunClear_of_running (s := s.emptyLatch) hrun]
    rfl

end Sys2Proof.Proofs

/-! The registers by offset and the pair latch (R173, R175, R177). -/

namespace Sys2Proof.Proofs
open Sys2Proof.Machine

/-! ### The registers -/

theorem toNat_extract_append (p : Addr) (v : Word) :
    (p.extractLsb' 16 1 ++ v).toNat = p.toNat / 65536 * 65536 + v.toNat := by
  have hp := p.isLt
  rw [BitVec.toNat_append, ← Nat.shiftLeft_add_eq_or_of_lt v.isLt, BitVec.extractLsb'_toNat, Nat.shiftLeft_eq,
    Nat.shiftRight_eq_div_pow]
  omega

theorem toNat_append_extract (v : Word) (p : Addr) :
    (v.extractLsb' 0 1 ++ p.extractLsb' 0 16).toNat = v.toNat % 2 * 65536 + p.toNat % 65536 := by
  rw [BitVec.toNat_append, ← Nat.shiftLeft_add_eq_or_of_lt (BitVec.isLt _), BitVec.extractLsb'_toNat,
    BitVec.extractLsb'_toNat, Nat.shiftLeft_eq]
  simp

theorem causeEnabled_zeroExtend (s : State) (c : Cause) :
    (s.port.enables.zeroExtend 16).getLsbD c.bit = s.causeEnabled c := by
  unfold State.causeEnabled
  cases c <;> simp [Cause.bit]

theorem causeSet_zeroExtend (s : State) (c : Cause) : (s.port.causes.zeroExtend 16).getLsbD c.bit = s.causeSet c := by
  rw [causeSet_eq_getLsbD]
  cases c <;> simp [Cause.bit]

theorem toNat_zeroExtend_lt (v : BitVec 7) : (v.zeroExtend 16).toNat < 128 := by
  have := v.isLt
  rw [BitVec.toNat_setWidth]
  omega

/-- CONTROL from RUN, INITIALISED and the setup fault value (R173). -/
def controlBits (running initialised : Bool) (fault : Option Nat) : Word :=
  boolWord running ||| (boolWord initialised <<< 1) |||
    match fault with
    | some o => 0x4 ||| (natWord o <<< 8)
    | none => 0

theorem controlRegister_eq (s : State) :
    s.controlRegister = controlBits (s.port.run == .running) s.initialised s.requests.setupFault := rfl

/-- CONTROL by bit, for every run state and every offset of the block (R173). -/
theorem controlBits_shows : ∀ (running initialised : Bool) (fault : Option (Fin 42)),
    (controlBits running initialised (fault.map Fin.val)).getLsbD 0 = running ∧
      (controlBits running initialised (fault.map Fin.val)).getLsbD 1 = initialised ∧
      (controlBits running initialised (fault.map Fin.val)).getLsbD 2 = fault.isSome ∧
      ((controlBits running initialised (fault.map Fin.val)).extractLsb' 8 6).toNat = (fault.map Fin.val).getD 0 ∧
      ∀ k : Fin 16, (3 ≤ k.val ∧ k.val ≤ 7) ∨ 14 ≤ k.val →
        (controlBits running initialised (fault.map Fin.val)).getLsbD k.val = false := by
  decide

theorem controlRegister_shows {s : State} (hfault : ∀ o, s.requests.setupFault = some o → o < 42) :
    s.controlRegister.getLsbD 0 = decide (s.port.run = .running) ∧
      s.controlRegister.getLsbD 1 = decide (s.port.run ≠ .uninitialised) ∧
      s.controlRegister.getLsbD 2 = s.requests.setupFault.isSome ∧
      (s.controlRegister.extractLsb' 8 6).toNat = s.requests.setupFault.getD 0 ∧
      ∀ k, (3 ≤ k ∧ k ≤ 7) ∨ 14 ≤ k → s.controlRegister.getLsbD k = false := by
  obtain ⟨fault, hsome⟩ : ∃ fault : Option (Fin 42), s.requests.setupFault = fault.map Fin.val := by
    cases h : s.requests.setupFault with
    | none => exact ⟨none, rfl⟩
    | some o => exact ⟨some ⟨o, hfault o h⟩, rfl⟩
  obtain ⟨h0, h1, h2, hoffset, hrest⟩ := controlBits_shows (s.port.run == .running) s.initialised fault
  rw [controlRegister_eq, hsome]
  refine ⟨h0.trans (beq_eq_decide _ _), h1.trans ?_, by rw [h2, Option.isSome_map], hoffset, fun k hk => ?_⟩
  · unfold State.initialised
    cases s.port.run <;> rfl
  · by_cases hlt : k < 16
    · exact hrest ⟨k, hlt⟩ hk
    · exact BitVec.getLsbD_of_ge _ k (by omega)

/-- Settles O14: each register's bits, and the frames of the commands. -/
theorem registersReadAndWriteTheirItems : Obligations.RegistersReadAndWriteTheirItems := by
  refine ⟨⟨rfl, fun v => rfl⟩, fun s => ?_, fun v s => ⟨⟨_, rfl, toNat_extract_append _ _, rfl⟩,
    ⟨_, rfl, toNat_append_extract _ _, rfl⟩⟩, fun r s hfault => ⟨_, rfl, rfl, ?_, ?_, ?_, ?_, ?_, ?_⟩⟩
  · refine ⟨_, _, rfl, rfl, fun h => ?_, fun h => ?_, ?_, rfl⟩
    · simp [State.drive, State.emptyLatch, h, IdentNext.value, IdentNext.other]
    · simp [State.drive, State.emptyLatch, h, IdentNext.value, IdentNext.other]
    · cases h : s.port.ident <;> simp [IdentNext.other]
  · rintro rfl
    exact controlRegister_shows hfault
  · rintro rfl
    exact ⟨causeSet_zeroExtend s, toNat_zeroExtend_lt _⟩
  · rintro rfl
    exact ⟨causeEnabled_zeroExtend s, toNat_zeroExtend_lt _⟩
  · rintro rfl
    simp [State.registerValue]
  · rintro rfl
    have := s.port.pointer.isLt
    simp [State.registerValue, BitVec.extractLsb'_toNat, Nat.shiftRight_eq_div_pow]
    omega
  · rintro rfl
    rfl

/-! ### The pair latch (R175) -/

theorem exec_dataRead (s : State) :
    exec .dataRead s =
      .next
        { s with
          busData := s.dataValue
          port := { s.port with pointer := s.port.pointer + 1, latch := s.dataLatch } } := rfl

theorem toNat_pointer_succ (p : Addr) : (p + 1).toNat = (p.toNat + 1) % 131072 := by
  rw [BitVec.toNat_add]
  rfl

theorem dataValue_of_captured {s : State} {w : Word} (h : s.port.latch = some (s.port.pointer, w)) :
    s.dataValue = w ∧ s.dataLatch = none := by
  simp [State.dataValue, State.dataLatch, h]

theorem dataValue_of_not_captured {s : State} (h : ∀ w, s.port.latch ≠ some (s.port.pointer, w)) :
    s.dataValue = Memory.read s.cue s.port.pointer.toNat ∧ s.dataLatch = latchAfterRead s.cue s.port.pointer := by
  unfold State.dataValue State.dataLatch
  cases hlatch : s.port.latch with
  | none => exact ⟨rfl, rfl⟩
  | some c =>
    obtain ⟨a, w⟩ := c
    have ha : a ≠ s.port.pointer := fun heq => h w (by rw [hlatch, heq])
    simp [ha]

theorem latchAfterRead_of_mem {m : Memory} {a : Addr} (h : a.toNat ∈ pairHighWords) :
    latchAfterRead m a = some (a + 1, Memory.read m (a.toNat + 1)) := if_pos h

/-- An access of the host other than a DATA read empties the latch. -/
theorem latch_of_hostAccess {c : Instr} {s t : State} (hc : hostAccess c = true) (hread : c ≠ .dataRead)
    (h : exec c s = .next t) : t.port.latch = none := by
  cases c with
  | dataRead => exact absurd rfl hread
  | dataWrite v =>
    obtain ⟨u, hu, -, -, -, hframe⟩ := exec_dataWrite v s
    cases hu.symm.trans h
    rw [hframe]
  | registerWriteOther write =>
    cases write with
    | ident v => cases h; rfl
    | resetWithin m => cases h; rfl
    | control v =>
      cases h
      unfold State.writeControl
      split
      · rfl
      · split
        · simp [writeRunSet_frame]
        · simp [writeRunClear_frame]
  | runStart => cases h; simp [writeRunSet_frame]
  | resume => cases h; simp [writeRunSet_frame]
  | halt => cases h; simp [writeRunClear_frame]
  | reportReleaseWrite v =>
    cases h
    unfold State.release
    dsimp only
    split <;> rfl
  | _ => first | (cases h; rfl) | cases hc

/-- An event of the part leaves the pointer and the latch. -/
theorem latch_of_partEvent {c : Instr} {s t : State} (hc : partEvent c = true) (h : exec c s = .next t) :
    t.port.pointer = s.port.pointer ∧ t.port.latch = s.port.latch := by
  have hpointer : mayChange c .pointer = false := by cases c <;> first | rfl | cases hc
  have hlatch : mayChange c .latch = false := by cases c <;> first | rfl | cases hc
  exact ⟨agrees_of_exec h hpointer, agrees_of_exec h hlatch⟩

theorem latch_of_runAll {events : List Instr} {s t : State} (hc : ∀ c ∈ events, partEvent c = true)
    (h : runAll events s = .next t) : t.port.pointer = s.port.pointer ∧ t.port.latch = s.port.latch := by
  induction events generalizing s with
  | nil => cases h; exact ⟨rfl, rfl⟩
  | cons c events ih =>
    rw [runAll, exec_eq_next] at h
    obtain ⟨hpointer, hlatch⟩ := latch_of_partEvent (hc c (List.mem_cons_self ..)) (exec_eq_next c s)
    obtain ⟨hpointer', hlatch'⟩ := ih (fun d hd => hc d (List.mem_cons_of_mem _ hd)) h
    exact ⟨hpointer'.trans hpointer, hlatch'.trans hlatch⟩

/-- Settles O16: what a DATA read returns and captures, and that no event of the part moves the capture. -/
theorem pairLatchCapturesLowWord : Obligations.PairLatchCapturesLowWord := by
  refine ⟨fun s => ⟨_, exec_dataRead s, toNat_pointer_succ _, fun w hw => dataValue_of_captured hw, fun hne => ?_, rfl⟩,
    fun c s t => latch_of_hostAccess, fun s t a b g r h => ?_, ?_⟩
  · obtain ⟨hvalue, hlatch⟩ := dataValue_of_not_captured hne
    exact ⟨hvalue, fun hmem => hlatch.trans (latchAfterRead_of_mem hmem), fun hmem => hlatch.trans (if_neg hmem)⟩
  · rcases h with h | h <;> cases h <;> rfl
  · intro s t u v events hlatch hmem hevents hread hrun hagain
    obtain ⟨hvalue, hcapture⟩ := dataValue_of_not_captured (s := s) fun w => by rw [hlatch]; exact nofun
    rw [latchAfterRead_of_mem hmem] at hcapture
    rw [exec_dataRead, Host.Outcome.next.injEq] at hread
    obtain ⟨hpointer, hkept⟩ := latch_of_runAll hevents hrun
    have hheld : u.port.latch = some (u.port.pointer, Memory.read s.cue (s.port.pointer.toNat + 1)) := by
      rw [hkept, hpointer, ← hread]
      exact hcapture
    obtain ⟨hvalue', hempty⟩ := dataValue_of_captured hheld
    rw [exec_dataRead, Host.Outcome.next.injEq] at hagain
    rw [← hread, ← hagain]
    dsimp only
    rw [hvalue, hvalue', hempty]
    exact ⟨rfl, rfl⟩

end Sys2Proof.Proofs

/-! The position counter: steps, the ends of the range, and edge readings (R2 to R14, R146). -/

namespace Sys2Proof.Proofs
open Sys2Proof.Machine

/-! ### Perforation steps -/

/-- The step that B makes by taking a level while A stays low (R2). -/
def stepOf (b : Bool) : StepDirection := if b then .reverse else .forward

theorem recogniseStep_of_change (b : Bool) : recogniseStep false (!b) false b = some (stepOf b) := by
  cases b <;> rfl

theorem recogniseStep_eq_none {oldA oldB newA newB : Bool} (h : ¬(oldA = false ∧ newA = false ∧ oldB ≠ newB)) :
    recogniseStep oldA oldB newA newB = none := by
  cases oldA <;> cases oldB <;> cases newA <;> cases newB <;> simp [recogniseStep] at h ⊢

theorem direction_stepOf (b : Bool) : (stepOf b).direction = if b then .reverse else .forward := by cases b <;> rfl

theorem afterStep_stepOf (st : PositionState) (b : Bool) :
    st.afterStep (stepOf b) =
      if st = .limit .high ∧ b = true ∨ st = .limit .low ∧ b = false then .good else st := by
  cases b <;> cases st with
  | limit e => cases e <;> simp [PositionState.afterStep, stepOf]
  | _ => simp [PositionState.afterStep]

theorem isLimit_iff {st : PositionState} : st.isLimit = true ↔ ∃ e, st = .limit e := by
  cases st <;> simp [PositionState.isLimit]

/-- A recognised step that is counted. -/
theorem exec_perfLineChange_of_counted {b : Bool} {s : State} (hA : s.position.perfA = false) (hB : s.position.perfB = !b)
    (h : s.position.refuses (stepOf b) = false) :
    exec (.perfLineChange false b) s = .next (((s.takeLevels false b).noteStep (stepOf b)).countStep (stepOf b)) := by
  have hstep : recogniseStep s.position.perfA s.position.perfB false b = some (stepOf b) := by
    rw [hA, hB, recogniseStep_of_change]
  have hrefuses : (s.takeLevels false b).position.refuses (stepOf b) = false := h
  rw [exec_perfLineChange_of_some hstep, State.perfStep, hrefuses]
  exact congrArg Host.Outcome.next (handTogether_of_nil rfl)

/-- A recognised step that is refused. -/
theorem exec_perfLineChange_of_refused {b : Bool} {s : State} (hA : s.position.perfA = false) (hB : s.position.perfB = !b)
    (h : s.position.refuses (stepOf b) = true) :
    exec (.perfLineChange false b) s =
      .next
        ((((s.takeLevels false b).noteStep (stepOf b)).refuseStep (stepOf b)).1.handTogether
          [(((s.takeLevels false b).noteStep (stepOf b)).refuseStep (stepOf b)).2]) := by
  have hstep : recogniseStep s.position.perfA s.position.perfB false b = some (stepOf b) := by
    rw [hA, hB, recogniseStep_of_change]
  have hrefuses : (s.takeLevels false b).position.refuses (stepOf b) = true := h
  rw [exec_perfLineChange_of_some hstep, State.perfStep, hrefuses]
  rfl

theorem frame_bounds (p : Position) :
    p.gauge.perfs * p.frame ≤ p.count ∧ p.count < p.gauge.perfs * p.frame + p.gauge.perfs ∧
      p.phase = p.count - p.gauge.perfs * p.frame := by
  unfold Position.frame Position.phase
  cases p.gauge <;> simp only [Gauge.perfs] <;> omega

/-- The counter after a counted step. -/
theorem countStep_position (s : State) (b : Bool) :
    (((s.takeLevels false b).noteStep (stepOf b)).countStep (stepOf b)).position =
      { s.position with
        perfA := false, perfB := b, count := if b then s.position.count - 1 else s.position.count + 1
        stillness := .running s.setup.videoMode, direction := if b then .reverse else .forward
        state :=
          if s.position.state = .limit .high ∧ b = true ∨ s.position.state = .limit .low ∧ b = false then .good
          else s.position.state } := by
  rw [← afterStep_stepOf, ← direction_stepOf]
  unfold State.countStep
  cases b <;> simp [State.noteStep, State.takeLevels, stepOf, StepDirection.applied]

theorem countStep_eq (s : State) (d : StepDirection) :
    s.countStep d =
      { s with
        position := (s.countStep d).position
        matrix :=
          if (s.countStep d).position.frame = s.position.frame then s.matrix else (s.blip .filmFrame).matrix } := by
  have hposition : (s.countStep d).position =
      { s.position with count := d.applied s.position.count, state := s.position.state.afterStep d } := by
    simp [State.countStep]
  rw [hposition]
  unfold State.countStep State.blipIf
  by_cases hframe : ({ s.position with count := d.applied s.position.count, state := s.position.state.afterStep d } :
      Position).frame = s.position.frame
  · rw [if_neg (by simpa using hframe), if_pos hframe]
  · rw [if_pos (by simpa using hframe), if_neg hframe]
    rfl

/-- Settles O18: the recognised step, its count and its blip. -/
theorem perforationStepIsCounted : Obligations.PerforationStepIsCounted := by
  refine ⟨fun a b s h => exec_perfLineChange_of_none (recogniseStep_eq_none h), fun s => ?_, fun b s hA hB => ?_⟩
  · by_cases h : s.position.stillness = .stopped
    · exact ⟨s, exec_stillnessTimerExpiry_of_stopped h, h, fun hne => absurd h hne, fun _ => rfl, rfl⟩
    · exact ⟨_, exec_stillnessTimerExpiry_of_running h, rfl, fun _ => rfl, fun heq => absurd heq h, rfl⟩
  · intro k p hlow hhigh
    have hrefuses : s.position.refuses (stepOf b) = false := by
      rw [Bool.eq_false_iff]
      cases b with
      | true =>
        intro h
        have := refuses_reverse_iff.mp h
        change k * -65536 ≤ s.position.count - 1 at hlow
        omega
      | false =>
        intro h
        have := refuses_forward_iff.mp h
        change s.position.count + 1 ≤ k * 1048575 + (k - 1) at hhigh
        omega
    have hposition := countStep_position s b
    have heq := countStep_eq ((s.takeLevels false b).noteStep (stepOf b)) (stepOf b)
    refine ⟨_, exec_perfLineChange_of_counted hA hB hrefuses, ?_, ?_, ?_, ?_⟩
    · rw [hposition, ← hA]
    · have hbounds := frame_bounds (((s.takeLevels false b).noteStep (stepOf b)).countStep (stepOf b)).position
      rw [hposition] at hbounds ⊢
      exact hbounds
    · rw [congrArg State.matrix heq]
      rfl
    · rw [heq]
      rfl

theorem limitRecord_stepOf (f : Int) (b : Bool) :
    limitRecord f (stepOf b) =
      { kind := .limit, frame := f, slot := none, serial := 0
        detail := if b then [1, 0xFFFF, 0x0000, 2] else [2, 0x000F, 0xFFFF, 1] } := by
  cases b <;> rfl

/-- The frame at an end of the range. -/
theorem frame_of_end {p : Position} {b : Bool}
    (h : p.count = if b then p.gauge.perfs * -65536 else p.gauge.perfs * 1048575 + (p.gauge.perfs - 1)) :
    p.frame = if b then -65536 else 1048575 := by
  have hpos := perfs_pos p.gauge
  cases b with
  | true => exact (frame_of_count (r := 0) (by simpa using h) (by omega) hpos).1
  | false => exact (frame_of_count (f := 1048575) (r := p.gauge.perfs - 1) h (by omega) (by omega)).1

/-- Settles O19: at an end of the range the step is refused. -/
theorem stepAtLimitIsRefused : Obligations.StepAtLimitIsRefused := by
  intro b s hA hB k hcount noted
  have hrefuses : s.position.refuses (stepOf b) = true := by
    cases b with
    | true => exact refuses_reverse_iff.mpr hcount.le
    | false => exact refuses_forward_iff.mpr hcount.ge
  have hexec := exec_perfLineChange_of_refused hA hB hrefuses
  have hnoted : (s.takeLevels false b).noteStep (stepOf b) = { s with position := noted } := by
    unfold noted
    rw [← direction_stepOf, ← hA]
    rfl
  rw [hnoted] at hexec
  refine ⟨fun hlimit => ?_, fun hlimit => ?_⟩
  · rw [hexec, State.refuseStep, if_pos (isLimit_iff.mpr hlimit)]
    exact congrArg Host.Outcome.next (handTogether_of_nil rfl)
  · have hframe : noted.frame = if b then -65536 else 1048575 := frame_of_end hcount
    have hend : (stepOf b).rangeEnd = if b then .low else .high := by cases b <;> rfl
    rw [hexec, State.refuseStep, if_neg fun h => (isLimit_iff.mp h).elim fun e he => hlimit e he]
    refine congrArg Host.Outcome.next ((handTogether_of_singleton rfl).trans ?_)
    rw [limitRecord_stepOf, hend, hframe]
    rfl

/-! ### Edge readings -/

/-- A reading that does not make the state FAULT faults no pass. -/
theorem exec_edgeReading_of_not_fault {v : BitVec 24} {valid : Bool} {s t : State} {rs : List Record}
    (h : s.edgeReading v valid = (t, rs)) (hfault : t.position.state = .fault → s.position.state = .fault) :
    exec (.edgeReading v valid) s = .next (t.handTogether [rs, []]) := by
  have hreaches : s.positionFaultReaches t = false := by
    unfold State.positionFaultReaches
    rw [Bool.and_eq_false_iff]
    exact .inl (decide_eq_false fun h => h.1 (hfault h.2))
  rw [exec_edgeReading, h]
  dsimp only
  rw [hreaches]
  rfl

theorem edgeReading_of_ignored {v : BitVec 24} {valid : Bool} {s : State} (h : s.ignoresReading valid = true) :
    s.edgeReading v valid = (s, []) := if_pos h

theorem exec_edgeReading_of_ignored {v : BitVec 24} {valid : Bool} {s : State} (h : s.ignoresReading valid = true) :
    exec (.edgeReading v valid) s = .next s := by
  rw [exec_edgeReading_of_not_fault (edgeReading_of_ignored h) id]
  exact congrArg Host.Outcome.next (handTogether_of_nil rfl)

theorem ignoresReading_of_limit {s : State} (h : ∃ e, s.position.state = .limit e) (valid : Bool) :
    s.ignoresReading valid = true := by
  simp [State.ignoresReading, isLimit_iff.mpr h]

theorem edgeReading_follow {v : BitVec 24} {s : State} (hmode : s.setup.edgeMode = .follow)
    (hstate : s.position.state.isLimit = false) :
    s.edgeReading v true =
      s.followReading (s.setup.gateFrame v) (s.setup.gateFrame v - s.position.frame) := by
  unfold State.edgeReading State.ignoresReading
  simp [hmode, hstate]

theorem edgeReading_watch {v : BitVec 24} {s : State} (hmode : s.setup.edgeMode = .watch)
    (hstate : s.position.state.isLimit = false) :
    s.edgeReading v true =
      s.watchReading (s.setup.gateFrame v) (s.setup.gateFrame v - s.position.frame) := by
  unfold State.edgeReading State.ignoresReading
  simp [hmode, hstate]

theorem agrees_iff {st : Setup} {d : Int} : st.agrees d = true ↔ d.natAbs ≤ st.edgeTolerance := decide_eq_true_iff

theorem agrees_eq_false {st : Setup} {d : Int} (h : ¬d.natAbs ≤ st.edgeTolerance) : st.agrees d = false :=
  decide_eq_false h

/-- A re-synchronised counter (R13). -/
theorem resynchronise_eq (s : State) (g d : Int) :
    (s.resynchronise g d).1 =
      { s with
        position :=
          { s.position with
            count := s.position.gauge.perfs * clampFrame g + s.position.phase, state := .good }
        matrix := ((if clampFrame g = s.position.frame then s else s.blip .filmFrame).blip .slip).matrix
        port := { s.port with causes := s.port.causes ||| Cause.fault.mask } } := by
  unfold State.resynchronise State.blipIf
  by_cases hframe : clampFrame g = s.position.frame
  · simp only [hframe, ne_eq, not_true_eq_false, decide_false, Bool.false_eq_true, if_false, if_true]
    rfl
  · simp only [hframe, ne_eq, not_false_eq_true, decide_true, if_true, if_false]
    rfl

/-- Settles O20, by the position state. -/
theorem followModeReading : Obligations.FollowModeReading := by
  refine ⟨fun v valid s hmode => exec_edgeReading_of_ignored (by simp [State.ignoresReading, hmode]), fun v s hmode => ?_⟩
  intro g d clamped
  have hread (hstate : s.position.state.isLimit = false) : s.edgeReading v true = s.followReading g d :=
    edgeReading_follow hmode hstate
  refine ⟨exec_edgeReading_of_ignored rfl, fun e he => exec_edgeReading_of_ignored (ignoresReading_of_limit ⟨e, he⟩ _),
    fun hgood => ?_, fun held hsuspect => ?_⟩
  · rw [hgood] at hread
    specialize hread rfl
    unfold State.followReading at hread
    rw [hgood] at hread
    dsimp only at hread
    refine ⟨fun hagree => ?_, fun hdisagree => ?_⟩
    · rw [if_pos (agrees_iff.mpr hagree)] at hread
      rw [exec_edgeReading_of_not_fault hread id]
      exact congrArg Host.Outcome.next (handTogether_of_nil rfl)
    · rw [if_neg (by rw [agrees_iff]; omega)] at hread
      rw [exec_edgeReading_of_not_fault hread nofun]
      exact congrArg Host.Outcome.next (handTogether_of_nil rfl)
  · rw [hsuspect] at hread
    specialize hread rfl
    unfold State.followReading at hread
    rw [hsuspect] at hread
    dsimp only at hread
    refine ⟨fun hagree => ?_, fun hdisagree hne => ?_, fun hdisagree heq => ?_⟩
    · rw [if_pos (agrees_iff.mpr hagree)] at hread
      rw [exec_edgeReading_of_not_fault hread nofun]
      exact congrArg Host.Outcome.next (handTogether_of_singleton rfl)
    · rw [if_neg (by rw [agrees_iff]; omega), if_neg hne] at hread
      rw [exec_edgeReading_of_not_fault hread nofun]
      exact congrArg Host.Outcome.next (handTogether_of_nil rfl)
    · rw [if_neg (by rw [agrees_iff]; omega), if_pos heq] at hread
      have hresult := resynchronise_eq s g d
      have hbounds := phase_bounds s.position
      have hframe := frame_of_count (p := (s.resynchronise g d).1.position) (f := clamped) (r := s.position.phase)
        (by rw [hresult]; rfl) hbounds.1 (by rw [hresult]; exact hbounds.2)
      refine ⟨(s.resynchronise g d).1.hand (slipRecord s.position.frame clamped g d .follow), ?_, ?_⟩
      · rw [exec_edgeReading_of_not_fault (t := (s.resynchronise g d).1) (rs := (s.resynchronise g d).2) hread
          (by rw [hresult]; exact nofun)]
        exact congrArg Host.Outcome.next (handTogether_of_singleton rfl)
      · rw [hresult] at hframe ⊢
        refine ⟨by simpa using hframe.1, by simpa using hframe.2, by simp, by simp, by simp, ?_, ?_⟩ <;> simp only [State.hand_frame] <;> rfl

end Sys2Proof.Proofs

/-! The report of a change of pass state (R150, R186), and an edge reading in WATCH mode, which may fault a pass (R14,
R146). -/

namespace Sys2Proof.Proofs
open Sys2Proof.Machine

/-! ### The PASS record -/

theorem passHeading_eq : ∀ (before state : PassState) (openEnded : Bool) (condition : Condition),
    BitVec.ofNat 4 before.code ++ BitVec.ofNat 4 state.code ++ (BitVec.ofBool openEnded ++ (0 : BitVec 3)) ++
        BitVec.ofNat 4 condition.code =
      natWord (before.code * 4096 + state.code * 256 + (if openEnded then 128 else 0) + condition.code) := by
  intro before state openEnded condition
  cases before <;> cases state <;> cases openEnded <;> cases condition <;> rfl

theorem extract_high_24 (x : BitVec 24) : x.extractLsb' 8 16 = natWord (x.toNat / 256) := by
  apply BitVec.eq_of_toNat_eq
  simp [natWord, BitVec.extractLsb'_toNat, Nat.shiftRight_eq_div_pow]

theorem extract_low_24 (x : BitVec 24) : x.extractLsb' 0 16 = natWord (x.toNat % 65536) := by
  apply BitVec.eq_of_toNat_eq
  simp [natWord, BitVec.extractLsb'_toNat]

theorem extract_middle_24 (x y : BitVec 24) :
    x.extractLsb' 0 8 ++ y.extractLsb' 16 8 = natWord (x.toNat % 256 * 256 + y.toNat / 65536) := by
  have hy := y.isLt
  apply BitVec.eq_of_toNat_eq
  rw [BitVec.toNat_append, ← Nat.shiftLeft_add_eq_or_of_lt (BitVec.isLt _), BitVec.extractLsb'_toNat,
    BitVec.extractLsb'_toNat, Nat.shiftLeft_eq, Nat.shiftRight_eq_div_pow]
  simp [natWord]
  omega

theorem toNat_ofInt_24 (f : Int) : (BitVec.ofInt 24 f).toNat = (f % 16777216).toNat := BitVec.toNat_ofInt f

theorem toNat_count24 (n : Nat) : (count24 n).toNat = min n 16777215 := by
  simp only [count24, BitVec.toNat_ofNat]
  omega

/-- The PASS record is the report whose values are packed as R186 gives them. -/
theorem passRecord_eq (s : State) (before : PassState) (p : Pass) :
    passRecord s before p = passReport s.sequencer.fieldFrame before p := by
  unfold passRecord passReport passDetail
  simp only [passHeading_eq, extract_high_24, extract_low_24, extract_middle_24, toNat_ofInt_24, toNat_count24]
  congr 1
  have hcount : p.startFieldCount.extractLsb' 0 16 = natWord (p.startFieldCount.toNat % 65536) := by
    apply BitVec.eq_of_toNat_eq
    simp [natWord, BitVec.extractLsb'_toNat]
  rw [hcount]

/-! ### A change of pass state -/

theorem changePass_snd (s : State) (p : Pass) :
    (s.changePass p).2 = [passReport s.sequencer.fieldFrame s.pass.state p] := by
  rw [← passRecord_eq]; rfl

@[simp] theorem changePass_pass (s : State) (p : Pass) : (s.changePass p).1.pass = p := by
  simp [State.changePass]

theorem read_changePass_other (s : State) (p : Pass) {a : Nat} (ha : ¬inPassBlock a) :
    Memory.read (s.changePass p).1.cue a = Memory.read s.cue a := (changesWithin_changePass s p).read ha

theorem causeSet_changePass (s : State) (p : Pass) (c : Cause) :
    (s.changePass p).1.causeSet c = (s.causeSet c || (decide (c = .pass) && p.state.setsCause)) := by
  have hport : (s.setPass p).port = s.port := by simp
  unfold State.changePass
  dsimp only
  rw [causeSet_setCauseIf, causeSet_congr (congrArg Port.causes hport)]

/-- PASS GATE is high exactly while RECORDING (R149). -/
theorem passGate_eq (s : State) : s.generatorLevel .passGate = (s.pass.state == .recording) := rfl

theorem not_inPassBlock_of_inRing {a : Nat} (h : inRing a) : ¬inPassBlock a := by
  unfold inRing at h; unfold inPassBlock; omega

/-! ### The matrix -/

theorem settle_edgeSeen (before after : State) (u : Fin 11) :
    (before.settle after).matrix.edgeSeen[u] =
      match after.setup.userSelection[u] with
      | some c => after.matrix.edgeSeen[u] || (after.counts u && !before.channel c && after.channel c)
      | none => after.matrix.edgeSeen[u] := by
  simp [State.settle] <;> rfl

theorem settle_hold (before after : State) (g : Fin 6) :
    (before.settle after).matrix.hold[g] =
      match after.setup.userSelection[gpoUser g] with
      | some c => if before.channel c = after.channel c then after.matrix.hold[g] else none
      | none => after.matrix.hold[g] := by
  simp [State.settle] <;> rfl

theorem blip_edgeSeen (s : State) (gen : Generator) (u : Fin 11) :
    (s.blip gen).matrix.edgeSeen[u] =
      match s.setup.userSelection[u] with
      | some c => s.matrix.edgeSeen[u] || (s.counts u && s.setup.channelSelection[c] == some gen)
      | none => s.matrix.edgeSeen[u] := by
  simp [State.blip] <;> rfl

theorem blip_hold (s : State) (gen : Generator) (g : Fin 6) :
    (s.blip gen).matrix.hold[g] =
      match s.setup.userSelection[gpoUser g] with
      | some c =>
        if s.setup.channelSelection[c] = some gen ∧ s.setup.aligned (gpoUser g) = false then
          some { value := !s.channel c, period := s.setup.videoMode }
        else s.matrix.hold[g]
      | none => s.matrix.hold[g] := by
  simp [State.blip] <;> rfl

theorem aligned_iff {st : Setup} {u : Fin 11} :
    st.aligned u = true ↔ ∀ h : u.val < 6, (st.gpoMode[u.val]'h).direct = false := by
  unfold Setup.aligned
  split
  · next h => simp [h]
  · next h => simp [h]

theorem aligned_gpoUser (st : Setup) (g : Fin 6) : st.aligned (gpoUser g) = !st.gpoMode[g].direct := by
  have h : (gpoUser g).val < 6 := g.isLt
  unfold Setup.aligned
  rw [dif_pos h]
  rfl

theorem ignores_iff {s : State} {u : Fin 11} : s.ignores u = true ↔ 6 ≤ u.val ∧ s.port.run = .halted := by
  simp [State.ignores, internalUser]

theorem counts_iff {s : State} {u : Fin 11} : s.counts u = true ↔ s.listens u := by
  unfold State.counts State.listens
  rw [Bool.and_eq_true_iff, aligned_iff, Bool.not_eq_true', Bool.eq_false_iff, ne_eq, ignores_iff, not_and]

theorem setPass_matrix (s : State) (p : Pass) : (s.setPass p).matrix = (s.settle { s with pass := p }).matrix := by
  unfold State.setPass
  dsimp only
  split <;> rfl

theorem changePass_matrix (s : State) (p : Pass) :
    (s.changePass p).1.matrix = (s.settle { s with pass := p }).matrix := by
  rw [← setPass_matrix]
  simp [State.changePass]

/-- A channel that selects a film-domain pulse is low but for an inversion (R152). -/
theorem channel_of_pulse {s : State} {c : Fin 8} {gen : Generator} (h : s.setup.channelSelection[c] = some gen)
    (hgen : s.generatorLevel gen = false) : s.channel c = s.inverted c := by
  simp [State.channel, State.signal, h, hgen]

/-! ### WATCH mode -/

/-- A reading that faults the position, with no pass RECORDING. -/
theorem exec_edgeReading_of_fault {v : BitVec 24} {s t : State} {rs : List Record} (h : s.edgeReading v true = (t, rs))
    (hbefore : s.position.state ≠ .fault) (hafter : t.position.state = .fault) :
    exec (.edgeReading v true) s =
      .next
        ((t.faultPassIf (t.pass.state == .recording) .positionFault).1.handTogether
          [rs, (t.faultPassIf (t.pass.state == .recording) .positionFault).2]) := by
  have hreaches : s.positionFaultReaches t = (t.pass.state == .recording) := by
    unfold State.positionFaultReaches
    rw [decide_eq_true ⟨hbefore, hafter⟩, Bool.true_and]
  rw [exec_edgeReading, h, hreaches]

/-- The SLIP record of a position fault in WATCH mode (R14). -/
def watchSlip (s : State) (g d : Int) : Record := slipRecord s.position.frame s.position.frame g d .watch

/-- The part once its position has become FAULT (R14). -/
def State.watchFault (s : State) : State := ((s.setPositionState .fault).blip .slip).setCause .fault

theorem watchFault_eq (s : State) :
    State.watchFault s =
      { s with
        position := { s.position with state := .fault }
        matrix := (s.blip .slip).matrix
        port := { s.port with causes := s.port.causes ||| Cause.fault.mask } } := rfl

section WatchFault
variable {s : State} {u : Fin 11} {c : Fin 8}

theorem edgeSeen_watchFault (huser : s.setup.userSelection[u] = some c) (hchannel : s.setup.channelSelection[c] = some .slip)
    (hlistens : s.listens u) (p : Pass) : ((State.watchFault s).changePass p).1.matrix.edgeSeen[u] = true := by
  have hblip : (State.watchFault s).matrix.edgeSeen[u] = true := by
    rw [watchFault_eq]
    dsimp only
    rw [blip_edgeSeen, huser]
    simp [counts_iff.mpr hlistens, hchannel]
  have huser' : ({ State.watchFault s with pass := p } : State).setup.userSelection[u] = some c := huser
  have hblip' : ({ State.watchFault s with pass := p } : State).matrix.edgeSeen[u] = true := hblip
  rw [changePass_matrix, settle_edgeSeen, huser', hblip']
  rfl

theorem hold_watchFault {line : Fin 6} (huser : s.setup.userSelection[gpoUser line] = some c)
    (hchannel : s.setup.channelSelection[c] = some .slip) (hdirect : s.setup.gpoMode[line].direct = true) (p : Pass) :
    ((State.watchFault s).changePass p).1.matrix.hold[line] =
      some { value := !s.channel c, period := s.setup.videoMode } := by
  have hblip : (State.watchFault s).matrix.hold[line] = some { value := !s.channel c, period := s.setup.videoMode } := by
    rw [watchFault_eq]
    dsimp only
    rw [blip_hold, huser]
    dsimp only
    rw [if_pos ⟨hchannel, by rw [aligned_gpoUser, hdirect]; rfl⟩]
  have huser' : ({ State.watchFault s with pass := p } : State).setup.userSelection[gpoUser line] = some c := huser
  have hsame : (State.watchFault s).channel c = ({ State.watchFault s with pass := p } : State).channel c := by
    have hbefore := channel_of_pulse (s := State.watchFault s) (gen := .slip) hchannel rfl
    have hafter := channel_of_pulse (s := { State.watchFault s with pass := p }) (gen := .slip) hchannel rfl
    exact hbefore.trans hafter.symm
  rw [changePass_matrix, settle_hold, huser']
  dsimp only
  rw [if_pos hsame]
  exact hblip

end WatchFault

theorem causesKept_handMixed (fuel : Nat) (s : State) (qs : List (List Record)) :
    CausesKept s (State.handMixed fuel s qs) := by
  induction fuel generalizing s qs with
  | zero => exact .refl s
  | succ fuel ih =>
    unfold State.handMixed
    split
    · exact .refl s
    · exact causesKept_handEach s _
    · dsimp only
      split
      · next r rest _ =>
        exact .trans (.trans (.of_port_eq rfl) (causesKept_hand s.drawWord.2 r)) (ih _ rest)
      · exact .of_port_eq rfl

theorem causesKept_handTogether (s : State) (qs : List (List Record)) : CausesKept s (s.handTogether qs) :=
  causesKept_handMixed _ s _

theorem takes_of_running {s : State} (hrun : s.port.run = .running) {k : ReportKind} (hscene : k ≠ .scene)
    (hhold : k ≠ .hold) : s.takes k = true := by
  simp [State.takes, hrun, hscene, hhold]

/-- The record of a change of pass state faulted in WATCH mode, and the causes it sets. -/
theorem wrote_watchFault {s : State} {rs : List Record} {p : Pass} {g d : Int} (hroom : s.hasRoom 2)
    (hrs : rs = [passReport s.sequencer.fieldFrame s.pass.state p]) :
    ∃ rs', s.wrote ((((State.watchFault s).changePass p).1).handTogether [[watchSlip s g d], rs]) rs' ∧
      rs'.Perm [watchSlip s g d, passReport s.sequencer.fieldFrame s.pass.state p] := by
  have hrun : ((State.watchFault s).changePass p).1.port.run = .running := by
    simpa [State.watchFault] using hroom.1
  have hwriter : ((State.watchFault s).changePass p).1.writer = s.writer := by simp [State.watchFault]
  have htakes {k : ReportKind} (h₁ : k ≠ .scene) (h₂ : k ≠ .hold) := takes_of_running hrun h₁ h₂
  have hall : ([[watchSlip s g d], rs].flatten.filter fun r => ((State.watchFault s).changePass p).1.takes r.kind) =
      [watchSlip s g d, passReport s.sequencer.fieldFrame s.pass.state p] := by
    rw [hrs]
    simp [htakes (k := .slip), htakes (k := .pass), watchSlip, slipRecord, positionRecord, passReport]
  obtain ⟨rs', hwrote, hperm, -⟩ := exists_wrote_handTogether
    (s := ((State.watchFault s).changePass p).1) (qs := [[watchSlip s g d], rs])
    (by rw [hall]; exact hasRoom_congr hroom (hrun.trans hroom.1.symm) hwriter)
  refine ⟨rs', wrote_before hwrote hwriter fun a ha => ?_, by rw [hall] at hperm; exact hperm⟩
  rw [read_changePass_other _ p (not_inPassBlock_of_inRing ha)]
  rfl

/-- Settles O21, by the position state and the pass. -/
theorem watchModeReading : Obligations.WatchModeReading := by
  intro v s hmode g d agrees clamped
  have hread (hstate : s.position.state.isLimit = false) : s.edgeReading v true = s.watchReading g d :=
    edgeReading_watch hmode hstate
  have hagree (hgood : s.position.state = .good) (h : agrees) : s.edgeReading v true = (s, []) := by
    rw [hread (by rw [hgood]; rfl), State.watchReading, hgood]
    exact if_pos (agrees_iff.mpr h)
  have hfault (hgood : s.position.state = .good) (h : ¬agrees) :
      s.edgeReading v true = (State.watchFault s, [watchSlip s g d]) := by
    rw [hread (by rw [hgood]; rfl), State.watchReading, hgood]
    exact if_neg fun h' => h (agrees_iff.mp h')
  have hexec (hgood : s.position.state = .good) (h : ¬agrees) :=
    exec_edgeReading_of_fault (hfault hgood h) (by rw [hgood]; exact nofun) rfl
  refine ⟨exec_edgeReading_of_ignored rfl, fun e he => exec_edgeReading_of_ignored (ignoresReading_of_limit ⟨e, he⟩ _),
    fun hgood h => ?_, fun hstate h => ?_, fun hstate h => ?_, fun hgood h hpass => ?_, fun hgood h hpass => ?_⟩
  · rw [exec_edgeReading_of_not_fault (hagree hgood h) id]
    exact congrArg Host.Outcome.next (handTogether_of_nil rfl)
  · have hsame : s.edgeReading v true = (s, []) := by
      rw [hread (by rw [hstate]; rfl), State.watchReading, hstate]
      exact if_neg fun h' => h (agrees_iff.mp h')
    rw [exec_edgeReading_of_not_fault hsame id]
    exact congrArg Host.Outcome.next (handTogether_of_nil rfl)
  · have hgood : s.edgeReading v true = (s.setPositionState .good, []) := by
      rw [hread (by rw [hstate]; rfl), State.watchReading, hstate]
      exact if_pos (agrees_iff.mpr h)
    rw [exec_edgeReading_of_not_fault hgood fun _ => hstate]
    exact congrArg Host.Outcome.next (handTogether_of_nil rfl)
  · have hreaches : ((State.watchFault s).pass.state == .recording) = false := beq_eq_false_iff_ne.mpr hpass
    rw [hexec hgood h, hreaches]
    exact congrArg Host.Outcome.next (handTogether_of_singleton rfl)
  · have hreaches : ((State.watchFault s).pass.state == .recording) = true := beq_iff_eq.mpr hpass
    rw [hexec hgood h, hreaches]
    let p := s.pass.faultedWith .positionFault
    have hp : p = { s.pass with state := .faulted, condition := .positionFault, stopPending := false
                                expected := s.pass.expected - 1 } := by
      simp [p, Pass.faultedWith, hpass]
    have ht : (State.watchFault s).faultPassIf true .positionFault = (State.watchFault s).changePass p := rfl
    rw [ht]
    have hhand := causesKept_handTogether ((State.watchFault s).changePass p).1
      [[watchSlip s g d], ((State.watchFault s).changePass p).2]
    have hset := causeSet_changePass (State.watchFault s) p
    refine ⟨_, rfl, ?_, ?_, hhand _ ?_, hhand _ ?_, ?_, fun u c huser hchannel => ⟨fun hlistens => ?_, fun line hline hdirect => ?_⟩,
      fun hroom => ?_, ?_, ?_, ?_, ?_, ?_, fun a hpass' hring => ?_⟩
    · simp [State.watchFault, State.setPositionState]
    · rw [← hp]; simp
    · rw [hset]; simp [State.watchFault]
    · rw [hset]; simp [hp, PassState.setsCause]
    · rw [passGate_eq]; simp [hp]
    · simpa using edgeSeen_watchFault huser hchannel hlistens p
    · subst hline
      simpa using hold_watchFault huser hchannel hdirect p
    · have hrecords := wrote_watchFault (g := g) (d := d) hroom (changePass_snd (State.watchFault s) p)
      rw [hpass] at hrecords
      have hsame : (((State.watchFault s).changePass p).1.handTogether
          [[watchSlip s g d], ((State.watchFault s).changePass p).2]).pass = p := by simp
      rw [hsame]
      exact hrecords
    · simp [State.watchFault]
    · simp [State.watchFault]
    · simp [State.watchFault]
    · simp [State.watchFault]
    · simp [State.watchFault]
    · exact ((changesWithin_handTogether _ _).read hring).trans (read_changePass_other _ p hpass')

end Sys2Proof.Proofs

/-! What a run start lays out (R39, R54, R185), the set-up as words (R182), and the entries a run start aborts (R122). -/

namespace Sys2Proof.Proofs
open Sys2Proof.Machine

/-! ### The run start of a block that passes -/

theorem exec_runStart_of_valid {s : State} (hrun : s.port.run = .uninitialised) (h : validSetupBlock s.cue) :
    exec .runStart s = .next (s.emptyLatch.initialise (readSetup s.cue)) := by
  have hvalid : setupFirstInvalid s.emptyLatch.cue = none := setupFirstInvalid_eq_none_iff.mpr h
  have hset : s.emptyLatch.writeRunSet = s.emptyLatch.runStart := by
    unfold State.writeRunSet
    rw [show s.emptyLatch.port.run = .uninitialised from hrun]
  change Host.Outcome.next s.emptyLatch.writeRunSet = _
  rw [hset, runStart_of_valid hvalid]
  rfl

theorem slotWordAt_initialise (s : State) (st : Setup) (x : Slot) {k : Nat} (hk : k < 32) :
    slotWordAt (s.initialise st).cue x k = slotWordAt (layOutScenes s.cue) x k := by
  have hx := slotBase_bounds x
  exact read_initialise_scenes s st (by unfold inScenes; omega)

theorem isSceneList_initialise (s : State) (st : Setup) : isSceneList (s.initialise st).cue [0] :=
  isSceneList_congr (isSceneList_layOutScenes s.cue) (fun x _ _ => slotWordAt_initialise s st x (by omega))
    (slotWordAt_initialise s st 0 (by omega))

/-- The words of the base scene at its initialisation (R185). -/
def baseSceneWord (k : Nat) : Word :=
  if k = 0 ∨ k = 6 then 1 else if 1 ≤ k ∧ k ≤ 3 then 0xFFFF else if 15 ≤ k ∧ k ≤ 17 then 1024
  else if k = 21 then 256 else 0

theorem mem_baseSceneCells_or {k : Nat} (hk : k < 32) :
    (sceneBase + k, baseSceneWord k) ∈ baseSceneCells ∨
      (∀ c ∈ baseSceneCells, c.1 ≠ sceneBase + k) ∧ baseSceneWord k = 0 := by
  interval_cases k <;> simp [baseSceneCells, baseSceneWord, sceneBase, originBase]

theorem slotWordAt_layOutScenes_zero (m : Memory) {k : Nat} (hk : k < 32) :
    slotWordAt (layOutScenes m) 0 k = baseSceneWord k := by
  rcases mem_baseSceneCells_or hk with hmem | ⟨hother, hzero⟩
  · exact slotWordAt_layOutScenes_mem m hmem
  · rw [slotWordAt_layOutScenes_base m hk hother, hzero]

theorem length_fullFreeStack : fullFreeStack.length = 1023 := by
  unfold fullFreeStack
  rw [List.length_map, List.length_range]

theorem fullFreeStack_getElem? {n : Nat} (h : n < 1023) : fullFreeStack[n]? = some (Fin.ofNat 1024 (n + 1)) := by
  unfold fullFreeStack
  rw [List.getElem?_map, List.getElem?_range h]
  rfl

theorem fullFreeStack_getElem {l : List Slot} (hl : l = fullFreeStack) {n : Nat} (h : n < l.length) :
    (l[n]'h).val = n + 1 := by
  have hn : n < 1023 := by rw [← length_fullFreeStack, ← hl]; exact h
  have hget : l[n]? = some (Fin.ofNat 1024 (n + 1)) := by rw [hl]; exact fullFreeStack_getElem? hn
  rw [List.getElem_eq_iff h |>.mpr hget]
  exact Nat.mod_eq_of_lt (by omega)

/-- Settles O8: the scene table is the one laid out, the free stack the full one. -/
theorem runStartLaysOutSceneList : Obligations.RunStartLaysOutSceneList := by
  intro s hrun hvalid
  obtain ⟨-, -, -, -, -, -, hstack⟩ := initialise_requests s.emptyLatch (readSetup s.cue)
  have hlist := isSceneList_initialise s.emptyLatch (readSetup s.cue)
  refine ⟨_, exec_runStart_of_valid hrun hvalid, fun x hx k hk => ?_, fun k hk => ?_, ?_, fun n h => ?_, hlist,
    fun hm => ?_⟩
  · rw [slotWordAt_initialise _ _ x hk, slotWordAt_layOutScenes_of_ne _ hk hx]
  · rw [slotWordAt_initialise _ _ 0 hk, slotWordAt_layOutScenes_zero _ hk]
    rfl
  · rw [hstack, length_fullFreeStack]
  · exact fullFreeStack_getElem hstack h
  · exact listedCount_eq hlist ((changesWithin_initialise s.emptyLatch _).wf hm)

/-! ### The set-up as the words it was read from (R182) -/

theorem highWord_append (v w : Word) : highWord (v ++ w) = v := by
  unfold highWord
  refine BitVec.eq_of_getLsbD_eq fun i hi => ?_
  rw [BitVec.getLsbD_extractLsb', BitVec.getLsbD_append]
  simp [hi]

theorem lowWord_append (v w : Word) : lowWord (v ++ w) = w := by
  unfold lowWord
  refine BitVec.eq_of_getLsbD_eq fun i hi => ?_
  rw [BitVec.getLsbD_extractLsb', BitVec.getLsbD_append]
  simp [hi]

theorem natWord_toNat (w : Word) : natWord w.toNat = w := BitVec.eq_of_toNat_eq (by simp [natWord])

theorem signedWord_of_toInt (w : Word) : signedWord w.toInt = w := BitVec.ofInt_toInt

theorem signedDWord_of_toInt (v : DWord) : signedDWord v.toInt = v := BitVec.ofInt_toInt

/-- A word below a bound is one of the words below it. -/
theorem word_eq_natWord {w : Word} {n : Nat} (h : w.toNat < n) : ∃ k < n, w = natWord k := ⟨w.toNat, h, (natWord_toNat w).symm⟩

theorem flagWord_ne_zero {w : Word} (h : w = 0 ∨ w = 1) : flagWord (w != 0) = w := by
  rcases h with rfl | rfl <;> rfl

theorem twoFlags_word {w : Word} (h : w.toNat < 4) : flagWord (w.getLsbD 0) ||| (flagWord (w.getLsbD 1) <<< 1) = w := by
  have hall : ∀ k < 4, flagWord ((natWord k).getLsbD 0) ||| (flagWord ((natWord k).getLsbD 1) <<< 1) = natWord k := by
    decide
  obtain ⟨k, hk, rfl⟩ := word_eq_natWord h
  exact hall k hk

theorem gauge_word {w : Word} (h : w = 1 ∨ w = 3 ∨ w = 4) : natWord (gaugeOfWord w).perfs.toNat = w := by
  rcases h with rfl | rfl | rfl <;> rfl

/-- The number of a generator selected, 0 for none (R182). -/
theorem generator_word {w : Word} (h : w.toNat ≤ 15) :
    natWord (((Generator.ofNumber w.toNat).map Generator.number).getD 0) = w := by
  have hall : ∀ k < 16, natWord (((Generator.ofNumber (natWord k).toNat).map Generator.number).getD 0) = natWord k := by
    decide
  obtain ⟨k, hk, rfl⟩ := word_eq_natWord (w := w) (n := 16) (by omega)
  exact hall k hk

/-- The number of a channel selected, one higher than its index, 0 for none (R182). -/
theorem selection_word {w : Word} (h : w.toNat ≤ 8) :
    natWord (((selectionOfWord w).map fun c => c.val + 1).getD 0) = w := by
  have hall : ∀ k < 9, natWord (((selectionOfWord (natWord k)).map fun c => c.val + 1).getD 0) = natWord k := by
    decide
  obtain ⟨k, hk, rfl⟩ := word_eq_natWord (w := w) (n := 9) (by omega)
  exact hall k hk

theorem videoMode_word {w : Word} (h : w.toNat ≤ 2) :
    (match videoModeOfWord w with | .m60_32 => 0 | .m50_22 => 1 | .m60_22 => 2 : Word) = w := by
  obtain ⟨k, hk, rfl⟩ := word_eq_natWord (w := w) (n := 3) (by omega)
  interval_cases k <;> rfl

theorem edgeMode_word {w : Word} (h : w.toNat ≤ 2) :
    (match edgeModeOfWord w with | .off => 0 | .follow => 1 | .watch => 2 : Word) = w := by
  obtain ⟨k, hk, rfl⟩ := word_eq_natWord (w := w) (n := 3) (by omega)
  interval_cases k <;> rfl

/-- The first seventeen words of a set-up are those of the block it was read from. -/
theorem word_readSetup_low {m : Memory} (h : validSetupBlock m) {o : Nat} (ho : o < 17) :
    (readSetup m).word o = Memory.read m o := by
  have hvalid := h o (by omega)
  obtain ⟨h0, h13, hflags, -, -, -, -, -, -, -, h15, -⟩ := hvalid
  have hbase : signedDWord (readSetup m).edgeBase = Memory.readPair m 4 := signedDWord_of_toInt _
  interval_cases o
  · exact gauge_word (h0 rfl)
  · exact videoMode_word (h13 (.inl rfl))
  · exact flagWord_ne_zero (hflags (.inl rfl))
  · exact edgeMode_word (h13 (.inr rfl))
  · exact (congrArg highWord hbase).trans (highWord_append _ _)
  · exact (congrArg lowWord hbase).trans (lowWord_append _ _)
  · exact signedWord_of_toInt _
  · exact natWord_toNat _
  · exact natWord_toNat _
  · exact natWord_toNat _
  · exact natWord_toNat _
  · exact natWord_toNat _
  · exact flagWord_ne_zero (hflags (.inr (.inl rfl)))
  · exact flagWord_ne_zero (hflags (.inr (.inr rfl)))
  · exact natWord_toNat _
  · exact twoFlags_word (h15 rfl)
  · exact natWord_toNat _

/-- A set-up read from a valid block has the block's words. -/
theorem word_readSetup {m : Memory} (h : validSetupBlock m) {o : Nat} (ho : o < 42) :
    (readSetup m).word o = Memory.read m o := by
  obtain ⟨-, -, -, -, -, -, -, -, -, -, -, -, hchannel, huser, hgpo⟩ := h o ho
  by_cases hlow : o < 17
  · exact word_readSetup_low h hlow
  have hne (n : Nat) (hn : n < 17) : o ≠ n := by omega
  unfold Setup.word
  simp only [hne, if_false, Nat.reduceLT]
  by_cases hc : o < 25
  · rw [dif_pos ⟨by omega, hc⟩]
    have hsame : (readSetup m).channelSelection[o - 17] = Generator.ofNumber (Memory.read m o).toNat := by
      simp [readSetup, setupWord, show 17 + (o - 17) = o by omega]
    rw [hsame]
    exact generator_word (hchannel ⟨by omega, by omega⟩)
  · rw [dif_neg (by omega)]
    by_cases hu : o < 36
    · rw [dif_pos ⟨by omega, hu⟩]
      have hsame : (readSetup m).userSelection[o - 25] = selectionOfWord (Memory.read m o) := by
        simp [readSetup, setupWord, show 25 + (o - 25) = o by omega]
      rw [hsame]
      exact selection_word (huser ⟨by omega, by omega⟩)
    · rw [dif_neg (by omega), dif_pos ⟨by omega, ho⟩]
      have hsame : (readSetup m).gpoMode[o - 36] =
          { direct := (Memory.read m o).getLsbD 0, inverted := (Memory.read m o).getLsbD 1 } := by
        simp [readSetup, setupWord, show 36 + (o - 36) = o by omega]
      rw [hsame]
      exact twoFlags_word (hgpo ⟨by omega, by omega⟩)

/-! ### An entry finished -/

theorem read_finishCells (m : Memory) (i : Fin 32) (r : Result) {c : Nat × Word} (h : c ∈ finishCells i r) :
    Memory.read (Memory.writeAll m (finishCells i r)) c.1 = c.2 :=
  Memory.read_writeAll_mem m _ c h (by simp [finishCells, pairCells]; omega)

/-- The code of a finished entry, its results, and the STATE that goes with the code (R97, R102). -/
theorem finished_finishEntry (s : State) (i : Fin 32) (r : Result) :
    finished (s.finishEntry i r).cue i r.code.word.toNat r.a r.b := by
  have hcell (k : Nat) (w : Word) (h : (entryBase i + k, w) ∈ finishCells i r) :
      Memory.read (Memory.writeAll s.cue (finishCells i r)) (entryBase i + k) = w := read_finishCells s.cue i r h
  refine ⟨?_, ?_, ?_, ?_⟩
  · rw [entryWord_finishEntry_zero]
    cases r.code <;> rfl
  · rw [finishEntry_cue, natWord_toNat]
    exact hcell 3 _ (by simp [finishCells])
  · rw [finishEntry_cue]
    exact readPair_of_words (hcell 4 _ (by simp [finishCells, pairCells])) (hcell 5 _ (by simp [finishCells, pairCells]))
  · rw [finishEntry_cue]
    exact readPair_of_words (hcell 6 _ (by simp [finishCells, pairCells])) (hcell 7 _ (by simp [finishCells, pairCells]))

theorem finished_of_code {m : Memory} {i : Fin 32} {r : Result} {n : Nat} {a b : DWord}
    (h : finished m i r.code.word.toNat r.a r.b) (hn : r.code.word.toNat = n) (ha : r.a = a) (hb : r.b = b) :
    finished m i n a b := by
  subst hn ha hb
  exact h

theorem finished_congr {m m' : Memory} {i : Fin 32} {n : Nat} {a b : DWord} (h : finished m i n a b)
    (hword : ∀ k, k < 64 → entryWord m' i k = entryWord m i k) : finished m' i n a b := by
  obtain ⟨h0, h3, h4, h6⟩ := h
  have hpair (k : Nat) (hk : k + 1 < 64) : Memory.readPair m' (entryBase i + k) = Memory.readPair m (entryBase i + k) := by
    have hhigh := hword k (by omega)
    have hlow := hword (k + 1) hk
    unfold entryWord at hhigh hlow
    unfold Memory.readPair
    rw [hhigh, Nat.add_assoc, hlow]
  exact ⟨(hword 0 (by omega)).trans h0, (hword 3 (by omega)).trans h3, (hpair 4 (by omega)).trans h4,
    (hpair 6 (by omega)).trans h6⟩

/-- Finishing an entry sets the REQUEST cause where its NOTIFY flag says so (R103). -/
theorem finishEntry_causes (s : State) (i : Fin 32) (r : Result) :
    (s.finishEntry i r).port.causes =
      if notifyFlag s.cue i then s.port.causes ||| Cause.request.mask else s.port.causes := by
  unfold State.finishEntry notifyFlag
  dsimp only
  split
  · rfl
  · rfl

theorem causeSet_finishEntry (s : State) (i : Fin 32) (r : Result) (c : Cause) :
    (s.finishEntry i r).causeSet c = (s.causeSet c || decide (c = .request) && notifyFlag s.cue i) := by
  cases hflag : notifyFlag s.cue i with
  | true =>
    have hcauses : (s.finishEntry i r).port.causes = (s.setCause .request).port.causes := by
      rw [finishEntry_causes, hflag]; rfl
    rw [causeSet_congr hcauses, causeSet_setCause, Bool.and_true]
  | false =>
    have hcauses : (s.finishEntry i r).port.causes = s.port.causes := by
      rw [finishEntry_causes, hflag]; rfl
    rw [causeSet_congr hcauses, Bool.and_false, Bool.or_false]

/-! ### The TAKEN entries at a run start (R122) -/

theorem abortTaken_of_taken {s : State} {i : Fin 32} (h : entryWord s.cue i 0 = 2) :
    s.abortTaken i = s.finishEntry i (refusedWith .aborted) := if_pos h

theorem abortTaken_of_not_taken {s : State} {i : Fin 32} (h : entryWord s.cue i 0 ≠ 2) : s.abortTaken i = s := if_neg h

theorem entryWord_abortTaken_other (s : State) {i j : Fin 32} (h : i = j → entryWord s.cue i 0 ≠ 2) {k : Nat}
    (hk : k < 64) : entryWord (s.abortTaken j).cue i k = entryWord s.cue i k := by
  by_cases htaken : entryWord s.cue j 0 = 2
  · rw [abortTaken_of_taken htaken]
    exact entryWord_finishEntry_other s (fun hji => h hji.symm (hji ▸ htaken)) _ hk
  · rw [abortTaken_of_not_taken htaken]

theorem entryWord_foldl_abortTaken_of_not_taken {is : List (Fin 32)} {s : State} {i : Fin 32}
    (h : entryWord s.cue i 0 ≠ 2) {k : Nat} (hk : k < 64) :
    entryWord (is.foldl State.abortTaken s).cue i k = entryWord s.cue i k := by
  induction is generalizing s with
  | nil => rfl
  | cons j is ih =>
    have hsame {k : Nat} (hk : k < 64) := entryWord_abortTaken_other s (i := i) (j := j) (fun _ => h) hk
    rw [List.foldl_cons, ih (by rw [hsame (by omega)]; exact h), hsame hk]

theorem finished_foldl_abortTaken {is : List (Fin 32)} {s : State} {i : Fin 32} (hi : i ∈ is)
    (h : entryWord s.cue i 0 = 2) : finished (is.foldl State.abortTaken s).cue i 9 0 0 := by
  induction is generalizing s with
  | nil => simp at hi
  | cons j is ih =>
    rw [List.foldl_cons]
    by_cases hij : i = j
    · subst hij
      have hdone : finished (s.abortTaken i).cue i 9 0 0 := by
        rw [abortTaken_of_taken h]
        exact finished_finishEntry s i (refusedWith .aborted)
      refine finished_congr hdone fun k hk => entryWord_foldl_abortTaken_of_not_taken ?_ hk
      rw [hdone.1]
      decide
    · refine ih ((List.mem_cons.mp hi).resolve_left hij) ?_
      rw [entryWord_abortTaken_other s (fun heq => absurd heq hij) (by omega), h]

theorem notifyFlag_abortTaken (s : State) (i j : Fin 32) : notifyFlag (s.abortTaken j).cue i = notifyFlag s.cue i := by
  have hword : entryWord (s.abortTaken j).cue i 2 = entryWord s.cue i 2 := by
    by_cases htaken : entryWord s.cue j 0 = 2
    · rw [abortTaken_of_taken htaken]
      refine entryWord_of_changesWithin (changesWithin_finishEntry s j _) ?_
      rintro ⟨l, hl, heq⟩
      have := ((entryBase_inj (by omega) (by unfold resultWord at hl; omega)).mp heq).2
      unfold resultWord at hl
      omega
    · rw [abortTaken_of_not_taken htaken]
  unfold notifyFlag
  rw [hword]

/-- The REQUEST cause after the abort of the entries of a list that are TAKEN. -/
theorem causeSet_foldl_abortTaken (is : List (Fin 32)) (s : State) (c : Cause) :
    (is.foldl State.abortTaken s).causeSet c =
      (s.causeSet c || decide (c = .request ∧ ∃ i ∈ is, entryWord s.cue i 0 = 2 ∧ notifyFlag s.cue i = true)) := by
  induction is generalizing s with
  | nil => simp
  | cons j is ih =>
    have hstate (i : Fin 32) : entryWord (s.abortTaken j).cue i 0 = 2 ↔ entryWord s.cue i 0 = 2 ∧ i ≠ j := by
      rw [entryWord_abortTaken]
      by_cases hij : i = j ∧ entryWord s.cue i 0 = stateTaken
      · rw [if_pos hij]
        exact ⟨fun h => absurd h (by decide), fun h => absurd hij.1 h.2⟩
      · rw [if_neg hij]
        exact ⟨fun h => ⟨h, fun heq => hij ⟨heq, h⟩⟩, And.left⟩
    have hhead : (s.abortTaken j).causeSet c =
        (s.causeSet c || decide (c = .request ∧ entryWord s.cue j 0 = 2 ∧ notifyFlag s.cue j = true)) := by
      by_cases htaken : entryWord s.cue j 0 = 2
      · rw [abortTaken_of_taken htaken, causeSet_finishEntry]
        simp [htaken]
      · rw [abortTaken_of_not_taken htaken, decide_eq_false fun h => htaken h.2.1, Bool.or_false]
    rw [List.foldl_cons, ih, hhead, Bool.or_assoc]
    simp only [notifyFlag_abortTaken, hstate]
    congr 1
    rw [Bool.eq_iff_iff, Bool.or_eq_true, decide_eq_true_iff, decide_eq_true_iff, decide_eq_true_iff]
    constructor
    · rintro (⟨hc, htaken, hflag⟩ | ⟨hc, i, hi, ⟨htaken, -⟩, hflag⟩)
      · exact ⟨hc, j, by simp, htaken, hflag⟩
      · exact ⟨hc, i, by simp [hi], htaken, hflag⟩
    · rintro ⟨hc, i, hi, htaken, hflag⟩
      by_cases hij : i = j
      · exact .inl ⟨hc, hij ▸ htaken, hij ▸ hflag⟩
      · exact .inr ⟨hc, i, (List.mem_cons.mp hi).resolve_left hij, ⟨htaken, hij⟩, hflag⟩

end Sys2Proof.Proofs

/-! What a run start makes of every block (R178), and what a halt stops (R148, R163, R179). -/

namespace Sys2Proof.Proofs
open Sys2Proof.Machine

/-! ### The matrix takes a set-up -/

/-- Generators that leave every channel as it was leave the matrix alone. -/
theorem settle_of_channels {before after : State} (h : ∀ c, before.channel c = after.channel c) :
    before.settle after = after := by
  have hseen : (before.settle after).matrix.edgeSeen = after.matrix.edgeSeen := by
    refine Vector.ext fun u hu => ?_
    have := settle_edgeSeen before after ⟨u, hu⟩
    rw [show (before.settle after).matrix.edgeSeen[u] = (before.settle after).matrix.edgeSeen[(⟨u, hu⟩ : Fin 11)] from rfl, this]
    split
    · rw [h]; simp
    · rfl
  have hhold : (before.settle after).matrix.hold = after.matrix.hold := by
    refine Vector.ext fun g hg => ?_
    have := settle_hold before after ⟨g, hg⟩
    rw [show (before.settle after).matrix.hold[g] = (before.settle after).matrix.hold[(⟨g, hg⟩ : Fin 6)] from rfl, this]
    split
    · rw [if_pos (h _)]; rfl
    · rfl
  have hmatrix : (before.settle after).matrix = after.matrix := by
    rw [← show { after.matrix with edgeSeen := (before.settle after).matrix.edgeSeen,
                                   hold := (before.settle after).matrix.hold } = (before.settle after).matrix from rfl,
      hseen, hhold]
  rw [← show { after with matrix := (before.settle after).matrix } = before.settle after from rfl, hmatrix]

theorem channel_congr {s t : State} {c : Fin 8} (hgen : ∀ g, t.generatorLevel g = s.generatorLevel g)
    (hsetup : t.setup = s.setup) (hinversion : t.matrix.inversion = s.matrix.inversion) : t.channel c = s.channel c := by
  have hsignal (o : Option Generator) : t.signal o = s.signal o := by
    cases o with
    | none => rfl
    | some g => exact hgen g
  unfold State.channel State.inverted
  rw [hsetup, hinversion, hsignal]

/-- The generators read the sequencer's and the tracker's levels, the pass state, the pulses and the lines. -/
theorem generatorLevel_congr {s t : State} (hcadence : t.sequencer.cadenceA = s.sequencer.cadenceA)
    (hlocked : t.sequencer.locked = s.sequencer.locked) (hdissolve : t.tracker.dissolveLevel = s.tracker.dissolveLevel)
    (hlagging : t.tracker.lagging = s.tracker.lagging) (hpass : t.pass.state = s.pass.state)
    (hpulses : t.matrix.pulses = s.matrix.pulses) (hgpi : t.matrix.gpi = s.matrix.gpi) (g : Generator) :
    t.generatorLevel g = s.generatorLevel g := by
  cases g <;> simp only [State.generatorLevel, hcadence, hlocked, hdissolve, hlagging, hpass, hpulses, hgpi]

theorem startTracker_of_initial {s : State} (h : s.tracker = Tracker.initial) : s.startTracker = s := by
  unfold State.startTracker
  rw [← h]
  exact settle_of_channels fun _ => rfl

theorem startPassController_matrix {s : State} (h : s.pass = Pass.initial) : s.startPassController.matrix = s.matrix := by
  have hsettle : s.settle { s with pass := Pass.initial } = s := by
    rw [← h]
    exact settle_of_channels fun _ => rfl
  unfold State.startPassController
  dsimp only
  rw [hsettle]

/-- A run start of a part that tracks nothing and has no pass takes the selections and no more (R153, R154, R157). -/
theorem initialise_matrix {s : State} (htracker : s.tracker = Tracker.initial) (hpass : s.pass = Pass.initial)
    (st : Setup) : (s.initialise st).matrix = (s.takeSelections st).matrix := by
  unfold State.initialise
  rw [startTracker_of_initial (by simpa [State.layOut] using htracker)]
  simp only [State.setRun_frame, State.startWriter_frame]
  rw [startPassController_matrix (by simpa [State.layOut] using hpass)]
  simp [State.layOut, State.takeSetup]

/-- Whether a user is a DIRECT line (R154). -/
def Setup.directUser (st : Setup) (u : Fin 11) : Bool := if h : u.val < 6 then (st.gpoMode[u.val]'h).direct else false

theorem aligned_eq_not_directUser (st : Setup) (u : Fin 11) : st.aligned u = !Setup.directUser st u := by
  unfold Setup.aligned Setup.directUser
  split <;> rfl

section TakeSelections
variable (s : State) (st : Setup)

theorem takeSelections_edgeSeen (u : Fin 11) :
    (s.takeSelections st).matrix.edgeSeen[u] =
      if s.setup.userSelection[u] = st.userSelection[u] ∧ Setup.directUser s.setup u = Setup.directUser st u then
        s.matrix.edgeSeen[u]
      else false := by
  simp only [State.takeSelections, Fin.getElem_fin, Vector.getElem_ofFn, aligned_eq_not_directUser, Bool.not_inj_iff]

theorem takeSelections_presented_internal {u : Fin 11} (hu : 6 ≤ u.val) :
    (s.takeSelections st).matrix.presented[u] = s.matrix.presented[u] := by
  simp only [State.takeSelections, Fin.getElem_fin, Vector.getElem_ofFn]
  rw [dif_neg (by omega)]

/-- The presented value of a line after a taking, by its old and its new mode (R154). -/
theorem takeSelections_presented_line (g : Fin 6) :
    (s.takeSelections st).matrix.presented[gpoUser g] =
      match s.setup.gpoMode[g].direct, st.gpoMode[g].direct with
      | true, false =>
        match s.setup.userSelection[gpoUser g] with
        | some c => s.gpoValue g c
        | none => false
      | false, true => false
      | _, _ => s.matrix.presented[gpoUser g] := by
  have hg : (gpoUser g).val < 6 := g.isLt
  simp only [State.takeSelections, Fin.getElem_fin, Vector.getElem_ofFn]
  rw [dif_pos hg]
  rfl

theorem takeSelections_hold (g : Fin 6) :
    (s.takeSelections st).matrix.hold[g] =
      if s.setup.userSelection[gpoUser g] ≠ st.userSelection[gpoUser g] ∨ s.setup.gpoMode[g].direct = false ∨
          st.gpoMode[g].direct = false then none
      else
        match st.userSelection[gpoUser g] with
        | some c => if s.channel c = ({ s with setup := st } : State).channel c then s.matrix.hold[g] else none
        | none => s.matrix.hold[g] := by
  simp only [State.takeSelections, Fin.getElem_fin, Vector.getElem_ofFn] <;> rfl

/-- The value a line drives before polarity (R157). -/
theorem gpo_xor_inverted (g : Fin 6) :
    Bool.xor (s.gpo g) s.setup.gpoMode[g].inverted =
      match s.setup.userSelection[gpoUser g] with
      | some c => s.gpoValue g c
      | none => s.setup.gpoMode[g].inverted := by
  unfold State.gpo
  split
  · next h => rw [h]; simp
  · next h => rw [h]; simp

end TakeSelections

/-- A state whose matrix is that of the taking, with every generator at its level, is one that takes the selections. -/
theorem takesSelections_of_takeSelections {s t : State} {st : Setup} {w : Bool}
    (hmatrix : t.matrix = { (s.takeSelections st).matrix with notifyWaiting := w }) (hsetup : t.setup = st)
    (hlevel : ∀ g, t.generatorLevel g = s.generatorLevel g) : s.takesSelections t := by
  subst hsetup
  have hchannel (c : Fin 8) : t.channel c = ({ s with setup := t.setup } : State).channel c :=
    channel_congr hlevel rfl (by rw [hmatrix]; rfl)
  have hsignal (o : Option Generator) : t.signal o = s.signal o := by
    cases o with
    | none => rfl
    | some g => exact hlevel g
  refine ⟨fun u => ?_, fun u hu => ?_, fun g => ⟨fun hold hnew => ?_, fun hold hnew => ?_, fun h => ?_,
    fun c hold hnew hbefore hafter => ?_⟩, fun c => ?_, ?_, ?_, ?_⟩
  · rw [hmatrix]
    exact takeSelections_edgeSeen s t.setup u
  · rw [hmatrix]
    exact takeSelections_presented_internal s t.setup hu
  · rw [hmatrix]
    dsimp only
    rw [takeSelections_presented_line, hold, hnew]
  · rw [hmatrix, gpo_xor_inverted]
    dsimp only
    rw [takeSelections_presented_line, hold, hnew]
    obtain hnone | ⟨c, hsome⟩ := Option.eq_none_or_eq_some s.setup.userSelection[gpoUser g]
    · simp [hnone]
    · simp [hsome]
  · rw [hmatrix]
    dsimp only
    rw [takeSelections_hold, if_pos]
    rcases h with h | h | h
    · exact .inr (.inl h)
    · exact .inr (.inr h)
    · exact .inl h
  · replace hbefore : s.setup.userSelection[gpoUser g] = some c := hbefore
    replace hafter : t.setup.userSelection[gpoUser g] = some c := hafter
    have hkeep : ¬(s.setup.userSelection[gpoUser g] ≠ t.setup.userSelection[gpoUser g] ∨
        s.setup.gpoMode[g].direct = false ∨ t.setup.gpoMode[g].direct = false) := by
      rw [hbefore, hafter, hold, hnew]
      simp
    rw [hchannel, hmatrix]
    dsimp only
    rw [takeSelections_hold, if_neg hkeep, hafter]
  · rw [← hsignal]
    unfold State.channel State.inverted
    rw [hmatrix]
    rfl
  · rw [hmatrix]; rfl
  · rw [hmatrix]; rfl
  · rw [hmatrix]; rfl

/-! ### The ring and the counter at a run start -/

theorem ringPlace_of_lt {n : Nat} (h : n < 512) : ringPlace n = 0x9000 + 16 * n := by
  unfold ringPlace ringBase ringPlaces
  omega

theorem pairwise_ringSequenceCells : ringSequenceCells.Pairwise fun c d => c.1 ≠ d.1 := by
  unfold ringSequenceCells
  rw [List.pairwise_map]
  refine List.Pairwise.imp_of_mem (fun {m n} hm hn hne => ?_) (List.nodup_range (n := ringPlaces))
  have hm' := ringPlace_of_lt (List.mem_range.mp hm)
  have hn' := ringPlace_of_lt (List.mem_range.mp hn)
  omega

theorem startWriter_cue (s : State) : s.startWriter.cue = Memory.writeAll s.cue ringSequenceCells := by
  unfold State.startWriter
  dsimp only

theorem read_startWriter_sequence (s : State) {n : Nat} (h : n < 512) :
    Memory.read s.startWriter.cue (0x9000 + 16 * n) = natWord (65024 + n) := by
  have hmem : (ringPlace n, natWord (65024 + n)) ∈ ringSequenceCells :=
    List.mem_map_of_mem (List.mem_range.mpr h)
  rw [startWriter_cue, ← ringPlace_of_lt h]
  exact Memory.read_writeAll_mem s.cue ringSequenceCells (ringPlace n, natWord (65024 + n)) hmem
    pairwise_ringSequenceCells

theorem read_startWriter_other (s : State) {a : Nat} (h : a % 16 ≠ 0) :
    Memory.read s.startWriter.cue a = Memory.read s.cue a := by
  rw [startWriter_cue]
  refine Memory.read_writeAll_other _ _ _ fun c hc heq => ?_
  obtain ⟨n, -, rfl⟩ := List.mem_map.mp hc
  unfold ringPlace ringBase at heq
  omega

theorem initialise_cue (s : State) (st : Setup) :
    (s.initialise st).cue =
      (((((s.takeSetup st).setSetupFault none).layOut).startTracker).startRequests.startPassController).startWriter.cue := by
  simp [State.initialise]

theorem read_initialise_sequence (s : State) (st : Setup) {n : Nat} (h : n < 512) :
    Memory.read (s.initialise st).cue (0x9000 + 16 * n) = natWord (65024 + n) := by
  rw [initialise_cue]
  exact read_startWriter_sequence _ h

theorem read_initialise_ring (s : State) (st : Setup) {a : Nat} (ha : inRing a) (h : a % 16 ≠ 0) :
    Memory.read (s.initialise st).cue a = Memory.read s.cue a := by
  have hscenes : ¬inScenes a := by unfold inRing at ha; unfold inScenes; omega
  have hresults : ¬inResults a := fun ⟨i, hi⟩ => by
    have := inEntryResults_bounds hi
    unfold inRing at ha; omega
  rw [initialise_cue, read_startWriter_other _ h, (changesWithin_startPassController _).read (not_inPassBlock_of_inRing ha),
    (changesWithin_startRequests _).read hresults]
  simpa [State.layOut] using (changesWithin_layOutScenes s.cue).read hscenes

theorem takeSetup_phase (p : Position) {k : Gauge} (h : k ≠ p.gauge) : (p.takeSetup k).phase = 0 := by
  unfold Position.takeSetup Position.phase
  rw [if_neg h]
  exact Int.mul_emod_right _ _

/-- What a run start makes of an entry: one that stands TAKEN is finished ABORTED, the others stand (R122). -/
theorem entries_initialise (s : State) (st : Setup) (i : Fin 32) :
    if entryWord s.cue i 0 = 2 then finished (s.initialise st).cue i 9 0 0
    else ∀ k, k < 64 → entryWord (s.initialise st).cue i k = entryWord s.cue i k := by
  let laid := (((s.takeSetup st).setSetupFault none).layOut).startTracker
  have hlaid {k : Nat} (hk : k < 64) : entryWord laid.cue i k = entryWord s.cue i k :=
    entryWord_of_changesWithin
      (by simpa [laid, State.layOut] using changesWithin_layOutScenes s.cue) (not_inScenes_entryBase hk)
  have hlast {k : Nat} (hk : k < 64) : entryWord (s.initialise st).cue i k = entryWord laid.abortAllTaken.cue i k :=
    entryWord_of_changesWithin (changesWithin_initialise_of_aborted s st) fun h => not_inEventWords_entryBase hk (.inr h)
  have habort : laid.abortAllTaken = (List.finRange 32).foldl State.abortTaken laid := rfl
  split
  · next htaken =>
    refine finished_congr ?_ fun k hk => hlast hk
    rw [habort]
    exact finished_foldl_abortTaken (List.mem_finRange i) ((hlaid (by omega)).trans htaken)
  · next htaken =>
    intro k hk
    rw [hlast hk, habort, entryWord_foldl_abortTaken_of_not_taken (by rwa [hlaid (by omega)]) hk, hlaid hk]

theorem causeSet_initialise (s : State) (st : Setup) (c : Cause) :
    (s.initialise st).causeSet c =
      (s.causeSet c ||
        decide (c = .request ∧ ∃ i : Fin 32, entryWord s.cue i 0 = 2 ∧ notifyFlag s.cue i = true)) := by
  let laid := (((s.takeSetup st).setSetupFault none).layOut).startTracker
  have hword (i : Fin 32) {k : Nat} (hk : k < 64) : entryWord laid.cue i k = entryWord s.cue i k :=
    entryWord_of_changesWithin
      (by simpa [laid, State.layOut] using changesWithin_layOutScenes s.cue) (not_inScenes_entryBase hk)
  have hflag (i : Fin 32) : notifyFlag laid.cue i = notifyFlag s.cue i := by
    unfold notifyFlag
    rw [hword i (by omega)]
  have hlaid : laid.causeSet c = s.causeSet c :=
    causeSet_congr (t := laid) (s := s) (by simp [laid, State.layOut]) c
  have hlast : (s.initialise st).port.causes = laid.abortAllTaken.port.causes := by
    simp only [State.initialise, State.setRun_frame, State.startWriter_frame, State.startPassController_frame]
    unfold State.startRequests
    generalize laid.abortAllTaken = aborted
    rfl
  have habort : laid.abortAllTaken = (List.finRange 32).foldl State.abortTaken laid := rfl
  rw [causeSet_congr hlast, habort, causeSet_foldl_abortTaken, hlaid]
  simp only [List.mem_finRange, true_and, hflag, hword _ (show 0 < 64 by omega)]

theorem bne_eq_decide_ne (x y : VideoMode) : (x != y) = decide (x ≠ y) := by
  rw [Bool.eq_iff_iff]
  simp

theorem initialise_sequencer_changed (s : State) (st : Setup) :
    (s.initialise st).sequencer =
      { s.sequencer with
        alignPending := s.sequencer.alignPending || decide (st.videoMode ≠ s.setup.videoMode) } := by
  rw [initialise_sequencer, bne_eq_decide_ne]

/-- A part that tracks nothing and has no pass has every generator as it was. -/
theorem generatorLevel_initialise {s : State} (htracker : s.tracker = Tracker.initial) (hpass : s.pass = Pass.initial)
    (st : Setup) (g : Generator) : (s.initialise st).generatorLevel g = s.generatorLevel g := by
  refine generatorLevel_congr ?_ ?_ ?_ ?_ ?_ ?_ ?_ g
  · rw [initialise_sequencer]
  · rw [initialise_sequencer]
  · rw [initialise_tracker, htracker]
  · rw [initialise_tracker, htracker]
  · rw [initialise_pass, hpass]
  · rw [initialise_matrix htracker hpass]; rfl
  · rw [initialise_matrix htracker hpass]; rfl

/-- Settles O9: each block of the initialisation in turn. -/
theorem runStartInitialisesBlocks : Obligations.RunStartInitialisesBlocks := by
  intro s hrun hvalid
  let st := readSetup s.cue
  let t := s.emptyLatch.initialise st
  have hsetup : t.setup = st := by simp [t]
  obtain ⟨hripple, hfault, -, htake, hcounter, hsplit, -⟩ := initialise_requests s.emptyLatch st
  have hpass := passBlockShows_initialise s.emptyLatch st
  have hposition : t.position = s.position.takeSetup st.gauge := by simp [t]
  refine ⟨t, exec_runStart_of_valid hrun hvalid, initialise_run _ _, fun o ho => ?_, ⟨?_, ?_, ?_, fun h => ?_, fun h => ?_, ?_, ?_⟩,
    ?_, initialise_tracker _ _, initialise_pass _ _, initialise_writer _ _, initialise_engine _ _,
    ⟨htake, hripple, hcounter, hsplit, hfault⟩, entries_initialise s.emptyLatch st,
    fun n hn => ?_, fun a ha h => read_initialise_ring _ _ ha h, ⟨hpass.1, hpass.2.1⟩, causeSet_initialise s.emptyLatch st, fun hlaw => ?_, ?_, ?_, ?_, ?_⟩
  · rw [hsetup]
    exact word_readSetup hvalid ho
  · rw [hposition, takeSetup_frame]
  · rw [hposition]; rfl
  · rw [hposition, hsetup]; rfl
  · rw [hposition]
    exact takeSetup_phase _ (by rwa [hsetup] at h)
  · rw [hposition]
    exact if_pos (by rwa [hsetup] at h)
  · rw [hposition]; rfl
  · rw [hposition]; rfl
  · rw [hsetup]
    exact initialise_sequencer_changed s.emptyLatch st
  · exact read_initialise_sequence s.emptyLatch st hn
  · obtain ⟨-, htracker, -, hpass', -⟩ := hlaw hrun
    have hmatrix : t.matrix = (s.takeSelections st).matrix := initialise_matrix (s := s.emptyLatch) htracker hpass' st
    refine ⟨takesSelections_of_takeSelections (w := s.matrix.notifyWaiting) hmatrix hsetup
      (generatorLevel_initialise (s := s.emptyLatch) htracker hpass' st), ?_⟩
    rw [hmatrix]; rfl
  · simp [t]
  · simp [t]
  · simp [t]
  · simp [t]

/-! ### The halt (R148, R163, R179) -/

/-- The pass and the records of a halt, before the flags and the run state follow. -/
def State.haltPass (s : State) : State × List Record :=
  s.finishLiveRead.faultPassIf s.pass.state.live .halted

theorem halt_eq (s : State) :
    s.halt = (((State.haltPass s).1.handEach (State.haltPass s).2).clearInternalEdges).setRun .halted := by
  unfold State.halt State.haltPass
  simp

theorem haltPass_of_live {s : State} (h : s.pass.state.live = true) :
    State.haltPass s = s.finishLiveRead.changePass (s.pass.faultedWith .halted) := by
  unfold State.haltPass
  rw [h]
  simp [State.faultPassIf, State.faultPass]

theorem haltPass_of_not_live {s : State} (h : ¬s.pass.state.live = true) : State.haltPass s = (s.finishLiveRead, []) := by
  unfold State.haltPass
  rw [Bool.eq_false_iff.mpr h]
  rfl

theorem clearInternalEdges_edgeSeen (s : State) {u : Fin 11} (hu : 6 ≤ u.val) :
    s.clearInternalEdges.matrix.edgeSeen[u] = false := by
  simp [State.clearInternalEdges, internalUser, hu]

theorem halt_pass_of_live {s : State} (h : s.pass.state.live = true) : s.halt.pass = s.pass.faultedWith .halted := by
  rw [halt_eq, haltPass_of_live h]
  simp

theorem halt_pass_of_not_live {s : State} (h : ¬s.pass.state.live = true) : s.halt.pass = s.pass := by
  rw [halt_eq, haltPass_of_not_live h]
  simp

theorem causeSet_halt_pass {s : State} (h : s.pass.state.live = true) : s.halt.causeSet .pass = true := by
  have hset : (State.haltPass s).1.causeSet .pass = true := by
    rw [haltPass_of_live h, causeSet_changePass]
    simp [Pass.faultedWith, PassState.setsCause]
  have hkept := (causesKept_handEach (State.haltPass s).1 (State.haltPass s).2) .pass hset
  rw [halt_eq]
  exact (causeSet_congr (by simp) .pass).trans hkept

theorem halt_edgeSeen (s : State) {u : Fin 11} (hu : 6 ≤ u.val) : s.halt.matrix.edgeSeen[u] = false := by
  rw [halt_eq]
  exact clearInternalEdges_edgeSeen _ hu

/-- The records of a halt with room, the field's work being done. -/
theorem wrote_halt {s : State} (hroom : s.hasRoom 1) (hread : s.engine.read = none) :
    s.wrote s.halt
      (if s.pass.state = .cued ∨ s.pass.state = .recording then
        [passReport s.sequencer.fieldFrame s.pass.state s.halt.pass] else []) := by
  by_cases hlive : s.pass.state.live = true
  · rw [if_pos (live_iff.mp hlive), halt_pass_of_live hlive, halt_eq, haltPass_of_live hlive,
      finishLiveRead_of_none hread, changePass_snd]
    have hwrote := wrote_handEach (s := (s.changePass (s.pass.faultedWith .halted)).1)
      (rs := [passReport s.sequencer.fieldFrame s.pass.state (s.pass.faultedWith .halted)])
      (hasRoom_congr hroom (by simp) (by simp)) fun r hr => by
        rw [List.mem_singleton.mp hr]
        exact takes_of_running (k := .pass) (by simpa using hroom.1) nofun nofun
    exact wrote_after (wrote_before hwrote (by simp) fun a ha => read_changePass_other _ _ (not_inPassBlock_of_inRing ha))
      (by simp) (fun a _ => by simp) (by simp)
  · rw [if_neg fun h => hlive (live_iff.mpr h), halt_eq, haltPass_of_not_live hlive, finishLiveRead_of_none hread]
    exact wrote_nil (by simp [State.handEach]) fun a _ => by simp [State.handEach]

/-- Settles O10, by whether a pass is CUED or RECORDING. -/
theorem haltStopsTheWork : Obligations.HaltStopsTheWork := by
  intro s hrun
  have hexec : exec .halt s = .next s.emptyLatch.halt := by
    change Host.Outcome.next s.emptyLatch.writeRunClear = _
    rw [writeRunClear_of_running (s := s.emptyLatch) hrun]
  have hpass : if s.pass.state = .cued ∨ s.pass.state = .recording then
      s.emptyLatch.halt.pass = s.pass.faultedWith .halted else s.emptyLatch.halt.pass = s.pass := by
    split
    · next h => exact halt_pass_of_live (s := s.emptyLatch) (live_iff.mpr h)
    · next h => exact halt_pass_of_not_live (s := s.emptyLatch) fun hlive => h (live_iff.mp hlive)
  refine ⟨_, hexec, ?_, ?_, ?_, fun u hu => ⟨halt_edgeSeen _ hu, ?_⟩, ?_, ?_, ?_, ?_, ?_, fun hread => ?_, ?_,
    fun hroom hread => wrote_halt (s := s.emptyLatch) hroom hread, fun a ha => read_halt_scenes s.emptyLatch ha⟩
  · rw [halt_eq]; simp
  · split
    · next h =>
      rw [if_pos h] at hpass
      exact ⟨hpass, causeSet_halt_pass (s := s.emptyLatch) (live_iff.mpr h)⟩
    · next h =>
      rw [if_neg h] at hpass
      exact hpass
  · rw [passGate_eq]
    split at hpass
    · rw [hpass]; rfl
    · next h =>
      rw [hpass]
      exact beq_eq_false_iff_ne.mpr fun heq => h (.inr heq)
  · unfold State.presentsPulse
    rw [halt_edgeSeen _ hu, Bool.and_false]
  · simp
  · simp
  · simp
  · simp
  · simp
  · rw [halt_eq]
    unfold State.haltPass
    rw [finishLiveRead_of_none (s := s.emptyLatch) hread]
    simp
  · simp

end Sys2Proof.Proofs

/-! The pixel transform (R85 to R90), the coefficient step (R82 to R84), and the end of a read of the live trim record
(R76 to R81). -/

namespace Sys2Proof.Proofs
open Sys2Proof.Machine

/-! ### Pixels -/

theorem toNat_codeOut {v : Int} (h : 0 ≤ v) (h' : v ≤ 1023) : ((codeOut v).toNat : Int) = v := by
  unfold codeOut
  rw [BitVec.toNat_ofInt]
  omega

theorem stageClip_bounds {low high : Nat} (h : low < high) (x : Int) :
    (low : Int) ≤ stageClip low high x ∧ stageClip low high x ≤ high := by
  unfold stageClip clampInt
  omega

/-- Settles O32: the transform's stages are those of the statement, and a clipped code fits PIX OUT. -/
theorem pixelIsTransformedStageByStage : Obligations.PixelIsTransformedStageByStage := by
  intro r g b s hvalid
  obtain ⟨-, -, -, -, ⟨hclip, hhigh⟩, -⟩ := hvalid
  have hcode (x : Int) : ((codeOut (stageClip s.setup.clipLow s.setup.clipHigh x)).toNat : Int) =
      stageClip s.setup.clipLow s.setup.clipHigh x := by
    have hbounds := stageClip_bounds hclip x
    exact toNat_codeOut (by omega) (by omega)
  refine ⟨_, rfl, rfl, fun x hx => ?_, hcode _, hcode _, hcode _⟩
  have hshape : ∃ z, x = codeOut (stageClip s.setup.clipLow s.setup.clipHigh z) := by
    simp only [List.mem_cons, List.not_mem_nil, or_false] at hx
    rcases hx with rfl | rfl | rfl
    · exact ⟨_, rfl⟩
    · exact ⟨_, rfl⟩
    · exact ⟨_, rfl⟩
  obtain ⟨z, rfl⟩ := hshape
  have hvalue := hcode z
  have hbounds := stageClip_bounds hclip z
  omega

/-! ### The coefficient step -/

theorem paramInRange_iff {k : Fin 10} {v : Int} : paramInRange k v ↔ paramLow k ≤ v ∧ v ≤ paramHigh k := by
  have hk := k.isLt
  unfold paramInRange paramLow paramHigh
  by_cases hgain : 3 ≤ k.val ∧ k.val ≤ 5
  · rw [if_pos hgain, if_neg (by omega), if_pos (by omega), if_pos (by omega)]
  · rw [if_neg hgain, if_neg (c := 3 ≤ k.val ∧ k.val < 6) (by omega)]
    by_cases hsat : k.val = 9
    · rw [if_pos hsat, if_neg (by omega), if_neg (by omega), if_neg (by omega)]
    · rw [if_neg hsat]
      by_cases hlift : k.val < 3
      · rw [if_pos hlift]
      · rw [if_neg hlift, if_neg (by omega), if_pos (by omega)]

/-- Clamping gives the value of the range that is nearest. -/
theorem clampParam_nearest {k : Fin 10} {v w : Int} (hw : paramInRange k w) :
    |v - clampParam k v| ≤ |v - w| ∧ (|v - w| = |v - clampParam k v| → w = clampParam k v) := by
  obtain ⟨hlow, hhigh⟩ := paramInRange_iff.mp hw
  have hclamp := abs_cases (v - clampParam k v)
  have hother := abs_cases (v - w)
  unfold clampParam clampInt at *
  omega

theorem effectiveGrade_getElem (m : Memory) (r : Resolution) (k : Fin 10) :
    (effectiveGrade m r)[k] = effectiveValue m r k := by
  unfold effectiveGrade effectiveValue
  cases r.dissolving with
  | false => rfl
  | true =>
    cases r.predecessor with
    | none => rfl
    | some p => simp [blendGrade, blendParam]

theorem trimmed_getElem (e : Engine) (g : Grade) (k : Fin 10) :
    (e.trimmed g)[k] = if e.enable = true then clampParam k (g[k] + e.deltas[k]) else g[k] := by
  unfold Engine.trimmed
  split
  · simp [clampGrade, addGrade]
  · rfl

theorem buildCoefficients_of_resolved {s : State} {r : Resolution} (h : s.tracker.latest = some r)
    (hr : r.outcome = .resolved) :
    s.buildCoefficients =
      { s with engine := { s.engine with coefficients := s.engine.trimmed (effectiveGrade s.cue r) } } := by
  unfold State.buildCoefficients
  rw [h]
  dsimp only
  rw [hr]

theorem buildCoefficients_of_held {s : State} {r : Resolution} (h : s.tracker.latest = some r) (hr : r.outcome = .held) :
    s.buildCoefficients = s := by
  unfold State.buildCoefficients
  rw [h]
  dsimp only
  rw [hr]

theorem buildCoefficients_of_none {s : State} (h : s.tracker.latest = none) : s.buildCoefficients = s := by
  unfold State.buildCoefficients
  rw [h]

theorem buildCoefficients_eq (s : State) :
    s.buildCoefficients =
      { s with engine := { s.engine with coefficients := s.buildCoefficients.engine.coefficients } } := by
  unfold State.buildCoefficients
  split
  · split
    · rfl
    · rfl
  · rfl

theorem setFollows_buildCoefficients {s : State} {before : Engine} (h : s.engine.coefficients = before.coefficients) :
    setFollows s.cue s.tracker.latest before s.buildCoefficients.engine := by
  refine ⟨fun r hlatest hr k => ?_, fun hheld => ?_⟩
  · rw [buildCoefficients_of_resolved hlatest hr]
    dsimp only
    rw [trimmed_getElem, effectiveGrade_getElem]
  · cases hlatest : s.tracker.latest with
    | none => rw [buildCoefficients_of_none hlatest, h]
    | some r => rw [buildCoefficients_of_held hlatest (hheld r hlatest), h]

/-- Settles O35: clamping is nearest, and the step is the trim over the effective parameters. -/
theorem coefficientsFollowResolution : Obligations.CoefficientsFollowResolution := by
  refine ⟨fun k v => ⟨clampParam_inRange k v, fun w hw => clampParam_nearest hw⟩, fun s r hlatest => ⟨fun hr => ?_, fun hr => ⟨?_, fun k => ?_⟩⟩⟩
  · exact buildCoefficients_of_held hlatest hr
  · exact buildCoefficients_eq s
  · have hvalue := (setFollows_buildCoefficients (s := s) rfl).1 r hlatest hr k
    have henable : s.buildCoefficients.engine.enable = s.engine.enable := by rw [buildCoefficients_eq]
    have hdeltas : s.buildCoefficients.engine.deltas = s.engine.deltas := by rw [buildCoefficients_eq]
    rw [henable, hdeltas] at hvalue
    refine ⟨fun h => ?_, fun h => ?_⟩
    · rw [hvalue, h]; rfl
    · rw [hvalue, h]; rfl

/-! ### The live trim record -/

theorem exec_liveRecordWordRead {s : State} {read : LiveRead} (h : s.engine.read = some read) :
    exec .liveRecordWordRead s = .next (s.liveWordRead read) := by
  change execLiveRecordWordRead s = _
  unfold execLiveRecordWordRead
  rw [h]

/-- A read of the record with the word it takes next (R78). -/
def LiveRead.next (read : LiveRead) (m : Memory) : LiveRead :=
  { read with words := read.words ++ [Memory.read m (liveBase + liveReadOffset read.words.length)] }

theorem liveWordRead_of_short {s : State} {read : LiveRead} (h : read.words.length < 12) :
    s.liveWordRead read = { s with engine := { s.engine with read := some (LiveRead.next read s.cue) } } := by
  unfold State.liveWordRead
  dsimp only
  rw [if_neg (by simp; omega)]
  rfl

theorem liveWordRead_of_last {s : State} {read : LiveRead} (h : read.words.length = 12) :
    s.liveWordRead read = s.endLiveRead (LiveRead.next read s.cue) := by
  unfold State.liveWordRead
  dsimp only
  rw [if_pos (by simp; omega)]
  rfl

/-- The part with an engine, its coefficient set built and the status block written (R76, R78). -/
def State.liveDone (s : State) (e : Engine) (f : FieldMoment) : State :=
  (({ s with engine := e } : State).buildCoefficients).writeStatus f

/-- The engine after a live record is taken whole or refused (R78). -/
def liveEngine (s : State) (r : LiveRecord) : Engine :=
  if r.close = r.open_ then s.engine.take r else s.engine.tear s.setup.liveStaleLimit

/-- The STALE report of a flag set (R81). -/
def State.staleReport (s : State) (torn : Engine) (r : LiveRecord) (absent : Word) : Record :=
  liveReport s [1, natWord torn.tornCount, r.close, r.open_, s.engine.revision.getD absent, boolWord s.engine.revision.isSome]

theorem endLiveRead_of_whole {s : State} {read : LiveRead} (h : (liveRecordOf read.words).close = (liveRecordOf read.words).open_) :
    s.endLiveRead read =
      (let done := State.liveDone s (s.engine.take (liveRecordOf read.words)) read.moment
       if s.engine.stale then
         done.hand (liveReport done [2, natWord s.engine.tornCount, (liveRecordOf read.words).open_])
       else done) := by
  unfold State.endLiveRead
  exact if_pos h

/-- A torn record that sets the stale flag draws a value for an absent revision alone (log 8). -/
theorem endLiveRead_of_torn {s : State} {read : LiveRead}
    (h : (liveRecordOf read.words).close ≠ (liveRecordOf read.words).open_) :
    ∃ (draws : Nat) (absent : Word), s.endLiveRead read =
      (let torn := s.engine.tear s.setup.liveStaleLimit
       let done := State.liveDone s torn read.moment
       if torn.stale = true ∧ s.engine.stale = false then
         (({ done with draws := draws } : State).hand
           (State.staleReport s torn (liveRecordOf read.words) absent)).setCause .stale
       else done) := by
  let done := State.liveDone s (s.engine.tear s.setup.liveStaleLimit) read.moment
  have hframe : done.sequencer = s.sequencer := by simp [done, State.liveDone]
  have hreport (d : List Word) : liveReport s d = liveReport done d := by
    unfold liveReport
    rw [hframe]
  unfold State.endLiveRead State.staleReport
  cases hrevision : s.engine.revision with
  | some v =>
    refine ⟨done.draws, 0, (if_neg h).trans ?_⟩
    simp only [hrevision, hreport]
    rfl
  | none =>
    refine ⟨done.draws + 1, done.drawWord.1, (if_neg h).trans ?_⟩
    simp only [hrevision, hreport]
    rfl

theorem endLiveRead_engine (s : State) (read : LiveRead) :
    (s.endLiveRead read).engine =
      (({ s with engine := liveEngine s (liveRecordOf read.words) } : State).buildCoefficients).engine := by
  by_cases h : (liveRecordOf read.words).close = (liveRecordOf read.words).open_
  · rw [endLiveRead_of_whole h]
    unfold liveEngine
    dsimp only
    rw [if_pos h]
    split <;> simp [State.liveDone]
  · obtain ⟨draws, absent, heq⟩ := endLiveRead_of_torn h
    rw [heq]
    unfold liveEngine
    dsimp only
    rw [if_neg h]
    split <;> simp [State.liveDone]

theorem setFollows_endLiveRead (s : State) (read : LiveRead) :
    setFollows s.cue s.tracker.latest s.engine (s.endLiveRead read).engine := by
  rw [endLiveRead_engine]
  refine setFollows_buildCoefficients
    (s := ({ s with engine := liveEngine s (liveRecordOf read.words) } : State)) ?_
  unfold liveEngine
  split <;> rfl

/-- The engine after the thirteenth word is the one the record leaves, but for the coefficient set. -/
theorem endLiveRead_engine_eq (s : State) (read : LiveRead) :
    (s.endLiveRead read).engine =
      { liveEngine s (liveRecordOf read.words) with coefficients := (s.endLiveRead read).engine.coefficients } := by
  rw [endLiveRead_engine, buildCoefficients_eq]

/-- The status words are no words of the ring. -/
theorem read_liveDone_other (s : State) (e : Engine) (f : FieldMoment) {a : Nat} (ha : ¬inStatus a) :
    Memory.read (State.liveDone s e f).cue a = Memory.read s.cue a := by
  have h := (changesWithin_writeStatus (({ s with engine := e } : State).buildCoefficients) f).read ha
  simpa [State.liveDone] using h

theorem not_inStatus_of_inRing {a : Nat} (h : inRing a) : ¬inStatus a := by
  unfold inRing at h; unfold inStatus; omega

/-- The records of the thirteenth word read: one of a stale flag set or cleared, none otherwise (R81). -/
theorem wrote_endLiveRead {s : State} (read : LiveRead) (hroom : s.hasRoom 1) :
    ∃ absent : Word, s.wrote (s.endLiveRead read)
      (if s.engine.stale = false ∧ (liveEngine s (liveRecordOf read.words)).stale = true then
        [State.staleReport s (liveEngine s (liveRecordOf read.words)) (liveRecordOf read.words) absent]
      else if s.engine.stale = true ∧ (liveEngine s (liveRecordOf read.words)).stale = false then
        [liveReport s [2, natWord s.engine.tornCount, (liveRecordOf read.words).close]]
      else []) := by
  have hdone {t : State} {e : Engine} (draws : Nat) (r : Record) (hr : r.kind = .live)
      (ht : t = { State.liveDone s e read.moment with draws := draws }) : s.wrote (t.hand r) [r] := by
    have hwriter : t.writer = s.writer := by rw [ht]; simp [State.liveDone]
    have hrun : t.port.run = s.port.run := by rw [ht]; simp [State.liveDone]
    refine wrote_before (wrote_hand (hasRoom_congr hroom hrun hwriter) ?_) hwriter fun a ha => ?_
    · rw [hr]
      exact takes_of_running (hrun.trans hroom.1) nofun nofun
    · rw [ht]
      exact read_liveDone_other s e _ (not_inStatus_of_inRing ha)
  have hnone (e : Engine) : s.wrote (State.liveDone s e read.moment) [] :=
    wrote_nil (by simp [State.liveDone]) fun a ha => read_liveDone_other s e _ (not_inStatus_of_inRing ha)
  by_cases h : (liveRecordOf read.words).close = (liveRecordOf read.words).open_
  · refine ⟨0, ?_⟩
    have hengine : liveEngine s (liveRecordOf read.words) = s.engine.take (liveRecordOf read.words) := if_pos h
    have hclear : (s.engine.take (liveRecordOf read.words)).stale = false := rfl
    rw [endLiveRead_of_whole h, hengine, hclear, h]
    dsimp only
    cases hstale : s.engine.stale with
    | false => simpa using hnone _
    | true =>
      have hreport (d : List Word) :
          liveReport (State.liveDone s (s.engine.take (liveRecordOf read.words)) read.moment) d = liveReport s d := by
        simp [liveReport, State.liveDone]
      rw [if_pos rfl, if_neg (by simp), if_pos ⟨rfl, rfl⟩, hreport]
      exact hdone (State.liveDone s (s.engine.take (liveRecordOf read.words)) read.moment).draws _ rfl rfl
  · obtain ⟨draws, absent, heq⟩ := endLiveRead_of_torn h
    have hengine : liveEngine s (liveRecordOf read.words) = s.engine.tear s.setup.liveStaleLimit := if_neg h
    refine ⟨absent, ?_⟩
    rw [heq, hengine]
    dsimp only
    by_cases hset : (s.engine.tear s.setup.liveStaleLimit).stale = true ∧ s.engine.stale = false
    · rw [if_pos hset, if_pos hset.symm]
      exact wrote_after (hdone draws _ rfl rfl) rfl (fun _ _ => rfl) rfl
    · rw [if_neg hset, if_neg fun hset' => hset hset'.symm, if_neg]
      · exact hnone _
      · rintro ⟨hstale, hclear⟩
        simp [Engine.tear, hstale] at hclear

/-- The record that thirteen words in reading order spell. -/
theorem liveRecordOf_words (close enable open_ : Word) (d : Vector Word 10) :
    (liveRecordOf ([close, enable] ++ d.toList ++ [open_])).close = close ∧
    (liveRecordOf ([close, enable] ++ d.toList ++ [open_])).enable = decide (enable ≠ 0) ∧
    (liveRecordOf ([close, enable] ++ d.toList ++ [open_])).open_ = open_ ∧
    ∀ k : Fin 10, (liveRecordOf ([close, enable] ++ d.toList ++ [open_])).deltas[k] =
      clampInt (-(deltaBound k)) (deltaBound k) (d[k]).toInt := by
  refine ⟨rfl, ?_, ?_, fun k => ?_⟩
  · rw [Bool.eq_iff_iff]
    simp [liveRecordOf]
  · simp [liveRecordOf]
  · have hk := k.isLt
    have hget : ([close, enable] ++ d.toList ++ [open_])[2 + k.val]? = some d[k] := by
      rw [List.getElem?_append_left (by simp; omega), List.getElem?_append_right (by simp)]
      simp
    simp only [liveRecordOf, clampDeltas, Fin.getElem_fin, Vector.getElem_ofFn, List.getD_eq_getElem?_getD, hget]
    rfl

theorem deltaBound_eq (k : Fin 10) :
    deltaBound k = if k.val < 3 ∨ (6 ≤ k.val ∧ k.val < 9) then 1023 else if k.val = 9 then 511 else 4095 := by
  revert k
  decide

/-- Settles O33: a word read takes one more word, and the thirteenth ends the read. -/
theorem liveRecordReadWordByWord : Obligations.LiveRecordReadWordByWord := by
  intro s read hread
  refine ⟨fun hshort => ?_, fun close enable d hwords => ?_⟩
  · rw [exec_liveRecordWordRead hread, liveWordRead_of_short hshort]
    have hoffset : liveBase + liveReadOffset read.words.length =
        if read.words.length = 0 then 0x20C else 0x200 + read.words.length := by
      unfold liveBase liveReadOffset
      split
      · rfl
      · rw [if_neg (by omega)]
    unfold LiveRead.next
    rw [hoffset]
  · have hlength : read.words.length = 12 := by rw [hwords]; simp
    let next := LiveRead.next read s.cue
    have hnext : next.words = [close, enable] ++ d.toList ++ [Memory.read s.cue 0x200] := by
      change read.words ++ [Memory.read s.cue (liveBase + liveReadOffset read.words.length)] = _
      rw [hlength, hwords]
      rfl
    obtain ⟨hclose, henable, hopen, hdeltas⟩ := liveRecordOf_words close enable (Memory.read s.cue 0x200) d
    rw [← hnext] at hclose henable hopen hdeltas
    have hengine := endLiveRead_engine_eq s next
    refine ⟨s.endLiveRead next, ?_, ?_, fun hwhole => ?_, fun htorn => ?_, setFollows_endLiveRead s next,
      fun hroom => ?_, ?_, ?_, ?_, ?_, ?_, ?_, ?_, fun a hstatus hring => ?_⟩
    · rw [exec_liveRecordWordRead hread, liveWordRead_of_last hlength]
    · rw [hengine]
      unfold liveEngine
      split <;> rfl
    · have htake : liveEngine s (liveRecordOf next.words) = s.engine.take (liveRecordOf next.words) :=
        if_pos (by rw [hclose, hopen, hwhole])
      rw [hengine, htake]
      refine ⟨fun k => ?_, henable, ?_, rfl, rfl, rfl⟩
      · rw [← deltaBound_eq]
        exact hdeltas k
      · rw [hwhole, ← hopen]
        rfl
    · have htear : liveEngine s (liveRecordOf next.words) = s.engine.tear s.setup.liveStaleLimit :=
        if_neg (by rw [hclose, hopen]; exact htorn)
      rw [hengine, htear]
      refine ⟨rfl, rfl, rfl, rfl, rfl, ?_, fun hset hclear => ?_⟩
      · simp [Engine.tear]
      · obtain ⟨draws, absent, heq⟩ := endLiveRead_of_torn (s := s) (read := next) (by rw [hclose, hopen]; exact htorn)
        rw [heq]
        dsimp only
        rw [if_pos ⟨hset, hclear⟩, causeSet_setCause]
        simp
    · obtain ⟨absent, hwrote⟩ := wrote_endLiveRead next hroom
      refine ⟨absent, ?_⟩
      rw [hengine]
      simp only [State.staleReport, hclose, hopen] at hwrote
      cases hrevision : s.engine.revision with
      | none =>
        rw [hrevision] at hwrote
        exact hwrote
      | some v =>
        rw [hrevision] at hwrote
        exact hwrote
    · simp
    · simp
    · simp
    · simp
    · simp
    · simp
    · simp
    · exact (changesWithin_endLiveRead s next).read fun h => h.elim hstatus hring

end Sys2Proof.Proofs

/-! A FIELD START stage by stage: what each block's work leaves of the part (R21, R34). -/

namespace Sys2Proof.Proofs
open Sys2Proof.Machine

/-! ### The stages -/

section Stages
variable (s : State) (id : FieldIdentity)

/-- The part once a read in progress is whole and the inversions have turned. -/
def State.fieldTurned : State := s.finishLiveRead.turnInversions

/-- The sequencer's work, after the matrix has presented. -/
def State.fieldPlaced : State × List Record :=
  (State.fieldTurned s).formPresentation.takeField id ((State.fieldTurned s).presentsPulse userCadenceAlign)

/-- The SPLIT user's pulse taken. -/
def State.fieldCut : State × List Record :=
  (State.fieldPlaced s id).1.splitPulse ((State.fieldTurned s).presentsPulse userSplit)

/-- The tracker's work. -/
def State.fieldResolved : Resolved := (State.fieldCut s id).1.resolve

/-- The pass controller's judgement. -/
def State.fieldJudged : State × List Record := (State.fieldResolved s id).state.judgePass

/-- The PASS STOP user's pulse taken. -/
def State.fieldStopped : State :=
  (State.fieldJudged s id).1.passStopPulse ((State.fieldTurned s).presentsPulse userPassStop)

/-- The pulses of the field. -/
def State.fieldPulses : Pulses :=
  (State.fieldStopped s id).pulsesOfField (State.fieldResolved s id).sceneChange
    (State.fieldStopped s id).matrix.notifyWaiting

/-- The pulses raised. -/
def State.fieldRaised : State := (State.fieldStopped s id).rollPulses (State.fieldPulses s id)

/-- The records of the field, a queue for each block. -/
def State.fieldRecords : List (List Record) :=
  [(State.fieldPlaced s id).2, (State.fieldCut s id).2, (State.fieldResolved s id).records, (State.fieldJudged s id).2,
    (State.fieldStopped s id).markRecords ((State.fieldTurned s).presentsPulse userMark)]

/-- The records handed. -/
def State.fieldHanded : State := (State.fieldRaised s id).handTogether (State.fieldRecords s id)

theorem fieldStart_eq :
    s.fieldStart id =
      (State.fieldHanded s id).engineField ((State.fieldTurned s).presentedValue userTrimHold) := rfl

theorem exec_fieldStart : exec (.fieldStart id) s = .next (s.fieldStart id) := rfl

/-! ### What the stages leave -/

/-- The engine, the matrix, the writer, the causes and cue memory alone change before the sequencer works. -/
@[simp] theorem fieldTurned_frame :
    (State.fieldTurned s).position = s.position ∧ (State.fieldTurned s).sequencer = s.sequencer ∧
    (State.fieldTurned s).tracker = s.tracker ∧ (State.fieldTurned s).requests = s.requests ∧
    (State.fieldTurned s).pass = s.pass ∧ (State.fieldTurned s).setup = s.setup ∧
    (State.fieldTurned s).port.run = s.port.run ∧ (State.fieldTurned s).busData = s.busData ∧
    (State.fieldTurned s).pixOut = s.pixOut := by
  simp [State.fieldTurned]

@[simp] theorem fieldPlaced_frame :
    (State.fieldPlaced s id).1.position = s.position ∧ (State.fieldPlaced s id).1.tracker = s.tracker ∧
    (State.fieldPlaced s id).1.requests = s.requests ∧ (State.fieldPlaced s id).1.pass = s.pass ∧
    (State.fieldPlaced s id).1.setup = s.setup ∧ (State.fieldPlaced s id).1.port.run = s.port.run ∧
    (State.fieldPlaced s id).1.engine = (State.fieldTurned s).engine ∧
    (State.fieldPlaced s id).1.writer = (State.fieldTurned s).writer ∧
    (State.fieldPlaced s id).1.cue = (State.fieldTurned s).cue := by
  simp [State.fieldPlaced]

@[simp] theorem fieldCut_frame :
    (State.fieldCut s id).1.position = s.position ∧ (State.fieldCut s id).1.tracker = s.tracker ∧
    (State.fieldCut s id).1.sequencer = (State.fieldPlaced s id).1.sequencer ∧
    (State.fieldCut s id).1.pass = s.pass ∧ (State.fieldCut s id).1.setup = s.setup ∧
    (State.fieldCut s id).1.port = (State.fieldPlaced s id).1.port ∧
    (State.fieldCut s id).1.matrix = (State.fieldPlaced s id).1.matrix ∧
    (State.fieldCut s id).1.engine = (State.fieldTurned s).engine ∧
    (State.fieldCut s id).1.writer = (State.fieldTurned s).writer ∧
    (State.fieldCut s id).1.cue = (State.fieldTurned s).cue := by
  simp [State.fieldCut]

@[simp] theorem fieldResolved_frame :
    (State.fieldResolved s id).state.position = s.position ∧
    (State.fieldResolved s id).state.sequencer = (State.fieldPlaced s id).1.sequencer ∧
    (State.fieldResolved s id).state.requests = (State.fieldCut s id).1.requests ∧
    (State.fieldResolved s id).state.pass = s.pass ∧ (State.fieldResolved s id).state.setup = s.setup ∧
    (State.fieldResolved s id).state.port.run = s.port.run ∧
    (State.fieldResolved s id).state.engine = (State.fieldTurned s).engine ∧
    (State.fieldResolved s id).state.writer = (State.fieldTurned s).writer ∧
    (State.fieldResolved s id).state.cue = (State.fieldTurned s).cue := by
  simp [State.fieldResolved]

@[simp] theorem fieldJudged_frame :
    (State.fieldJudged s id).1.position = s.position ∧
    (State.fieldJudged s id).1.sequencer = (State.fieldPlaced s id).1.sequencer ∧
    (State.fieldJudged s id).1.tracker = (State.fieldResolved s id).state.tracker ∧
    (State.fieldJudged s id).1.requests = (State.fieldCut s id).1.requests ∧
    (State.fieldJudged s id).1.setup = s.setup ∧ (State.fieldJudged s id).1.port.run = s.port.run ∧
    (State.fieldJudged s id).1.engine = (State.fieldTurned s).engine ∧
    (State.fieldJudged s id).1.writer = (State.fieldTurned s).writer := by
  simp [State.fieldJudged]

@[simp] theorem fieldStopped_frame :
    (State.fieldStopped s id).position = s.position ∧
    (State.fieldStopped s id).sequencer = (State.fieldPlaced s id).1.sequencer ∧
    (State.fieldStopped s id).tracker = (State.fieldResolved s id).state.tracker ∧
    (State.fieldStopped s id).requests = (State.fieldCut s id).1.requests ∧
    (State.fieldStopped s id).setup = s.setup ∧ (State.fieldStopped s id).port.run = s.port.run ∧
    (State.fieldStopped s id).engine = (State.fieldTurned s).engine ∧
    (State.fieldStopped s id).writer = (State.fieldTurned s).writer := by
  simp [State.fieldStopped]

@[simp] theorem fieldRaised_frame :
    (State.fieldRaised s id).position = s.position ∧
    (State.fieldRaised s id).sequencer = (State.fieldPlaced s id).1.sequencer ∧
    (State.fieldRaised s id).tracker = (State.fieldResolved s id).state.tracker ∧
    (State.fieldRaised s id).requests = (State.fieldCut s id).1.requests ∧
    (State.fieldRaised s id).pass = (State.fieldStopped s id).pass ∧
    (State.fieldRaised s id).setup = s.setup ∧ (State.fieldRaised s id).port.run = s.port.run ∧
    (State.fieldRaised s id).engine = (State.fieldTurned s).engine ∧
    (State.fieldRaised s id).writer = (State.fieldTurned s).writer ∧
    (State.fieldRaised s id).cue = (State.fieldStopped s id).cue ∧
    (State.fieldRaised s id).port = (State.fieldStopped s id).port := by
  simp [State.fieldRaised]

@[simp] theorem fieldHanded_frame :
    (State.fieldHanded s id).position = s.position ∧
    (State.fieldHanded s id).sequencer = (State.fieldPlaced s id).1.sequencer ∧
    (State.fieldHanded s id).tracker = (State.fieldResolved s id).state.tracker ∧
    (State.fieldHanded s id).requests = (State.fieldCut s id).1.requests ∧
    (State.fieldHanded s id).pass = (State.fieldStopped s id).pass ∧
    (State.fieldHanded s id).matrix = (State.fieldRaised s id).matrix ∧
    (State.fieldHanded s id).setup = s.setup ∧ (State.fieldHanded s id).port.run = s.port.run ∧
    (State.fieldHanded s id).engine = (State.fieldTurned s).engine := by
  simp [State.fieldHanded]

/-- Which stage each block of the part after a FIELD START comes from. -/
theorem fieldStart_blocks :
    (s.fieldStart id).sequencer = (State.fieldPlaced s id).1.sequencer ∧
    (s.fieldStart id).tracker = (State.fieldResolved s id).state.tracker ∧
    (s.fieldStart id).requests = (State.fieldCut s id).1.requests ∧
    (s.fieldStart id).pass = (State.fieldStopped s id).pass ∧
    (s.fieldStart id).matrix = (State.fieldRaised s id).matrix ∧
    (s.fieldStart id).writer = (State.fieldHanded s id).writer ∧
    (s.fieldStart id).port = (State.fieldHanded s id).port := by
  rw [fieldStart_eq]
  simp

theorem fieldStart_pass_eq_stopped : (s.fieldStart id).pass = (State.fieldStopped s id).pass := by
  obtain ⟨-, -, -, h, -⟩ := fieldStart_blocks s id
  exact h

theorem fieldStart_matrix_eq_raised : (s.fieldStart id).matrix = (State.fieldRaised s id).matrix := by
  obtain ⟨-, -, -, -, h, -⟩ := fieldStart_blocks s id
  exact h

theorem fieldStart_writer_eq_handed : (s.fieldStart id).writer = (State.fieldHanded s id).writer := by
  obtain ⟨-, -, -, -, -, h, -⟩ := fieldStart_blocks s id
  exact h

theorem fieldStart_port_eq_handed : (s.fieldStart id).port = (State.fieldHanded s id).port := by
  obtain ⟨-, -, -, -, -, -, h⟩ := fieldStart_blocks s id
  exact h

end Stages

/-! ### The turning of the inversions -/

/-- Making a live read whole leaves what the matrix reads (R93). -/
theorem finishLiveRead_eq (s : State) :
    s.finishLiveRead =
      { s with
        engine := s.finishLiveRead.engine, writer := s.finishLiveRead.writer, cue := s.finishLiveRead.cue
        draws := s.finishLiveRead.draws, port := { s.port with causes := s.finishLiveRead.port.causes } } :=
  state_ext (by simp) (by simp) (by simp) rfl (by simp) (by simp) (by simp) rfl
    (port_of_causes (by simp) (by simp) (by simp) (by simp) (by simp)) (by simp) rfl (by simp) (by simp) rfl (by simp)

theorem fieldTurned_matrix (s : State) : (State.fieldTurned s).matrix = s.turnInversions.matrix := by
  unfold State.fieldTurned
  rw [finishLiveRead_eq]
  rfl

theorem presentsPulse_fieldTurned (s : State) (u : Fin 11) :
    (State.fieldTurned s).presentsPulse u = s.turnInversions.presentsPulse u := by
  unfold State.fieldTurned
  rw [finishLiveRead_eq]
  rfl

theorem presentedValue_fieldTurned (s : State) (u : Fin 11) :
    (State.fieldTurned s).presentedValue u = s.turnInversions.presentedValue u := by
  unfold State.fieldTurned
  rw [finishLiveRead_eq]
  rfl

end Sys2Proof.Proofs

/-! What a FIELD START makes of the sequencer and of lock (R21 to R32). -/

namespace Sys2Proof.Proofs
open Sys2Proof.Machine

/-! ### The sequencer's values -/

theorem fieldSequencer_congr {s t : State} (hposition : t.position = s.position) (hsequencer : t.sequencer = s.sequencer)
    (hsetup : t.setup = s.setup) (id : FieldIdentity) (pulse : Bool) : t.fieldSequencer id pulse = s.fieldSequencer id pulse := by
  unfold State.fieldSequencer
  rw [hposition, hsequencer, hsetup]

/-- The sequencer's values for the field, of the part as the FIELD START found it (R21). -/
theorem fieldPlaced_sequencer (s : State) (id : FieldIdentity) :
    (State.fieldPlaced s id).1.sequencer = s.fieldSequencer id (s.turnInversions.presentsPulse 10) := by
  unfold State.fieldPlaced
  rw [takeField_sequencer, presentsPulse_fieldTurned]
  exact fieldSequencer_congr (by simp) (by simp) (by simp) id _

theorem fieldStart_sequencer (s : State) (id : FieldIdentity) :
    (s.fieldStart id).sequencer = s.fieldSequencer id (s.turnInversions.presentsPulse 10) := by
  rw [(fieldStart_blocks s id).1, fieldPlaced_sequencer]

theorem rephaseDue_iff {q : Sequencer} {id : FieldIdentity} {pulse : Bool} :
    q.rephaseDue id pulse = true ↔
      q.alignPending = true ∨ q.reference = .lost ∨ q.lastIdentity = some id ∨ pulse = true := by
  simp [Sequencer.rephaseDue, or_assoc]

theorem cycleLength_eq (mode : VideoMode) : mode.cycleLength = if mode = .m60_32 then 10 else 2 := by
  cases mode <;> rfl

/-- The frame-start phases of the cadence (R23). -/
theorem frameStart_iff {mode : VideoMode} {p : Nat} :
    mode.frameStart p = true ↔ p = 0 ∨ mode = .m60_32 ∧ (p = 2 ∨ p = 5 ∨ p = 7) := by
  cases mode <;> simp [VideoMode.frameStart, or_assoc]

theorem letterA_iff {mode : VideoMode} {p : Nat} : mode.letterA p = true ↔ p = 0 ∨ p = 1 := by
  cases mode <;> simp [VideoMode.letterA]

/-- A field is a cadence-frame start where its phase is one of a frame start (R23). -/
theorem atFrameStart_iff {s : State} :
    s.atFrameStart = true ↔
      s.sequencer.phase = some 0 ∨
        (s.setup.videoMode = .m60_32 ∧
          (s.sequencer.phase = some 2 ∨ s.sequencer.phase = some 5 ∨ s.sequencer.phase = some 7)) := by
  unfold State.atFrameStart
  cases s.sequencer.phase with
  | none => simp
  | some p =>
    dsimp only
    rw [frameStart_iff]
    simp only [Option.some.injEq]

theorem fieldSequencer_cadenceA (s : State) (id : FieldIdentity) (pulse : Bool) :
    (s.fieldSequencer id pulse).cadenceA = true ↔
      (s.fieldSequencer id pulse).phase = some 0 ∨ (s.fieldSequencer id pulse).phase = some 1 := by
  have hcadence : (s.fieldSequencer id pulse).cadenceA =
      match (s.fieldSequencer id pulse).phase with
      | some p => s.setup.videoMode.letterA p
      | none => false := rfl
  rw [hcadence]
  cases (s.fieldSequencer id pulse).phase with
  | none => simp
  | some p =>
    dsimp only
    rw [letterA_iff]
    simp only [Option.some.injEq]

/-! ### The pulses of the field -/

theorem blipIf_pulses (s : State) (b : Bool) (g : Generator) : (s.blipIf b g).matrix.pulses = s.matrix.pulses := by
  cases b <;> rfl

theorem rollPulses_pulses (s : State) (now : Pulses) : (s.rollPulses now).matrix.pulses = now := by
  unfold State.rollPulses
  dsimp only
  simp only [blipIf_pulses]
  rfl

theorem fieldStart_pulses (s : State) (id : FieldIdentity) : (s.fieldStart id).matrix.pulses = State.fieldPulses s id := by
  rw [fieldStart_matrix_eq_raised, State.fieldRaised, rollPulses_pulses]

/-- FRAME REFERENCE is raised at a cadence-frame start (R31). -/
theorem fieldStart_frameReference (s : State) (id : FieldIdentity) :
    (s.fieldStart id).matrix.pulses.frameReference = (s.fieldStart id).atFrameStart := by
  rw [fieldStart_pulses]
  have hsequencer : (s.fieldStart id).sequencer = (State.fieldStopped s id).sequencer := by
    rw [(fieldStart_blocks s id).1]; simp
  have hsetup : (s.fieldStart id).setup = (State.fieldStopped s id).setup := by simp
  unfold State.atFrameStart
  rw [hsequencer, hsetup]
  rfl

/-! ### The SPLIT pulse -/

theorem splitPulse_requests (s : State) (pulse : Bool) :
    (s.splitPulse pulse).1.requests = { s.requests with splitPending := (s.splitPulse pulse).1.requests.splitPending } := by
  unfold State.splitPulse
  split
  · split <;> rfl
  · rfl

theorem fieldStart_requests (s : State) (id : FieldIdentity) :
    (s.fieldStart id).requests = { s.requests with splitPending := (s.fieldStart id).requests.splitPending } := by
  rw [(fieldStart_blocks s id).2.2.1, State.fieldCut, splitPulse_requests]
  simp

/-- Settles O23: the sequencer's values of the field, and the pulses they raise. -/
theorem fieldStartPlacesField : Obligations.FieldStartPlacesField := by
  intro id s
  let q := s.fieldSequencer id (s.turnInversions.presentsPulse 10)
  have hq : (s.fieldStart id).sequencer = q := fieldStart_sequencer s id
  have hphase : q.phase = placeField s.setup.videoMode
      (s.sequencer.rephaseDue id (s.turnInversions.presentsPulse 10)) s.sequencer.phase id := rfl
  refine ⟨_, exec_fieldStart s id, ?_, ?_, ?_, ?_, ?_, ?_, ?_, ⟨fun hdue => ?_, fun hdue hnone => ?_, fun p hdue hsome => ?_⟩,
    ?_, ?_, ?_, by simp, by simp, by simp, by simp, fieldStart_requests s id,
    port_of_causes (by simp) (by simp) (by simp) (by simp) (by simp)⟩
  · rw [hq]
    exact BitVec.toNat_add _ _
  · rw [hq]; rfl
  · rw [hq]; rfl
  · rw [hq]; rfl
  · rw [hq]; rfl
  · rw [hq]; rfl
  · rw [hq]
    change (if s.sequencer.rephaseDue id _ = true then false else s.sequencer.alignPending) = false
    split
    · rfl
    · next h => exact Bool.eq_false_iff.mpr fun halign => h (rephaseDue_iff.mpr (.inl halign))
  · rw [hq, hphase, rephaseDue_iff.mpr hdue]
    rfl
  · rw [hq, hphase, Bool.eq_false_iff.mpr fun h => hdue (rephaseDue_iff.mp h), hnone]
    rfl
  · rw [hq, hphase, Bool.eq_false_iff.mpr fun h => hdue (rephaseDue_iff.mp h), hsome, ← cycleLength_eq]
    rfl
  · rw [hq]
    exact fieldSequencer_cadenceA s id _
  · rw [fieldStart_pulses]; rfl
  · rw [fieldStart_frameReference, atFrameStart_iff]
    simp

end Sys2Proof.Proofs

/-! How a FIELD START judges lock (R27, R28), and the causes it keeps. -/

namespace Sys2Proof.Proofs
open Sys2Proof.Machine

/-! ### The causes a FIELD START keeps -/

theorem causesKept_splitPulse (s : State) (pulse : Bool) : CausesKept s (s.splitPulse pulse).1 := .of_port_eq (by simp)

theorem causesKept_resolve (s : State) : CausesKept s s.resolve.state := by
  unfold State.resolve
  split
  · dsimp only
    split
    · exact .of_port_eq (by simp)
    · unfold State.resolveHeld
      dsimp only
      split
      · exact .of_port_eq (by simp)
      · exact .setCause (.of_port_eq (by simp)) _
  · exact .refl s

theorem causesKept_judgePass (s : State) : CausesKept s s.judgePass.1 := by
  unfold State.judgePass State.judgeCued State.judgeRecording State.countPass
  dsimp only
  have hcount (p : Pass) : CausesKept s (s.countFrame.2.changePass p).1 :=
    .trans (.of_port_eq (by simp)) (causesKept_changePass _ p)
  have hset (p : Pass) : CausesKept s (s.countFrame.2.setPass p) := .of_port_eq (by simp)
  split
  · split
    · exact causesKept_changePass s _
    · split
      · exact causesKept_changePass s _
      · exact .refl s
  · split
    · split
      · split
        · exact hset _
        · exact hcount _
      · split
        · exact causesKept_changePass s _
        · exact causesKept_changePass s _
    · split
      · exact causesKept_changePass s _
      · exact .refl s
  · exact .refl s

theorem causesKept_passStopPulse (s : State) (pulse : Bool) : CausesKept s (s.passStopPulse pulse) := .of_port_eq (by simp)

section Kept
variable (s : State) (id : FieldIdentity)

/-- From the pass controller's judgement on no cause is cleared. -/
theorem causesKept_of_judged : CausesKept (State.fieldJudged s id).1 (s.fieldStart id) := by
  have hstopped : CausesKept (State.fieldJudged s id).1 (State.fieldStopped s id) := causesKept_passStopPulse _ _
  have hraised : CausesKept (State.fieldStopped s id) (State.fieldRaised s id) := .of_port_eq (by simp)
  have hhanded : CausesKept (State.fieldRaised s id) (State.fieldHanded s id) := causesKept_handTogether _ _
  exact ((hstopped.trans hraised).trans hhanded).trans (.of_port_eq (fieldStart_port_eq_handed s id))

theorem causesKept_of_resolved : CausesKept (State.fieldResolved s id).state (s.fieldStart id) :=
  (causesKept_judgePass _).trans (causesKept_of_judged s id)

theorem causesKept_of_placed : CausesKept (State.fieldPlaced s id).1 (s.fieldStart id) :=
  ((causesKept_splitPulse _ _).trans (causesKept_resolve _)).trans (causesKept_of_resolved s id)

end Kept

/-! ### Lock -/

/-- A lock lost sets the FAULT cause (R28). -/
theorem causeSet_takeField {s : State} {id : FieldIdentity} {pulse : Bool} (hlocked : s.sequencer.locked = true)
    (hlost : (s.fieldSequencer id pulse).locked = false) : (s.takeField id pulse).1.causeSet .fault = true := by
  unfold State.takeField
  dsimp only
  rw [if_neg]
  · dsimp only
    rw [hlocked, causeSet_setCauseIf]
    simp
  · rw [hlocked]
    simp [hlost]

theorem causeSet_fieldStart_of_lost {s : State} {id : FieldIdentity} (hlocked : s.sequencer.locked = true)
    (hlost : (s.fieldStart id).sequencer.locked = false) : (s.fieldStart id).causeSet .fault = true := by
  refine causesKept_of_placed s id .fault (causeSet_takeField (by simpa using hlocked) ?_)
  rw [fieldStart_sequencer] at hlost
  rw [presentsPulse_fieldTurned, fieldSequencer_congr (s := s) (by simp) (by simp) (by simp)]
  exact hlost

theorem judgeField_unphased (mode : VideoMode) (f : Int) (first : Option Int) : judgeField mode none f first = .bad := rfl

theorem judgeField_start_absent {mode : VideoMode} {p : Nat} (h : mode.frameStart p = true) (f : Int) :
    judgeField mode (some p) f none = .unjudged := by
  unfold judgeField
  dsimp only
  rw [h]

theorem judgeField_start {mode : VideoMode} {p : Nat} (h : mode.frameStart p = true) (f x : Int) :
    judgeField mode (some p) f (some x) = if f = x + 1 then .goodStart else .bad := by
  unfold judgeField
  dsimp only
  rw [h]

theorem judgeField_other {mode : VideoMode} {p : Nat} (h : mode.frameStart p = false) (f x : Int) :
    judgeField mode (some p) f (some x) = if f = x then .good else .bad := by
  unfold judgeField
  dsimp only
  rw [h]

/-- A re-phased field is a cadence-frame start or unphased (R25, R26). -/
theorem placeField_of_due (mode : VideoMode) (before : Option Nat) (id : FieldIdentity) :
    placeField mode true before id = some 0 ∨ placeField mode true before id = none := by
  cases id
  · exact .inl rfl
  · exact .inr rfl

/-- Settles O24, by the phase of the field. -/
theorem fieldStartJudgesLock : Obligations.FieldStartJudgesLock := by
  intro id s
  let pulse := s.turnInversions.presentsPulse 10
  let due := s.sequencer.rephaseDue id pulse
  let f := s.position.frame
  let first := if due then none else s.sequencer.firstFieldFrame
  have hq : (s.fieldStart id).sequencer = s.fieldSequencer id pulse := fieldStart_sequencer s id
  let phase := placeField s.setup.videoMode due s.sequencer.phase id
  let j := judgeField s.setup.videoMode phase f first
  have hphase : (s.fieldStart id).sequencer.phase = phase := by rw [hq]; rfl
  have hgood : (s.fieldStart id).sequencer.goodCount = goodAfter s.sequencer.goodCount j := by rw [hq]; rfl
  have hlock : (s.fieldStart id).sequencer.locked = lockedAfter s.sequencer.goodCount s.sequencer.locked j := by
    rw [hq]; rfl
  have hfirst : (s.fieldStart id).sequencer.firstFieldFrame = firstAfter s.setup.videoMode phase f first := by
    rw [hq]; rfl
  have hbad (h : j = .bad) : (s.fieldStart id).sequencer.goodCount = 0 ∧ (s.fieldStart id).sequencer.locked = false ∧
      (s.sequencer.locked = true → (s.fieldStart id).causeSet .fault = true) := by
    have hlost : (s.fieldStart id).sequencer.locked = false := by rw [hlock, h]; rfl
    exact ⟨by rw [hgood, h]; rfl, hlost, fun hlocked => causeSet_fieldStart_of_lost hlocked hlost⟩
  have hstands (h : j = .unjudged ∨ j = .good) :
      (s.fieldStart id).sequencer.goodCount = s.sequencer.goodCount ∧
        (s.fieldStart id).sequencer.locked = (s.sequencer.locked || decide (s.sequencer.goodCount = 4)) := by
    rw [hgood, hlock]
    rcases h with h | h <;> rw [h] <;> exact ⟨rfl, rfl⟩
  have hstart : ((s.fieldStart id).sequencer.phase = some 0 ∨ (s.setup.videoMode = .m60_32 ∧
      ((s.fieldStart id).sequencer.phase = some 2 ∨ (s.fieldStart id).sequencer.phase = some 5 ∨
        (s.fieldStart id).sequencer.phase = some 7))) ↔ ∃ p, phase = some p ∧ s.setup.videoMode.frameStart p = true := by
    rw [hphase]
    cases phase with
    | none => simp
    | some p =>
      simp only [Option.some.injEq, exists_eq_left']
      rw [frameStart_iff]
  refine ⟨_, exec_fieldStart s id, fun hnone => ?_, fun h => ?_, fun hsome h x hx => ?_⟩
  · rw [hphase] at hnone
    exact ⟨hbad (by simp only [j, hnone]; rfl), by rw [hfirst, hnone]; rfl⟩
  · obtain ⟨p, hp, hframe⟩ := hstart.mp h
    have hj (y : Option Int) (hy : first = y) : j = judgeField s.setup.videoMode (some p) f y := by
      simp only [j, hp, hy]
    have hdue' (hdue : ¬(s.sequencer.alignPending = true ∨ s.sequencer.reference = .lost ∨
        s.sequencer.lastIdentity = some id ∨ pulse = true)) : first = s.sequencer.firstFieldFrame :=
      if_neg fun h => hdue (rephaseDue_iff.mp h)
    refine ⟨?_, fun hnone => hstands (.inl ?_), fun x hdue hx => ⟨fun hf => ?_, fun hf => hbad ?_⟩⟩
    · rw [hfirst, hp]
      exact if_pos hframe
    · have hfirst' : first = none := by
        rcases hnone with hdue | hnone
        · exact if_pos (rephaseDue_iff.mpr hdue)
        · simp only [first, hnone, ite_self]
      rw [hj none hfirst', judgeField_start_absent hframe]
    · have hj' : j = .goodStart := by
        rw [hj (some x) ((hdue' hdue).trans hx), judgeField_start hframe, if_pos hf]
      have hcount : decide (min 4 (s.sequencer.goodCount + 1) = 4) = decide (3 ≤ s.sequencer.goodCount) := by
        rw [Bool.eq_iff_iff, decide_eq_true_iff, decide_eq_true_iff]
        omega
      rw [hgood, hlock, hj', ← hcount]
      exact ⟨rfl, rfl⟩
    · rw [hj (some x) ((hdue' hdue).trans hx), judgeField_start hframe, if_neg hf]
  · obtain ⟨p, hp⟩ := Option.ne_none_iff_exists'.mp hsome
    rw [hphase] at hp
    have hframe : s.setup.videoMode.frameStart p = false :=
      Bool.eq_false_iff.mpr fun hframe => h (hstart.mpr ⟨p, hp, hframe⟩)
    have hdue : due = false := by
      refine Bool.eq_false_iff.mpr fun hdue => ?_
      have hplaced := placeField_of_due s.setup.videoMode s.sequencer.phase id
      rw [← hdue] at hplaced
      rcases hplaced with hzero | hnone
      · exact h (.inl (hphase.trans hzero))
      · exact hsome (hphase.trans hnone)
    have hfirst' : first = some x := by simp only [first, hdue, hx]; rfl
    have hj : j = if f = x then .good else .bad := by
      simp only [j, hp, hfirst']
      exact judgeField_other hframe f x
    refine ⟨?_, fun hf => hstands (.inr ?_), fun hf => hbad ?_⟩
    · rw [hfirst, hp, hfirst', firstAfter]
      rw [hframe]; rfl
    · rw [hj, if_pos hf]
    · rw [hj, if_neg hf]

end Sys2Proof.Proofs

/-! How a FIELD START resolves the scene (R57 to R67). -/

namespace Sys2Proof.Proofs
open Sys2Proof.Machine

/-! ### Memories with the same scene table -/

/-- Two memories hold the same words in the scene table. -/
def SameScenes (m m' : Memory) : Prop := ∀ a, inScenes a → Memory.read m' a = Memory.read m a

section SameScenes
variable {m m' : Memory} (h : SameScenes m m')
include h

theorem SameScenes.word (x : Slot) {k : Nat} (hk : k < 32) : slotWordAt m' x k = slotWordAt m x k := by
  have hx := slotBase_bounds x
  exact h _ (by unfold inScenes; omega)

theorem SameScenes.start (x : Slot) : sceneStart m' x = sceneStart m x :=
  sceneStart_congr (h.word x (by omega)) (h.word x (by omega))

theorem SameScenes.next (x : Slot) : sceneNext m' x = sceneNext m x := by
  unfold sceneNext; rw [h.word x (by omega)]

theorem SameScenes.prev (x : Slot) : scenePrev m' x = scenePrev m x := by
  unfold scenePrev; rw [h.word x (by omega)]

theorem SameScenes.dissolve (x : Slot) : sceneDissolve m' x = sceneDissolve m x := by
  unfold sceneDissolve; rw [h.word x (by omega)]

theorem SameScenes.serial (x : Slot) : sceneSerial m' x = sceneSerial m x := h.word x (by omega)

theorem SameScenes.origin (x : Slot) : sceneOrigin m' x = sceneOrigin m x := h.word x (by omega)

theorem SameScenes.tag (x : Slot) : sceneTag m' x = sceneTag m x :=
  sceneTag_congr (h.word x (by omega)) (h.word x (by omega)) (h.word x (by omega))

theorem SameScenes.grade (x : Slot) : sceneGrade m' x = sceneGrade m x :=
  sceneGrade_congr fun k => h.word x (by omega)

theorem SameScenes.covers (x : Slot) (f : Int) : covers m' x f = covers m x f := by
  simp only [Machine.covers, h.start, h.next]

theorem SameScenes.walk (f : Int) (fuel : Nat) (c : Slot) (steps : Nat) :
    walk m' f fuel c steps = walk m f fuel c steps := by
  induction fuel generalizing c steps with
  | zero => rfl
  | succ fuel ih => simp only [Machine.walk, walkStep, h.covers, h.start, h.next, h.prev, ih]

theorem SameScenes.effectiveDissolve (x : Slot) : effectiveDissolve m' x = effectiveDissolve m x := by
  simp only [Machine.effectiveDissolve, h.start, h.next, h.dissolve]

theorem SameScenes.isDissolving (x : Slot) (f : Int) : isDissolving m' x f = isDissolving m x f := by
  unfold Machine.isDissolving dissolveNumber
  rw [h.start, h.effectiveDissolve]

theorem SameScenes.resolvedRecord (q : Sequencer) (c : Slot) (steps : Nat) :
    resolvedRecord m' q c steps = resolvedRecord m q c steps := by
  simp only [Machine.resolvedRecord, h.isDissolving, dissolveNumber, h.effectiveDissolve, h.start, h.serial, h.prev]

theorem SameScenes.heldRecord (q : Sequencer) (c : Slot) (steps : Nat) :
    heldRecord m' q c steps = heldRecord m q c steps := by
  simp only [Machine.heldRecord, h.serial]

end SameScenes

theorem SameScenes.refl (m : Memory) : SameScenes m m := fun _ _ => rfl

theorem sameScenes_of_changesWithin {P : Nat → Prop} {m m' : Memory} (h : Memory.ChangesWithin P m m')
    (hP : ∀ a, inScenes a → ¬P a) : SameScenes m m' := fun a ha => h.read (hP a ha)

theorem sameScenes_fieldCut (s : State) (id : FieldIdentity) : SameScenes s.cue (State.fieldCut s id).1.cue := by
  have hcue : (State.fieldCut s id).1.cue = s.finishLiveRead.cue := by simp [State.fieldTurned]
  rw [hcue]
  refine sameScenes_of_changesWithin (changesWithin_finishLiveRead s) fun a ha h => ?_
  unfold inScenes at ha
  unfold inStatusOrRing inStatus inRing at h
  omega

/-! ### The resolution -/

/-- The walk of a field (R58). -/
def State.fieldWalk (s : State) : Slot × Nat := walk s.cue s.sequencer.fieldFrame s.setup.walkLimit s.tracker.current 0

theorem resolve_of_covers {s : State} (hrun : s.port.run = .running)
    (h : covers s.cue (State.fieldWalk s).1 s.sequencer.fieldFrame = true) :
    s.resolve = s.resolveCovered (State.fieldWalk s).1 (State.fieldWalk s).2 := by
  unfold State.resolve
  rw [if_pos hrun]
  exact if_pos h

theorem resolve_of_not_covers {s : State} (hrun : s.port.run = .running)
    (h : covers s.cue (State.fieldWalk s).1 s.sequencer.fieldFrame = false) :
    s.resolve = s.resolveHeld (State.fieldWalk s).1 (State.fieldWalk s).2 := by
  unfold State.resolve
  rw [if_pos hrun]
  exact if_neg (Bool.eq_false_iff.mp h)

theorem resolve_of_not_running {s : State} (hrun : s.port.run ≠ .running) :
    s.resolve = { state := s, sceneChange := false, records := [] } := if_neg hrun

theorem resolveCovered_sceneChange (s : State) (c : Slot) (steps : Nat) :
    (s.resolveCovered c steps).sceneChange = s.tracker.sceneChange (resolvedRecord s.cue s.sequencer c steps) := by
  unfold State.resolveCovered
  dsimp only
  split
  · next h => rw [h]
  · next h => rw [Bool.eq_false_iff.mpr h]

theorem resolveHeld_sceneChange (s : State) (c : Slot) (steps : Nat) : (s.resolveHeld c steps).sceneChange = false := by
  unfold State.resolveHeld
  dsimp only
  split <;> rfl

theorem causeSet_resolveHeld {s : State} (h : s.tracker.lagging = false) (c : Slot) (steps : Nat) :
    (s.resolveHeld c steps).state.causeSet .fault = true := by
  unfold State.resolveHeld
  dsimp only
  rw [if_neg (by rw [h]; exact Bool.false_ne_true), causeSet_setCause]
  simp

section Resolved
variable (s : State) (id : FieldIdentity)

/-- The walk of the field, from the part as the FIELD START found it. -/
theorem fieldWalk_fieldCut :
    State.fieldWalk (State.fieldCut s id).1 = walk s.cue s.position.frame s.setup.walkLimit s.tracker.current 0 := by
  unfold State.fieldWalk
  rw [(sameScenes_fieldCut s id).walk]
  simp only [fieldCut_frame, fieldPlaced_sequencer]
  rfl

theorem fieldCut_fieldFrame : (State.fieldCut s id).1.sequencer.fieldFrame = s.position.frame := by
  simp only [fieldCut_frame, fieldPlaced_sequencer]
  rfl

theorem fieldCut_fieldCount : (State.fieldCut s id).1.sequencer.fieldCount = s.sequencer.fieldCount + 1 := by
  simp only [fieldCut_frame, fieldPlaced_sequencer]
  rfl

theorem fieldStart_sceneChange :
    (s.fieldStart id).matrix.pulses.sceneChange = (State.fieldResolved s id).sceneChange := by
  rw [fieldStart_pulses]; rfl

end Resolved

/-- Settles O30, by the run state and whether the walk ends at a covering scene. -/
theorem fieldStartResolvesScene : Obligations.FieldStartResolvesScene := by
  intro id s
  refine ⟨_, exec_fieldStart s id, ?_⟩
  let f := s.position.frame
  let w := walk s.cue f s.setup.walkLimit s.tracker.current 0
  let u := (State.fieldCut s id).1
  have hsame : SameScenes s.cue u.cue := sameScenes_fieldCut s id
  have hwalk : State.fieldWalk u = w := fieldWalk_fieldCut s id
  have hframe : u.sequencer.fieldFrame = f := fieldCut_fieldFrame s id
  have hcount : u.sequencer.fieldCount = s.sequencer.fieldCount + 1 := fieldCut_fieldCount s id
  have htracker : u.tracker = s.tracker := by simp [u]
  have hurun : u.port.run = s.port.run := by simp [u]
  have hcovers : covers u.cue (State.fieldWalk u).1 u.sequencer.fieldFrame = covers s.cue w.1 f := by
    rw [hwalk, hframe, hsame.covers]
  have hresolved : State.fieldResolved s id = u.resolve := rfl
  have hblock := (fieldStart_blocks s id).2.1
  refine ⟨fun hrun hc => ?_, fun hrun hc => ?_, fun hrun => ?_⟩
  · have heq := resolve_of_covers (hurun.trans hrun) (hcovers.trans hc)
    let r := resolvedRecord s.cue u.sequencer w.1 w.2
    have hafter : (s.fieldStart id).tracker = s.tracker.afterResolved r := by
      rw [hblock, hresolved, heq, resolveCovered_tracker, hwalk, hsame.resolvedRecord, htracker]
    have hchange : (s.fieldStart id).matrix.pulses.sceneChange = s.tracker.sceneChange r := by
      rw [fieldStart_sceneChange, hresolved, heq, resolveCovered_sceneChange, hwalk, hsame.resolvedRecord, htracker]
    have hnumber : dissolveNumber s.cue w.1 u.sequencer.fieldFrame = f - sceneStart s.cue w.1 + 1 := by rw [hframe]; rfl
    have hdissolving : r.dissolving = true ↔
        1 ≤ f - sceneStart s.cue w.1 + 1 ∧ f - sceneStart s.cue w.1 + 1 ≤ (effectiveDissolve s.cue w.1 : Int) := by
      rw [← hnumber]
      exact decide_eq_true_iff
    rw [hafter, hchange]
    refine ⟨rfl, rfl, rfl, rfl, hdissolving, ?_, r, rfl, rfl, hcount, hframe, rfl, rfl, rfl, rfl, fun hd => ?_, fun hd => ?_⟩
    · exact bne_iff_ne
    · have hr := hdissolving.mpr hd
      have hn : r.n = if r.dissolving then (dissolveNumber s.cue w.1 u.sequencer.fieldFrame).toNat else 0 := rfl
      have hp : r.predecessor = if r.dissolving then scenePrev s.cue w.1 else none := rfl
      rw [hn, hp, hr, hnumber]
      have hpos : 1 ≤ f - sceneStart s.cue w.1 + 1 := hd.1
      exact ⟨rfl, Int.toNat_of_nonneg (by omega), rfl⟩
    · have hr : r.dissolving = false := Bool.eq_false_iff.mpr fun h => hd (hdissolving.mp h)
      have hn : r.n = if r.dissolving then (dissolveNumber s.cue w.1 u.sequencer.fieldFrame).toNat else 0 := rfl
      have hp : r.predecessor = if r.dissolving then scenePrev s.cue w.1 else none := rfl
      rw [hn, hp, hr]
      exact ⟨rfl, rfl, rfl⟩
  · have heq := resolve_of_not_covers (hurun.trans hrun) (hcovers.trans hc)
    let r := heldRecord s.cue u.sequencer w.1 w.2
    have hafter : (s.fieldStart id).tracker = s.tracker.afterHeld r := by
      rw [hblock, hresolved, heq, resolveHeld_tracker, hwalk, hsame.heldRecord, htracker]
    have hchange : (s.fieldStart id).matrix.pulses.sceneChange = false := by
      rw [fieldStart_sceneChange, hresolved, heq, resolveHeld_sceneChange]
    rw [hafter, hchange]
    refine ⟨rfl, rfl, rfl, rfl, rfl, rfl, fun hlag => ?_, r, rfl, rfl, hcount, hframe, rfl, rfl, rfl, rfl, rfl, rfl, rfl⟩
    refine causesKept_of_resolved s id .fault ?_
    rw [hresolved, heq]
    exact causeSet_resolveHeld (by rw [htracker, hlag]) _ _
  · have heq := resolve_of_not_running (fun h => hrun (hurun.symm.trans h))
    rw [hblock, fieldStart_sceneChange, hresolved, heq]
    exact ⟨htracker, rfl⟩

end Sys2Proof.Proofs

/-! How a FIELD START judges the pass (R139 to R142). -/

namespace Sys2Proof.Proofs
open Sys2Proof.Machine

/-! ### The judgement -/

theorem countFrame_of_lt {s : State} (h : s.pass.recorded < 4294967295) : s.countFrame = (s.pass.recorded + 1, s) :=
  if_pos (by omega)

theorem countFrame_state (s : State) : ∃ draws, s.countFrame.2 = { s with draws := draws } := by
  unfold State.countFrame
  split
  · exact ⟨s.draws, rfl⟩
  · exact ⟨s.draws + 2, rfl⟩

theorem countPass_pass {s : State} (h : s.pass.recorded < 4294967295) :
    s.countPass.1.pass = s.pass.counted (s.pass.recorded + 1) := by
  unfold State.countPass
  rw [countFrame_of_lt h]
  dsimp only
  split
  · exact s.setPass_pass _
  · exact changePass_pass _ _

theorem counted_of_complete {p : Pass} {n : Nat} {remaining : Nat}
    (hremaining : remaining = if p.openEnded then p.remaining else p.remaining - 1)
    (hlast : p.openEnded = false ∧ remaining = 0) :
    p.counted n =
      { p with recorded := n, remaining := remaining, state := .complete, condition := .completed, stopPending := false } := by
  subst hremaining
  unfold Pass.counted
  dsimp only
  rw [if_pos hlast]

theorem counted_of_stop {p : Pass} {n : Nat} {remaining : Nat}
    (hremaining : remaining = if p.openEnded then p.remaining else p.remaining - 1)
    (hnot : ¬(p.openEnded = false ∧ remaining = 0)) (hstop : p.stopPending = true) :
    p.counted n =
      { p with recorded := n, remaining := remaining, state := .paused, condition := .stopped, stopPending := false } := by
  subst hremaining
  unfold Pass.counted
  dsimp only
  rw [if_neg hnot, if_pos hstop]

theorem counted_of_next {p : Pass} {n : Nat} {remaining : Nat}
    (hremaining : remaining = if p.openEnded then p.remaining else p.remaining - 1)
    (hnot : ¬(p.openEnded = false ∧ remaining = 0)) (hstop : p.stopPending = false) :
    p.counted n = { p with recorded := n, remaining := remaining, expected := p.expected + 1 } := by
  subst hremaining
  unfold Pass.counted
  dsimp only
  rw [if_neg hnot, if_neg (by rw [hstop]; exact Bool.false_ne_true)]

/-- A counted pass is over, paused, or still RECORDING. -/
theorem counted_state {p : Pass} (h : p.state = .recording) (n : Nat) :
    (p.counted n).state = .recording ∨ (p.counted n).state ≠ p.state := by
  obtain ⟨remaining, hremaining⟩ : ∃ r, r = if p.openEnded then p.remaining else p.remaining - 1 := ⟨_, rfl⟩
  rw [h]
  by_cases hlast : p.openEnded = false ∧ remaining = 0
  · rw [counted_of_complete hremaining hlast]
    exact .inr nofun
  · cases hstop : p.stopPending with
    | true =>
      rw [counted_of_stop hremaining hlast hstop]
      exact .inr nofun
    | false =>
      rw [counted_of_next hremaining hlast hstop]
      exact .inl h

theorem judgePass_of_cued {s : State} (h : s.pass.state = .cued) : s.judgePass = s.judgeCued := by
  unfold State.judgePass; rw [h]

theorem judgePass_of_recording {s : State} (h : s.pass.state = .recording) : s.judgePass = s.judgeRecording := by
  unfold State.judgePass; rw [h]

theorem judgePass_of_other {s : State} (h : s.pass.state ≠ .cued) (h' : s.pass.state ≠ .recording) :
    s.judgePass = (s, []) := by
  unfold State.judgePass
  split
  · next hcued => exact absurd hcued h
  · next hrec => exact absurd hrec h'
  · rfl

/-- The judgement changes the pass state with its report, or leaves it: a pass that goes on RECORDING takes its new
counts, any other stands (R137, R150). -/
theorem judgePass_cases (s : State) :
    s.judgePass = (s, []) ∨
    (∃ (draws : Nat) (p : Pass), p.state ≠ s.pass.state ∧
      s.judgePass = ({ s with draws := draws } : State).changePass p) ∨
    ∃ (draws : Nat) (p : Pass), s.pass.state = .recording ∧ p.state = .recording ∧
      s.judgePass = (({ s with draws := draws } : State).setPass p, []) := by
  by_cases hcued : s.pass.state = .cued
  · rw [judgePass_of_cued hcued]
    unfold State.judgeCued
    dsimp only
    split
    · exact .inr (.inl ⟨s.draws, _, by rw [hcued]; exact nofun, rfl⟩)
    · split
      · exact .inr (.inl ⟨s.draws, s.pass.faultedWith .missedCue, by rw [hcued]; exact nofun, rfl⟩)
      · exact .inl rfl
  by_cases hrec : s.pass.state = .recording
  · have hfault (c : Condition) : ∃ (draws : Nat) (p : Pass), p.state ≠ s.pass.state ∧
        s.faultPass c = ({ s with draws := draws } : State).changePass p :=
      ⟨s.draws, s.pass.faultedWith c, by rw [hrec]; exact nofun, rfl⟩
    rw [judgePass_of_recording hrec]
    unfold State.judgeRecording
    dsimp only
    split
    · split
      · obtain ⟨draws, hdraws⟩ := countFrame_state s
        unfold State.countPass
        dsimp only
        rw [hdraws]
        dsimp only
        split
        · next hstate => exact .inr (.inr ⟨draws, _, hrec, hstate, rfl⟩)
        · next hstate =>
          exact .inr (.inl ⟨draws, _, (counted_state hrec _).resolve_left hstate, rfl⟩)
      · split
        · exact .inr (.inl (hfault _))
        · exact .inr (.inl (hfault _))
    · split
      · exact .inr (.inl (hfault _))
      · exact .inl rfl
  · exact .inl (judgePass_of_other hcued hrec)

/-- A judgement that changes the state to one that calls for it sets the PASS cause (R150). -/
theorem causeSet_judgePass {s : State} (hstate : s.judgePass.1.pass.state ≠ s.pass.state)
    (hcause : s.judgePass.1.pass.state.setsCause = true) : s.judgePass.1.causeSet .pass = true := by
  rcases judgePass_cases s with h | ⟨draws, p, -, h⟩ | ⟨draws, p, hrec, hp, h⟩
  · rw [h] at hstate
    exact absurd rfl hstate
  · rw [h] at hcause ⊢
    rw [changePass_pass] at hcause
    rw [causeSet_changePass, hcause]
    simp
  · rw [h] at hstate
    exact absurd (by simp [hp, hrec]) hstate

theorem passStopPulse_pass (s : State) (pulse : Bool) :
    (s.passStopPulse pulse).pass =
      if pulse = true ∧ s.pass.state = .recording then { s.pass with stopPending := true } else s.pass := by
  unfold State.passStopPulse State.setStopPending
  split
  · exact s.setPass_pass _
  · rfl

theorem passStopPulse_state (s : State) (pulse : Bool) : (s.passStopPulse pulse).pass.state = s.pass.state := by
  rw [passStopPulse_pass]
  split <;> rfl

/-! ### The pass of a field -/

section Judged
variable (s : State) (id : FieldIdentity)

/-- The pass after the field: the judgement, then the PASS STOP pulse. -/
theorem fieldStart_pass :
    (s.fieldStart id).pass =
      if s.turnInversions.presentsPulse 9 = true ∧ (State.fieldJudged s id).1.pass.state = .recording then
        { (State.fieldJudged s id).1.pass with stopPending := true }
      else (State.fieldJudged s id).1.pass := by
  rw [fieldStart_pass_eq_stopped, State.fieldStopped, passStopPulse_pass, presentsPulse_fieldTurned]
  rfl

theorem fieldStart_passState : (s.fieldStart id).pass.state = (State.fieldJudged s id).1.pass.state := by
  rw [fieldStart_pass]
  split <;> rfl

end Judged

/-- A pass that stays RECORDING takes the PASS STOP pulse (R142). -/
theorem fieldStart_pass_of_recording {s : State} {id : FieldIdentity} {p : Pass}
    (h : (State.fieldJudged s id).1.pass = p) (hp : p.state = .recording) :
    (s.fieldStart id).pass = { p with stopPending := p.stopPending || s.turnInversions.presentsPulse 9 } := by
  rw [fieldStart_pass, h]
  cases s.turnInversions.presentsPulse 9 with
  | true => rw [if_pos ⟨rfl, hp⟩, Bool.or_true]
  | false => rw [if_neg (fun h => Bool.false_ne_true h.1), Bool.or_false]

theorem fieldStart_pass_of_not_recording {s : State} {id : FieldIdentity} {p : Pass}
    (h : (State.fieldJudged s id).1.pass = p) (hp : p.state ≠ .recording) : (s.fieldStart id).pass = p := by
  rw [fieldStart_pass, h]
  exact if_neg fun hboth => hp hboth.2

/-- Settles O52, by the pass state and the phase of the field. -/
theorem fieldStartJudgesPass : Obligations.FieldStartJudgesPass := by
  intro id s
  refine ⟨_, exec_fieldStart s id, ?_⟩
  let v := (State.fieldResolved s id).state
  have hv : State.fieldJudged s id = v.judgePass := rfl
  have hpass : v.pass = s.pass := by simp [v]
  have hsequencer : v.sequencer = (s.fieldStart id).sequencer := by
    rw [(fieldStart_blocks s id).1]; simp [v]
  have hposition : v.position = s.position := by simp [v]
  have hframe : v.sequencer.fieldFrame = s.position.frame := by
    rw [hsequencer, fieldStart_sequencer]; rfl
  have hatStart : v.atFrameStart = true ↔
      (s.fieldStart id).sequencer.phase = some 0 ∨ (s.setup.videoMode = .m60_32 ∧
        ((s.fieldStart id).sequencer.phase = some 2 ∨ (s.fieldStart id).sequencer.phase = some 5 ∨
          (s.fieldStart id).sequencer.phase = some 7)) := by
    rw [atFrameStart_iff, hsequencer]
    simp [v]
  have hfaulted {c : Condition} (h : v.judgePass = v.faultPass c) :
      (s.fieldStart id).pass = s.pass.faultedWith c := by
    refine fieldStart_pass_of_not_recording (p := s.pass.faultedWith c) ?_ nofun
    rw [hv, h, State.faultPass, changePass_pass, hpass]
  have hstands (h : v.judgePass = (v, [])) (hnot : s.pass.state ≠ .recording) : (s.fieldStart id).pass = s.pass :=
    fieldStart_pass_of_not_recording (by rw [hv, h]; exact hpass) hnot
  refine ⟨fun hcued => ?_, fun hrec hstart => ?_, fun hrec hstart => ?_, fun hcued hrec => ?_, fun hchange hcause => ?_, ?_⟩
  · have hjudge : v.judgePass = v.judgeCued := judgePass_of_cued (by rw [hpass]; exact hcued)
    unfold State.judgeCued at hjudge
    dsimp only at hjudge
    rw [hframe, hpass, hposition, hsequencer] at hjudge
    refine ⟨fun henters => ?_, fun henters hmissed => hfaulted ?_, fun henters hmissed => hstands ?_ ?_⟩
    · rw [if_pos henters] at hjudge
      refine fieldStart_pass_of_recording (p := { s.pass with state := .recording, expected := _, startFieldCount := _ }) ?_ rfl
      rw [hv, hjudge, changePass_pass]
    · rw [hjudge, if_neg henters, if_pos hmissed]
    · rw [hjudge, if_neg henters, if_neg hmissed]
    · rw [hcued]; exact nofun
  · have hjudge : v.judgePass = v.judgeRecording := judgePass_of_recording (by rw [hpass]; exact hrec)
    unfold State.judgeRecording at hjudge
    dsimp only at hjudge
    rw [if_pos (hatStart.mpr hstart), hframe, hpass] at hjudge
    refine ⟨fun hf hlimit => ?_, fun hf => hfaulted ?_, fun hf => hfaulted ?_⟩
    · have hcounted : (State.fieldJudged s id).1.pass = s.pass.counted (s.pass.recorded + 1) := by
        rw [hv, hjudge, if_pos hf, countPass_pass (by rw [hpass]; exact hlimit), hpass]
      refine ⟨fun hcomplete => ?_, fun hcomplete hstop => ?_, fun hcomplete hstop => ?_⟩
      · rw [counted_of_complete rfl hcomplete] at hcounted
        exact fieldStart_pass_of_not_recording hcounted (show PassState.complete ≠ .recording from nofun)
      · rw [counted_of_stop rfl hcomplete hstop] at hcounted
        exact fieldStart_pass_of_not_recording hcounted (show PassState.paused ≠ .recording from nofun)
      · rw [counted_of_next rfl hcomplete hstop] at hcounted
        rw [fieldStart_pass_of_recording hcounted hrec, hstop]
        rfl
    · rw [hjudge, if_neg (by omega), if_pos hf]
    · rw [hjudge, if_neg (by omega), if_neg (by omega)]
  · have hjudge : v.judgePass = v.judgeRecording := judgePass_of_recording (by rw [hpass]; exact hrec)
    unfold State.judgeRecording at hjudge
    dsimp only at hjudge
    rw [if_neg (fun h => hstart (hatStart.mp h)), hframe, hpass, hsequencer] at hjudge
    refine ⟨fun hlost => hfaulted ?_, fun hphase hf => ?_⟩
    · rw [hjudge, if_pos hlost]
    · refine fieldStart_pass_of_recording ?_ hrec
      rw [hv, hjudge, if_neg fun h => h.elim hphase fun hne => hne hf]
      exact hpass
  · refine fieldStart_pass_of_not_recording ?_ hrec
    rw [hv, judgePass_of_other (by rw [hpass]; exact hcued) (by rw [hpass]; exact hrec)]
    exact hpass
  · rw [fieldStart_passState, hv] at hchange hcause
    refine causesKept_of_judged s id .pass (causeSet_judgePass (by rw [hpass]; exact hchange) ?_)
    rcases hcause with h | h | h <;> rw [h] <;> rfl
  · exact passGate_eq _

end Sys2Proof.Proofs

/-! The status block, word by word (R183), and when it is written (R34, R92). -/

namespace Sys2Proof.Proofs
open Sys2Proof.Machine

/-! ### What the writing of records leaves -/

theorem appendRecord_releaseCount (s : State) (r : Record) (fc : DWord) :
    (s.appendRecord r fc).writer.releaseCount = s.writer.releaseCount := by simp [State.appendRecord]

theorem hand_releaseCount (s : State) (r : Record) : (s.hand r).writer.releaseCount = s.writer.releaseCount := by
  have hdrop (u : State) : (u.dropRecord r).writer.releaseCount = u.writer.releaseCount := rfl
  have hwrite (u : State) : (u.writeOrDrop r).writer.releaseCount = u.writer.releaseCount := by
    unfold State.writeOrDrop
    split
    · exact appendRecord_releaseCount u r _
    · exact hdrop u
  unfold State.hand
  split
  · split
    · exact hwrite s
    · next g _ =>
      split
      · exact (hwrite _).trans (appendRecord_releaseCount s g.record _)
      · exact hdrop s
  · rfl

theorem handEach_releaseCount (s : State) (rs : List Record) :
    (s.handEach rs).writer.releaseCount = s.writer.releaseCount := by
  induction rs generalizing s with
  | nil => rfl
  | cons r rs ih => exact (ih _).trans (hand_releaseCount s r)

theorem handMixed_releaseCount (fuel : Nat) (s : State) (qs : List (List Record)) :
    (State.handMixed fuel s qs).writer.releaseCount = s.writer.releaseCount := by
  induction fuel generalizing s qs with
  | zero => rfl
  | succ fuel ih =>
    unfold State.handMixed
    split
    · rfl
    · exact handEach_releaseCount s _
    · dsimp only
      split
      · exact (ih _ _).trans (hand_releaseCount _ _)
      · rfl

theorem handTogether_releaseCount (s : State) (qs : List (List Record)) :
    (s.handTogether qs).writer.releaseCount = s.writer.releaseCount := handMixed_releaseCount _ s _

/-- Records that the writer discards leave the part as it is (R165). -/
theorem handTogether_of_not_running {s : State} (h : s.port.run ≠ .running) (qs : List (List Record)) :
    s.handTogether qs = s := by
  have hnone : (qs.map fun q => q.filter fun r => s.takes r.kind).flatten = [] := by
    rw [← List.filter_flatten, List.filter_eq_nil_iff]
    intro r _ htakes
    simp [State.takes, h] at htakes
  rw [handTogether_eq_handMixed, State.handMixed, waiting_eq_nil hnone]

/-! ### LISTED COUNT and writes outside the scene table -/

theorem listedCell_of_outside {a : Nat} (h : ¬inScenes a) (w : Word) : listedCell (a, w) = false := by
  unfold listedCell sceneBase
  rw [Bool.and_eq_false_iff]
  left
  rw [decide_eq_false_iff_not]
  unfold inScenes at h
  omega

theorem countP_dropCell {a : Nat} (h : ¬inScenes a) (m : Memory) :
    (Memory.dropCell a m).countP listedCell = m.countP listedCell := by
  induction m with
  | nil => rfl
  | cons c m ih =>
    obtain ⟨k, v⟩ := c
    unfold Memory.dropCell
    split
    · next hk =>
      subst hk
      rw [ih, List.countP_cons_of_neg (by rw [listedCell_of_outside h]; exact Bool.false_ne_true)]
    · rw [List.countP_cons, List.countP_cons, ih]

theorem countP_insertCell {a : Nat} (h : ¬inScenes a) (w : Word) (m : Memory) :
    (Memory.insertCell a w m).countP listedCell = m.countP listedCell := by
  have hcell : ¬listedCell (a, w) = true := by rw [listedCell_of_outside h]; exact Bool.false_ne_true
  induction m with
  | nil => exact List.countP_cons_of_neg hcell
  | cons c m ih =>
    obtain ⟨k, v⟩ := c
    unfold Memory.insertCell
    split
    · exact List.countP_cons_of_neg hcell
    · rw [List.countP_cons, List.countP_cons, ih]

theorem listedCount_write {a : Nat} (h : ¬inScenes a) (m : Memory) (w : Word) :
    listedCount (Memory.write m a w) = listedCount m := by
  unfold listedCount Memory.write
  split
  · exact countP_dropCell h m
  · rw [countP_insertCell h, countP_dropCell h]

theorem listedCount_writeAll {cs : List (Nat × Word)} (h : ∀ c ∈ cs, ¬inScenes c.1) (m : Memory) :
    listedCount (Memory.writeAll m cs) = listedCount m := by
  induction cs generalizing m with
  | nil => rfl
  | cons c cs ih =>
    rw [Memory.writeAll_cons, ih (fun d hd => h d (List.mem_cons_of_mem _ hd)), listedCount_write (h c (by simp))]

theorem listedCount_hand (s : State) (r : Record) : listedCount (s.hand r).cue = listedCount s.cue := by
  have happend (u : State) (q : Record) (fc : DWord) : listedCount (u.appendRecord q fc).cue = listedCount u.cue := by
    rw [appendRecord_cue]
    refine listedCount_writeAll (fun c hc hscenes => ?_) u.cue
    have hplace := ringPlace_bounds u.writer.writeCount.toNat
    have hcell := mem_recordCells hc
    unfold inScenes at hscenes
    omega
  have hwrite (u : State) : listedCount (u.writeOrDrop r).cue = listedCount u.cue := by
    unfold State.writeOrDrop
    split
    · exact happend u r _
    · rfl
  unfold State.hand
  split
  · split
    · exact hwrite s
    · next g _ =>
      split
      · exact (hwrite _).trans (happend s g.record _)
      · rfl
  · rfl

/-! ### The status block as written -/

/-- Status words 2 to 18. -/
def statusHead (s : State) (f : FieldMoment) : List Word :=
  bothWords (signedDWord s.sequencer.fieldFrame) ++
    [phaseWord s.sequencer.phase, boolWord s.sequencer.locked, f.positionState.code, f.direction.code] ++
    trackerWords s.tracker ++
    [natWord s.requests.freeStack.length, natWord (listedCount s.cue), f.writeCount, f.releaseCount,
      rippleEntryWord s.requests, s.engine.liveState.code]

/-- Status words 29 to 33. -/
def statusTail (s : State) (f : FieldMoment) : List Word :=
  [natWord s.requests.takeIndex.val, setupFaultWord s.requests] ++ bothWords (signedDWord f.perfCount) ++
    [s.sequencer.reference.code]

theorem statusWords_eq (s : State) (f : FieldMoment) :
    s.statusWords f = statusHead s f ++ (gradeWords s.engine.coefficients ++ statusTail s f) := by
  simp only [State.statusWords, statusHead, statusTail, List.append_assoc]

theorem length_statusHead (s : State) (f : FieldMoment) : (statusHead s f).length = 17 := by
  simp [statusHead, bothWords, length_trackerWords]

theorem statusWords_head {s : State} {f : FieldMoment} {n : Nat} {w : Word} (h : (statusHead s f)[n]? = some w) :
    (s.statusWords f)[n]? = some w := by
  have hn : n < (statusHead s f).length := (List.getElem?_eq_some_iff.mp h).1
  rw [statusWords_eq, List.getElem?_append_left hn, h]

theorem statusWords_grade (s : State) (f : FieldMoment) (k : Fin 10) :
    (s.statusWords f)[17 + k.val]? = some (signedWord s.engine.coefficients[k]) := by
  rw [statusWords_eq, List.getElem?_append_right (by rw [length_statusHead]; omega), length_statusHead,
    Nat.add_sub_cancel_left, List.getElem?_append_left (by rw [length_gradeWords]; exact k.isLt)]
  simp [gradeWords]

theorem statusWords_tail {s : State} {f : FieldMoment} {n : Nat} {w : Word} (h : (statusTail s f)[n]? = some w) :
    (s.statusWords f)[27 + n]? = some w := by
  rw [statusWords_eq, List.getElem?_append_right (by rw [length_statusHead]; omega), length_statusHead,
    List.getElem?_append_right (by rw [length_gradeWords]; omega), length_gradeWords,
    show 27 + n - 17 - 10 = n by omega, h]

theorem read_writeStatus {s : State} {f : FieldMoment} {n : Nat} {w : Word} (h : (s.statusWords f)[n]? = some w) :
    Memory.read (s.writeStatus f).cue (0x102 + n) = w := by
  obtain ⟨hn, hw⟩ := List.getElem?_eq_some_iff.mp h
  have hcue : (s.writeStatus f).cue = Memory.writeAll (Memory.writeAll s.cue (cellsFrom (statusBase + 2) (s.statusWords f)))
      (pairCells statusBase s.sequencer.fieldCount) := Memory.writeAll_append _ _ _
  rw [hcue, Memory.read_writeAll_other _ _ _ fun c hc => ?_]
  · exact (Memory.read_writeAll_cellsFrom s.cue (statusBase + 2) n _ hn).trans hw
  · simp only [pairCells, statusBase, List.mem_cons, List.not_mem_nil, or_false] at hc
    rcases hc with rfl | rfl <;> dsimp only <;> omega

theorem readPair_writeStatus_fieldCount (s : State) (f : FieldMoment) :
    Memory.readPair (s.writeStatus f).cue 0x100 = s.sequencer.fieldCount := by
  have hcue : (s.writeStatus f).cue = Memory.writeAll (Memory.writeAll s.cue (cellsFrom (statusBase + 2) (s.statusWords f)))
      (pairCells statusBase s.sequencer.fieldCount) := Memory.writeAll_append _ _ _
  have hcell {c : Nat × Word} (hc : c ∈ pairCells statusBase s.sequencer.fieldCount) :
      Memory.read (s.writeStatus f).cue c.1 = c.2 := by
    rw [hcue]
    exact Memory.read_writeAll_mem _ _ c hc (by simp [pairCells])
  exact readPair_of_words (hcell (c := (statusBase, highWord s.sequencer.fieldCount)) (by simp [pairCells]))
    (hcell (c := (statusBase + 1, lowWord s.sequencer.fieldCount)) (by simp [pairCells]))

theorem listedCount_writeStatus (s : State) (f : FieldMoment) : listedCount (s.writeStatus f).cue = listedCount s.cue := by
  refine listedCount_writeAll (fun c hc hscenes => ?_) s.cue
  unfold inScenes at hscenes
  rcases List.mem_append.mp hc with hc | hc
  · have := mem_cellsFrom _ _ c hc
    rw [length_statusWords] at this
    unfold statusBase at this
    omega
  · simp only [pairCells, statusBase, List.mem_cons, List.not_mem_nil, or_false] at hc
    rcases hc with rfl | rfl <;> dsimp only at hscenes <;> omega

/-- The tracker's five words as one list, whatever the latest resolution. -/
theorem trackerWords_of_some {t : Tracker} {r : Resolution} (h : t.latest = some r) :
    trackerWords t =
      [boolWord t.lagging, slotWord (some r.slot), slotWord r.predecessor, natWord r.n, natWord r.dEff] := by
  unfold trackerWords
  rw [h]

theorem trackerWords_of_none {t : Tracker} (h : t.latest = none) :
    trackerWords t = [boolWord t.lagging, slotWord (some 0), slotWord none, 0, 0] := by
  unfold trackerWords
  rw [h]

/-- A status word of the head, by its place in it. -/
theorem statusHead_getElem? (s : State) (f : FieldMoment) :
    ∃ w1 w2 w3 w4 : Word, trackerWords s.tracker = [boolWord s.tracker.lagging, w1, w2, w3, w4] ∧
      statusHead s f =
        [highWord (signedDWord s.sequencer.fieldFrame), lowWord (signedDWord s.sequencer.fieldFrame),
          phaseWord s.sequencer.phase, boolWord s.sequencer.locked, f.positionState.code, f.direction.code,
          boolWord s.tracker.lagging, w1, w2, w3, w4, natWord s.requests.freeStack.length,
          natWord (listedCount s.cue), f.writeCount, f.releaseCount, rippleEntryWord s.requests,
          s.engine.liveState.code] := by
  have hlist {w1 w2 w3 w4 : Word} (h : trackerWords s.tracker = [boolWord s.tracker.lagging, w1, w2, w3, w4]) :
      statusHead s f =
        [highWord (signedDWord s.sequencer.fieldFrame), lowWord (signedDWord s.sequencer.fieldFrame),
          phaseWord s.sequencer.phase, boolWord s.sequencer.locked, f.positionState.code, f.direction.code,
          boolWord s.tracker.lagging, w1, w2, w3, w4, natWord s.requests.freeStack.length,
          natWord (listedCount s.cue), f.writeCount, f.releaseCount, rippleEntryWord s.requests,
          s.engine.liveState.code] := by
    unfold statusHead
    rw [h]
    rfl
  cases h : s.tracker.latest with
  | some r => exact ⟨_, _, _, _, trackerWords_of_some h, hlist (trackerWords_of_some h)⟩
  | none => exact ⟨_, _, _, _, trackerWords_of_none h, hlist (trackerWords_of_none h)⟩

/-- A memory that holds the status block written shows the part, under the moment it is written with (R183). -/
theorem statusShows_of_written {s : State} {f : FieldMoment} {m : Memory}
    (hm : ∀ a, inStatus a → Memory.read m a = Memory.read (s.writeStatus f).cue a) : statusShows m s f := by
  obtain ⟨w1, w2, w3, w4, htracker, hhead⟩ := statusHead_getElem? s f
  have hread {n : Nat} {w : Word} (hn : n < 32) (h : (s.statusWords f)[n]? = some w) : Memory.read m (0x102 + n) = w :=
    (hm _ (by unfold inStatus; omega)).trans (read_writeStatus h)
  have head (n : Nat) {w : Word} (hn : n < 17) (h : (statusHead s f)[n]? = some w) : Memory.read m (0x102 + n) = w :=
    hread (by omega) (statusWords_head h)
  have tail (n : Nat) {w : Word} (hn : n < 5) (h : (statusTail s f)[n]? = some w) :
      Memory.read m (0x102 + (27 + n)) = w := hread (by omega) (statusWords_tail h)
  rw [hhead] at head
  have hcount : Memory.readPair m 0x100 = s.sequencer.fieldCount := by
    rw [← readPair_writeStatus_fieldCount s f]
    unfold Memory.readPair
    rw [hm _ (by unfold inStatus; omega), hm _ (by unfold inStatus; omega)]
  refine ⟨⟨hcount, readPair_of_words (head 0 (by omega) rfl) (head 1 (by omega) rfl)⟩, ?_, head 3 (by omega) rfl, ?_, ?_,
    head 6 (by omega) rfl, fun r hr => ?_, fun hnone => ?_, ⟨head 11 (by omega) rfl, head 12 (by omega) rfl⟩,
    ⟨head 13 (by omega) rfl, head 14 (by omega) rfl⟩, ?_, ?_, fun k => ?_, tail 0 (by omega) rfl, ?_,
    readPair_of_words (tail 2 (by omega) rfl) (tail 3 (by omega) rfl), ?_⟩
  · rw [head 2 (by omega) rfl]
    cases s.sequencer.phase <;> rfl
  · rw [head 4 (by omega) rfl]
    cases f.positionState <;> rfl
  · rw [head 5 (by omega) rfl]
    cases f.direction <;> rfl
  · rw [trackerWords_of_some hr] at htracker
    obtain ⟨rfl, rfl, rfl, rfl⟩ := by simpa using htracker
    exact ⟨head 7 (by omega) rfl, head 8 (by omega) rfl, head 9 (by omega) rfl, head 10 (by omega) rfl⟩
  · rw [trackerWords_of_none hnone] at htracker
    obtain ⟨rfl, rfl, rfl, rfl⟩ := by simpa using htracker
    exact ⟨head 7 (by omega) rfl, head 8 (by omega) rfl, head 9 (by omega) rfl, head 10 (by omega) rfl⟩
  · rw [head 15 (by omega) rfl]
    cases h : s.requests.ripple <;> simp [rippleEntryWord, h]
  · rw [head 16 (by omega) rfl]
    cases s.engine.liveState <;> rfl
  · have hgrade := hread (by omega) (statusWords_grade s f k)
    rwa [← Nat.add_assoc] at hgrade
  · rw [tail 1 (by omega) rfl]
    cases h : s.requests.setupFault <;> simp [setupFaultWord, h]
  · rw [tail 4 (by omega) rfl]
    cases s.sequencer.reference <;> rfl

/-- What the status block shows of a part is read of these blocks alone. -/
theorem statusShows_congr {m : Memory} {s t : State} {f : FieldMoment} (h : statusShows m s f)
    (hsequencer : t.sequencer = s.sequencer) (htracker : t.tracker = s.tracker) (hrequests : t.requests = s.requests)
    (hengine : t.engine = s.engine) (hcount : listedCount t.cue = listedCount s.cue) : statusShows m t f := by
  unfold statusShows at *
  rw [hsequencer, htracker, hrequests, hengine, hcount]
  exact h

/-- A part that still holds the status block written, with the same blocks, is shown by it. -/
theorem statusShows_after {u t : State} {f : FieldMoment} (hm : ∀ a, inStatus a → Memory.read t.cue a = Memory.read (u.writeStatus f).cue a)
    (hsequencer : t.sequencer = u.sequencer) (htracker : t.tracker = u.tracker) (hrequests : t.requests = u.requests)
    (hengine : t.engine = u.engine) (hcount : listedCount t.cue = listedCount u.cue) : statusShows t.cue t f :=
  statusShows_congr (statusShows_of_written hm) hsequencer htracker hrequests hengine hcount

theorem statusShows_writeStatus (s : State) (f : FieldMoment) :
    statusShows (s.writeStatus f).cue (s.writeStatus f) f :=
  statusShows_after (u := s) (fun _ _ => rfl) (by simp) (by simp) (by simp) (by simp) (listedCount_writeStatus s f)

/-! ### The thirteenth word read -/

theorem not_inRing_of_inStatus {a : Nat} (h : inStatus a) : ¬inRing a := by
  unfold inStatus at h; unfold inRing; omega

theorem statusShows_endLiveRead (s : State) (read : LiveRead) :
    statusShows (s.endLiveRead read).cue (s.endLiveRead read) read.moment := by
  have hdone {t : State} (e : Engine) (ht : t = State.liveDone s e read.moment ∨
      ∃ (draws : Nat) (r : Record), t = ({ State.liveDone s e read.moment with draws := draws } : State).hand r ∨
        t = (({ State.liveDone s e read.moment with draws := draws } : State).hand r).setCause .stale) :
      statusShows t.cue t read.moment := by
    have hcount := listedCount_writeStatus (({ s with engine := e } : State).buildCoefficients) read.moment
    rcases ht with rfl | ⟨draws, r, rfl | rfl⟩
    · exact statusShows_writeStatus _ _
    · exact statusShows_after (u := ({ s with engine := e } : State).buildCoefficients)
        (fun a ha => (changesWithin_hand _ r).read (not_inRing_of_inStatus ha)) (by simp [State.liveDone])
        (by simp [State.liveDone]) (by simp [State.liveDone]) (by simp [State.liveDone])
        ((listedCount_hand _ r).trans hcount)
    · exact statusShows_after (u := ({ s with engine := e } : State).buildCoefficients)
        (fun a ha => (changesWithin_hand _ r).read (not_inRing_of_inStatus ha)) (by simp [State.liveDone])
        (by simp [State.liveDone]) (by simp [State.liveDone]) (by simp [State.liveDone])
        ((listedCount_hand _ r).trans hcount)
  by_cases h : (liveRecordOf read.words).close = (liveRecordOf read.words).open_
  · rw [endLiveRead_of_whole h]
    dsimp only
    split
    · exact hdone _ (.inr ⟨(State.liveDone s (s.engine.take (liveRecordOf read.words)) read.moment).draws, _, .inl rfl⟩)
    · exact hdone _ (.inl rfl)
  · obtain ⟨draws, absent, heq⟩ := endLiveRead_of_torn h
    rw [heq]
    dsimp only
    split
    · exact hdone _ (.inr ⟨draws, _, .inr rfl⟩)
    · exact hdone _ (.inl rfl)

/-! ### The engine's work at a FIELD START -/

section EngineField
variable {s : State} {trimHold : Bool}

theorem engineField_of_held (hrun : s.port.run = .running) (h : s.liveReadHeld trimHold = true) :
    s.engineField trimHold =
      (({ s with engine := { s.engine with liveState := .held } } : State).buildCoefficients).writeStatus s.moment := by
  unfold State.engineField
  rw [if_pos hrun, if_pos h]

theorem engineField_of_read (hrun : s.port.run = .running) (h : ¬s.liveReadHeld trimHold = true) :
    s.engineField trimHold =
      { s with engine := { s.engine with read := some { words := [], moment := s.moment } } } := by
  unfold State.engineField
  rw [if_pos hrun, if_neg h]

theorem engineField_of_halted (hrun : s.port.run = .halted) : s.engineField trimHold = s.writeStatus s.moment := by
  unfold State.engineField State.initialised
  rw [if_neg (by rw [hrun]; exact nofun), hrun]
  rfl

theorem engineField_of_uninitialised (hrun : s.port.run = .uninitialised) : s.engineField trimHold = s := by
  unfold State.engineField State.initialised
  rw [if_neg (by rw [hrun]; exact nofun), hrun]
  rfl

end EngineField

section FieldStart
variable {s : State} {id : FieldIdentity}

theorem fieldTurned_eq_of_none (hread : s.engine.read = none) : State.fieldTurned s = s.turnInversions := by
  unfold State.fieldTurned
  rw [finishLiveRead_of_none hread]

theorem read_fieldStopped (hread : s.engine.read = none) {a : Nat} (ha : ¬inPassBlock a) :
    Memory.read (State.fieldStopped s id).cue a = Memory.read s.cue a := by
  have hresolved : (State.fieldResolved s id).state.cue = s.cue := by simp [fieldTurned_eq_of_none hread]
  rw [State.fieldStopped, (changesWithin_passStopPulse _ _).read ha, State.fieldJudged, (changesWithin_judgePass _).read ha,
    hresolved]

theorem read_fieldHanded (hread : s.engine.read = none) {a : Nat} (ha : ¬inPassBlock a) (hring : ¬inRing a) :
    Memory.read (State.fieldHanded s id).cue a = Memory.read s.cue a := by
  rw [State.fieldHanded, (changesWithin_handTogether _ _).read hring]
  simpa using read_fieldStopped hread ha

/-- The moment the status block is written with (log 6). -/
theorem fieldHanded_moment (hread : s.engine.read = none) :
    (State.fieldHanded s id).moment =
      { perfCount := s.position.count, positionState := s.position.state, direction := s.position.direction
        writeCount := (s.fieldStart id).writer.writeCount, releaseCount := s.writer.releaseCount } := by
  have hrelease : (State.fieldHanded s id).writer.releaseCount = s.writer.releaseCount := by
    rw [State.fieldHanded, handTogether_releaseCount]
    simp [fieldTurned_eq_of_none hread]
  unfold State.moment
  rw [hrelease, fieldStart_writer_eq_handed]
  simp

theorem fieldHanded_engine (hread : s.engine.read = none) : (State.fieldHanded s id).engine = s.engine := by
  simp [fieldTurned_eq_of_none hread]

end FieldStart

/-- Settles O60: at a FIELD START by the run state and the read, then at the thirteenth word read. -/
theorem statusBlockShowsField : Obligations.StatusBlockShowsField := by
  refine ⟨fun id s hread => ⟨_, exec_fieldStart s id, fun hrun hnone => ?_, fun hrun => ?_, fun hrun a ha => ?_⟩,
    fun s read hread hlength => ?_⟩
  · rw [← fieldHanded_moment hread]
    have hhanded : (State.fieldHanded s id).port.run = s.port.run := by simp
    cases hstate : s.port.run with
    | uninitialised => exact absurd hstate hrun
    | halted =>
      rw [fieldStart_eq, engineField_of_halted (hhanded.trans hstate)]
      exact statusShows_writeStatus _ _
    | running =>
      by_cases hheld : (State.fieldHanded s id).liveReadHeld ((State.fieldTurned s).presentedValue userTrimHold) = true
      · rw [fieldStart_eq, engineField_of_held (hhanded.trans hstate) hheld]
        exact statusShows_writeStatus _ _
      · rw [fieldStart_eq, engineField_of_read (hhanded.trans hstate) hheld] at hnone
        cases hnone
  · have hhanded : (State.fieldHanded s id).port.run = .halted := by simpa using hrun
    rw [fieldStart_eq, engineField_of_halted hhanded]
    refine ⟨?_, fun a hstatus hpass => ?_⟩
    · simpa [fieldTurned_eq_of_none hread] using hread
    · rw [(changesWithin_writeStatus _ _).read hstatus, State.fieldHanded,
        handTogether_of_not_running (by simp [hrun])]
      simpa using read_fieldStopped hread hpass
  · have hhanded : (State.fieldHanded s id).port.run = .uninitialised := by simpa using hrun
    rw [fieldStart_eq, engineField_of_uninitialised hhanded]
    refine read_fieldHanded hread (fun h => ?_) (not_inRing_of_inStatus ha)
    unfold inStatus at ha
    unfold inPassBlock at h
    omega
  · rw [exec_liveRecordWordRead hread, liveWordRead_of_last hlength]
    exact ⟨_, rfl, statusShows_endLiveRead s (LiveRead.next read s.cue)⟩

end Sys2Proof.Proofs

/-! How a FIELD START begins or holds the read of the live trim record (R77 to R80). -/

namespace Sys2Proof.Proofs
open Sys2Proof.Machine

/-! ### Thirteen word reads with nothing between -/

/-- The words that the first n word reads take of a memory (R78). -/
def liveWords (m : Memory) (n : Nat) : List Word := (List.range n).map fun k => Memory.read m (liveBase + liveReadOffset k)

theorem liveWords_succ (m : Memory) (n : Nat) :
    liveWords m (n + 1) = liveWords m n ++ [Memory.read m (liveBase + liveReadOffset n)] := by
  simp [liveWords, List.range_succ]

theorem length_liveWords (m : Memory) (n : Nat) : (liveWords m n).length = n := by simp [liveWords]

/-- The part with a read in progress that has taken n words. -/
def State.reading (s : State) (f : FieldMoment) (n : Nat) : State :=
  { s with engine := { s.engine with read := some { words := liveWords s.cue n, moment := f } } }

theorem next_liveWords (m : Memory) (f : FieldMoment) (n : Nat) :
    LiveRead.next { words := liveWords m n, moment := f } m = { words := liveWords m (n + 1), moment := f } := by
  unfold LiveRead.next
  dsimp only
  rw [length_liveWords, ← liveWords_succ]

theorem runAll_cons {c : Instr} {cs : List Instr} {s t : State} (h : exec c s = .next t) :
    runAll (c :: cs) s = runAll cs t := by
  simp only [runAll, h]

theorem exec_reading_of_short (s : State) (f : FieldMoment) {k : Nat} (h : k < 12) :
    exec .liveRecordWordRead (State.reading s f k) = .next (State.reading s f (k + 1)) := by
  have hnext : LiveRead.next { words := liveWords s.cue k, moment := f } (State.reading s f k).cue = _ :=
    next_liveWords s.cue f k
  rw [exec_liveRecordWordRead (read := { words := liveWords s.cue k, moment := f }) rfl,
    liveWordRead_of_short (by rw [length_liveWords]; exact h), hnext]
  rfl

theorem exec_reading_of_last (s : State) (f : FieldMoment) :
    exec .liveRecordWordRead (State.reading s f 12) =
      .next ((State.reading s f 12).endLiveRead { words := liveWords s.cue 13, moment := f }) := by
  have hnext : LiveRead.next { words := liveWords s.cue 12, moment := f } (State.reading s f 12).cue = _ :=
    next_liveWords s.cue f 12
  rw [exec_liveRecordWordRead (read := { words := liveWords s.cue 12, moment := f }) rfl,
    liveWordRead_of_last (length_liveWords _ _), hnext]

theorem runAll_reading (s : State) (f : FieldMoment) (n : Nat) {k : Nat} (h : n + k = 12) :
    runAll (List.replicate (n + 1) .liveRecordWordRead) (State.reading s f k) =
      .next ((State.reading s f 12).endLiveRead { words := liveWords s.cue 13, moment := f }) := by
  induction n generalizing k with
  | zero =>
    obtain rfl : k = 12 := by omega
    exact runAll_cons (exec_reading_of_last s f)
  | succ n ih =>
    rw [List.replicate_succ, runAll_cons (exec_reading_of_short s f (by omega))]
    exact ih (by omega)

/-- What thirteen word reads make of the engine: the record whole exactly where its revision words agree (R78). -/
theorem endLiveRead_liveWords (s : State) (f : FieldMoment) :
    ∃ u : State, u = s.endLiveRead { words := liveWords s.cue 13, moment := f } ∧ u.engine.read = none ∧
      (u.engine.liveState = .current ↔ Memory.read s.cue 0x20C = Memory.read s.cue 0x200) ∧
      (u.engine.liveState = .current → u.engine.revision = some (Memory.read s.cue 0x200) ∧
        u.engine.enable = decide (Memory.read s.cue 0x201 ≠ 0)) := by
  let read : LiveRead := { words := liveWords s.cue 13, moment := f }
  let r := liveRecordOf read.words
  have hengine : (s.endLiveRead read).engine = _ := endLiveRead_engine_eq s read
  have hclose : r.close = Memory.read s.cue 0x20C := rfl
  have hopen : r.open_ = Memory.read s.cue 0x200 := rfl
  have henable : r.enable = (Memory.read s.cue 0x201 != 0) := rfl
  refine ⟨_, rfl, ?_⟩
  rw [hengine]
  by_cases h : r.close = r.open_
  · have htake : liveEngine s r = s.engine.take r := if_pos h
    rw [htake]
    refine ⟨rfl, ⟨fun _ => by rw [← hclose, ← hopen, h], fun _ => rfl⟩, fun _ => ⟨congrArg some hopen, ?_⟩⟩
    change r.enable = _
    rw [henable, Bool.eq_iff_iff]
    simp
  · have htear : liveEngine s r = s.engine.tear s.setup.liveStaleLimit := if_neg h
    rw [htear]
    exact ⟨rfl, ⟨nofun, fun heq => absurd (by rw [hclose, hopen, heq]) h⟩, nofun⟩

/-! ### The engine's work -/

theorem setFollows_congr {m m' : Memory} {latest : Option Resolution} {before after : Engine}
    (h : setFollows m' latest before after) (hm : SameScenes m m') : setFollows m latest before after := by
  obtain ⟨hresolved, hheld⟩ := h
  refine ⟨fun r hr ho k => ?_, hheld⟩
  have hvalue : effectiveValue m' r k = effectiveValue m r k := by
    simp only [effectiveValue, hm.grade]
  rw [← hvalue]
  exact hresolved r hr ho k

theorem sameScenes_fieldHanded {s : State} {id : FieldIdentity} (hread : s.engine.read = none) :
    SameScenes s.cue (State.fieldHanded s id).cue := fun a ha => by
  unfold inScenes at ha
  exact read_fieldHanded hread (by unfold inPassBlock; omega) (by unfold inRing; omega)

/-- Settles O34, by whether the record is read at the field. -/
theorem fieldStartReadsLiveTrim : Obligations.FieldStartReadsLiveTrim := by
  intro id s hrun hread
  refine ⟨_, exec_fieldStart s id, ?_⟩
  let h := State.fieldHanded s id
  have hhrun : h.port.run = .running := by simpa [h] using hrun
  have hengine : h.engine = s.engine := fieldHanded_engine hread
  have hpass : (s.fieldStart id).pass = h.pass := by rw [fieldStart_pass_eq_stopped]; simp [h]
  have htracker : (s.fieldStart id).tracker = h.tracker := by rw [(fieldStart_blocks s id).2.1]; simp [h]
  have hheld : h.liveReadHeld ((State.fieldTurned s).presentedValue userTrimHold) = true ↔
      (s.turnInversions.presentedValue 8 = true ∨
        (s.setup.freezeTrimInRecord = true ∧ (s.fieldStart id).pass.state = .recording)) := by
    rw [presentedValue_fieldTurned, hpass]
    simp [State.liveReadHeld, userTrimHold, h]
  refine ⟨fun hhold => ?_, fun hhold => ?_⟩
  · let base : State := { h with engine := { h.engine with liveState := .held } }
    have heq : (s.fieldStart id).engine = base.buildCoefficients.engine := by
      rw [fieldStart_eq, engineField_of_held hhrun (hheld.mpr hhold)]
      simp [base, h]
    have hbase : base.engine = { s.engine with liveState := .held } :=
      congrArg (fun e : Engine => { e with liveState := .held }) hengine
    have hset : setFollows h.cue h.tracker.latest s.engine base.buildCoefficients.engine :=
      setFollows_buildCoefficients (s := base) (before := s.engine) (by rw [hbase])
    refine ⟨?_, ?_⟩
    · rw [heq, buildCoefficients_eq, hbase]
    · rw [heq, htracker]
      exact setFollows_congr hset (sameScenes_fieldHanded hread)
  · have heq : s.fieldStart id =
        { h with engine := { h.engine with read := some { words := [], moment := h.moment } } } := by
      rw [fieldStart_eq]
      exact engineField_of_read hhrun fun hh => hhold (hheld.mp hh)
    refine ⟨?_, ?_⟩
    · rw [← fieldHanded_moment hread, heq]
      exact congrArg (fun e : Engine => { e with read := some { words := [], moment := h.moment } }) hengine
    · have hwords (a : Nat) (h0 : 0x200 ≤ a) (h1 : a < 0x210) : Memory.read h.cue a = Memory.read s.cue a :=
        read_fieldHanded hread (by unfold inPassBlock; omega) (by unfold inRing; omega)
      have hstart : s.fieldStart id = State.reading h h.moment 0 := heq
      obtain ⟨u, hu, hnone, hcurrent, hvalues⟩ := endLiveRead_liveWords (State.reading h h.moment 12) h.moment
      refine ⟨u, ?_, hnone, ?_, ?_⟩
      · rw [hstart, hu]
        exact runAll_reading h h.moment 12 rfl
      · rw [← hwords 0x20C (by omega) (by omega), ← hwords 0x200 (by omega) (by omega)]
        exact hcurrent
      · rw [← hwords 0x200 (by omega) (by omega), ← hwords 0x201 (by omega) (by omega)]
        exact hvalues

end Sys2Proof.Proofs

/-! The loss of the station reference (R29, R32, R33, R146). -/

namespace Sys2Proof.Proofs
open Sys2Proof.Machine

/-! ### The sequencer's own part -/

/-- The reference lost, with the status words rewritten and the FAULT cause set, before the LOCK record is formed. -/
def State.lossState (s : State) : State :=
  let lost := s.settle { s with sequencer := s.sequencer.lost }
  (if s.initialised then { lost with cue := Memory.writeAll lost.cue (lossCells lost.sequencer) } else lost).setCause .fault

theorem lossState_frame (s : State) :
    (State.lossState s).sequencer = s.sequencer.lost ∧ (State.lossState s).tracker = s.tracker ∧
    (State.lossState s).position = s.position ∧ (State.lossState s).engine = s.engine ∧
    (State.lossState s).requests = s.requests ∧ (State.lossState s).pass = s.pass ∧
    (State.lossState s).writer = s.writer ∧ (State.lossState s).setup = s.setup ∧
    (State.lossState s).port.run = s.port.run := by
  unfold State.lossState
  dsimp only
  split <;> simp

/-- The records of the loss: REFERENCE, and LOCK of a lock lost with the free value `absent`. -/
def lossRecords (s : State) (absent : DWord) : List Record :=
  [{ kind := .reference, frame := s.sequencer.fieldFrame, slot := none, serial := 0, detail := [1] }] ++
    if s.sequencer.locked = true then [lockReport s.sequencer.fieldFrame false 3 none none absent] else []

/-- The LOCK record of a lock lost with the reference carries a free value for the absent first-field frame (log 8). -/
theorem lockRecord_lossState (s : State) :
    (State.lossState s).lockRecord .reference none none =
      (lockReport s.sequencer.fieldFrame false 3 none none (State.lossState s).drawDWord.1,
        { State.lossState s with draws := (State.lossState s).draws + 2 }) := by
  have hsequencer : (State.lossState s).sequencer = s.sequencer.lost := (lossState_frame s).1
  have hrecord : ((State.lossState s).lockRecord .reference none none).1 =
      { kind := .lock, frame := (State.lossState s).sequencer.fieldFrame, slot := none, serial := 0
        detail := [boolWord (State.lossState s).sequencer.locked, 3, 0x00FF] ++
          bothWords (State.lossState s).drawDWord.1 ++ [0] } := rfl
  refine Prod.ext (hrecord.trans ?_) rfl
  rw [hsequencer]
  rfl

theorem loseReference_eq (s : State) :
    ∃ (absent : DWord) (n : Nat), s.loseReference = ({ State.lossState s with draws := n }, lossRecords s absent) := by
  have heq : s.loseReference =
      if s.sequencer.locked then
        (((State.lossState s).lockRecord .reference none none).2,
          [sequencerRecord (State.lossState s) .reference [1], ((State.lossState s).lockRecord .reference none none).1])
      else (State.lossState s, [sequencerRecord (State.lossState s) .reference [1]]) := rfl
  have hrecord : sequencerRecord (State.lossState s) .reference [1] =
      { kind := .reference, frame := s.sequencer.fieldFrame, slot := none, serial := 0, detail := [1] } := by
    unfold sequencerRecord
    rw [(lossState_frame s).1]
    rfl
  refine ⟨(State.lossState s).drawDWord.1, if s.sequencer.locked then (State.lossState s).draws + 2 else
    (State.lossState s).draws, ?_⟩
  rw [heq, hrecord, lockRecord_lossState]
  unfold lossRecords
  split <;> rfl

theorem lossState_cue (s : State) :
    (State.lossState s).cue =
      if s.initialised then Memory.writeAll s.cue [(0x105, 0), (0x104, 0x00FF), (0x121, 1)] else s.cue := by
  unfold State.lossState
  dsimp only
  split
  · simp; rfl
  · simp

theorem read_lossState {s : State} {a : Nat} (h4 : a ≠ 0x104) (h5 : a ≠ 0x105) (h33 : a ≠ 0x121) :
    Memory.read (State.lossState s).cue a = Memory.read s.cue a := by
  rw [lossState_cue]
  split
  · refine Memory.read_writeAll_other _ _ a fun c hc => ?_
    simp only [List.mem_cons, List.not_mem_nil, or_false] at hc
    rcases hc with rfl | rfl | rfl
    · exact h5.symm
    · exact h4.symm
    · exact h33.symm
  · rfl

/-- The status words that the loss rewrites: the lock, the phase and the reference (R29 step 7). -/
theorem read_lossState_shown {s : State} (h : s.port.run ≠ .uninitialised) :
    Memory.read (State.lossState s).cue 0x104 = 0x00FF ∧ Memory.read (State.lossState s).cue 0x105 = 0 ∧
      Memory.read (State.lossState s).cue 0x121 = 1 := by
  rw [lossState_cue, if_pos (show s.initialised = true from bne_iff_ne.mpr h)]
  have hread {a : Nat} {w : Word} (hmem : (a, w) ∈ [((0x105 : Nat), (0 : Word)), (0x104, 0x00FF), (0x121, 1)]) :
      Memory.read (Memory.writeAll s.cue [(0x105, 0), (0x104, 0x00FF), (0x121, 1)]) a = w :=
    Memory.read_writeAll_mem s.cue _ (a, w) hmem (by decide)
  exact ⟨hread (by simp), hread (by simp), hread (by simp)⟩

/-! ### The loss with the pass it faults -/

/-- The loss of the reference carried to the pass, before the records are handed. -/
theorem exec_referenceTimerExpiry {s : State} (htimer : s.sequencer.timer ≠ .stopped) (hread : s.engine.read = none) :
    exec .referenceTimerExpiry s =
      .next (((s.loseReference.1.faultPassIf s.pass.state.live .referenceLost).1).handTogether
        [s.loseReference.2, (s.loseReference.1.faultPassIf s.pass.state.live .referenceLost).2]) := by
  have hpass : s.loseReference.1.pass = s.pass := by simp
  have hexec : exec .referenceTimerExpiry s = .next s.expireReference := by
    change execReferenceTimerExpiry s = _
    unfold execReferenceTimerExpiry
    split
    · next h => exact absurd h htimer
    · rfl
  rw [hexec]
  unfold State.expireReference
  dsimp only
  rw [finishLiveRead_of_none hread, hpass]

/-- The state a loss leaves, with the pass it faults: what the records are handed from. -/
def State.lossFaulted (s : State) : State × List Record :=
  s.loseReference.1.faultPassIf s.pass.state.live .referenceLost

theorem lossFaulted_of_live {s : State} (h : s.pass.state.live = true) :
    State.lossFaulted s = s.loseReference.1.changePass (s.pass.faultedWith .referenceLost) := by
  have hpass : s.loseReference.1.pass = s.pass := by simp
  unfold State.lossFaulted State.faultPassIf State.faultPass
  rw [h, hpass]
  rfl

theorem lossFaulted_of_not_live {s : State} (h : ¬s.pass.state.live = true) :
    State.lossFaulted s = (s.loseReference.1, []) := by
  unfold State.lossFaulted State.faultPassIf
  rw [Bool.eq_false_iff.mpr h]
  rfl

theorem read_lossFaulted (s : State) {a : Nat} (h : ¬inPassBlock a) :
    Memory.read (State.lossFaulted s).1.cue a = Memory.read (State.lossState s).cue a := by
  obtain ⟨absent, n, heq⟩ := loseReference_eq s
  have hcue : s.loseReference.1.cue = (State.lossState s).cue := by rw [heq]
  by_cases hlive : s.pass.state.live = true
  · rw [lossFaulted_of_live hlive, read_changePass_other _ _ h, hcue]
  · rw [lossFaulted_of_not_live hlive, hcue]

theorem lossFaulted_records (s : State) :
    (State.lossFaulted s).2 =
      if s.pass.state = .cued ∨ s.pass.state = .recording then
        [passReport s.sequencer.fieldFrame s.pass.state (State.lossFaulted s).1.pass] else [] := by
  by_cases hlive : s.pass.state.live = true
  · have hframe : s.loseReference.1.sequencer.fieldFrame = s.sequencer.fieldFrame := by
      rw [loseReference_sequencer]; rfl
    have hpass : s.loseReference.1.pass = s.pass := by simp
    rw [if_pos (live_iff.mp hlive), lossFaulted_of_live hlive, changePass_snd, hframe, hpass, changePass_pass]
  · rw [if_neg fun h => hlive (live_iff.mpr h), lossFaulted_of_not_live hlive]

/-- The records of the loss with room: the sequencer's in their order, and the PASS record of a fault (R33, R150). -/
theorem wrote_lossFaulted {s : State} (hroom : s.hasRoom 3) :
    ∃ (rs : List Record) (absent : DWord),
      s.wrote ((State.lossFaulted s).1.handTogether [s.loseReference.2, (State.lossFaulted s).2]) rs ∧
      rs.Perm (lossRecords s absent ++
        if s.pass.state = .cued ∨ s.pass.state = .recording then
          [passReport s.sequencer.fieldFrame s.pass.state (State.lossFaulted s).1.pass] else []) ∧
      (lossRecords s absent).Sublist rs := by
  obtain ⟨absent, n, heq⟩ := loseReference_eq s
  have hrun : (State.lossFaulted s).1.port.run = .running := by
    unfold State.lossFaulted
    simpa using hroom.1
  have hwriter : (State.lossFaulted s).1.writer = s.writer := by
    unfold State.lossFaulted
    simp
  have htakes {k : ReportKind} (h₁ : k ≠ .scene) (h₂ : k ≠ .hold) := takes_of_running hrun h₁ h₂
  have hown : (lossRecords s absent).filter (fun r => (State.lossFaulted s).1.takes r.kind) = lossRecords s absent := by
    refine List.filter_eq_self.mpr fun r hr => ?_
    unfold lossRecords at hr
    rcases List.mem_append.mp hr with hr | hr
    · rw [List.mem_singleton.mp hr]
      exact htakes nofun nofun
    · split at hr
      · rw [List.mem_singleton.mp hr]
        exact htakes nofun nofun
      · exact absurd hr List.not_mem_nil
  have hpass : (State.lossFaulted s).2.filter (fun r => (State.lossFaulted s).1.takes r.kind) =
      (State.lossFaulted s).2 := by
    refine List.filter_eq_self.mpr fun r hr => ?_
    rw [lossFaulted_records] at hr
    split at hr
    · rw [List.mem_singleton.mp hr]
      exact htakes nofun nofun
    · exact absurd hr List.not_mem_nil
  have hall : ([s.loseReference.2, (State.lossFaulted s).2].flatten.filter fun r => (State.lossFaulted s).1.takes r.kind) =
      lossRecords s absent ++ (State.lossFaulted s).2 := by
    rw [heq, List.flatten_cons, List.flatten_singleton, List.filter_append, hown, hpass]
  have hlength : (lossRecords s absent ++ (State.lossFaulted s).2).length ≤ 3 := by
    rw [lossFaulted_records]
    unfold lossRecords
    split <;> split <;> simp
  obtain ⟨rs, hwrote, hperm, hsub⟩ := exists_wrote_handTogether
    (s := (State.lossFaulted s).1) (qs := [s.loseReference.2, (State.lossFaulted s).2])
    (by rw [hall]; exact hasRoom_congr (hasRoom_mono hroom hlength) (hrun.trans hroom.1.symm) hwriter)
  refine ⟨rs, absent, wrote_before hwrote hwriter fun a ha => ?_, ?_, ?_⟩
  · rw [read_lossFaulted s (not_inPassBlock_of_inRing ha)]
    unfold inRing at ha
    exact read_lossState (by omega) (by omega) (by omega)
  · rw [hall, lossFaulted_records] at hperm
    exact hperm
  · have hsub' := hsub s.loseReference.2 (by simp)
    rw [heq] at hsub'
    exact hown ▸ hsub'

theorem causeSet_lossFaulted_fault (s : State) : (State.lossFaulted s).1.causeSet .fault = true := by
  obtain ⟨absent, n, heq⟩ := loseReference_eq s
  have hlost : s.loseReference.1.causeSet .fault = true := by
    rw [heq]
    change ((State.lossState s)).causeSet .fault = true
    unfold State.lossState
    dsimp only
    rw [causeSet_setCause]
    simp
  exact causesKept_faultPassIf s.loseReference.1 _ _ .fault hlost

/-- What a loss does to the pass: a CUED or RECORDING one is faulted (R146). -/
theorem lossFaulted_pass (s : State) :
    if s.pass.state = .cued ∨ s.pass.state = .recording then
      (State.lossFaulted s).1.pass = s.pass.faultedWith .referenceLost ∧ (State.lossFaulted s).1.causeSet .pass = true
    else (State.lossFaulted s).1.pass = s.pass := by
  split
  · next h =>
    rw [lossFaulted_of_live (live_iff.mpr h)]
    refine ⟨changePass_pass _ _, ?_⟩
    rw [causeSet_changePass]
    simp [Pass.faultedWith, PassState.setsCause]
  · next h =>
    rw [lossFaulted_of_not_live fun hlive => h (live_iff.mp hlive)]
    simp

/-- Settles O25, by the timer. -/
theorem referenceExpiryLosesCadence : Obligations.ReferenceExpiryLosesCadence := by
  intro s
  refine ⟨fun htimer => ?_, fun htimer hread => ?_⟩
  · change execReferenceTimerExpiry s = _
    unfold execReferenceTimerExpiry
    rw [htimer]
  · let u := State.lossFaulted s
    let t := u.1.handTogether [s.loseReference.2, u.2]
    have hsequencer : t.sequencer = s.sequencer.lost := by
      rw [show t.sequencer = u.1.sequencer by simp [t]]
      simp [u, State.lossFaulted]
    have hkept := causesKept_handTogether u.1 [s.loseReference.2, u.2]
    have hpass := lossFaulted_pass s
    have hcue {a : Nat} (hp : ¬inPassBlock a) (hr : ¬inRing a) :
        Memory.read t.cue a = Memory.read (State.lossState s).cue a :=
      ((changesWithin_handTogether _ _).read hr).trans (read_lossFaulted s hp)
    refine ⟨t, exec_referenceTimerExpiry htimer hread, hsequencer, hkept _ (causeSet_lossFaulted_fault s), ?_, ?_, ?_,
      fun hinit => ?_, fun a hp hr h4 h5 h33 => ?_, fun hroom => ?_, ?_, ?_, ?_, ?_, ?_, ?_⟩
    · change t.sequencer.locked = false
      rw [hsequencer]; rfl
    · change t.sequencer.cadenceA = false
      rw [hsequencer]; rfl
    · have hsame : t.pass = u.1.pass := by simp [t]
      by_cases hlive : s.pass.state = .cued ∨ s.pass.state = .recording
      · rw [if_pos hlive] at hpass ⊢
        obtain ⟨hfaulted, hcause⟩ := hpass
        exact ⟨hsame.trans hfaulted, hkept _ hcause⟩
      · rw [if_neg hlive] at hpass ⊢
        exact hsame.trans hpass
    · obtain ⟨h4, h5, h33⟩ := read_lossState_shown hinit
      exact ⟨(hcue (by unfold inPassBlock; omega) (by unfold inRing; omega)).trans h4,
        (hcue (by unfold inPassBlock; omega) (by unfold inRing; omega)).trans h5,
        (hcue (by unfold inPassBlock; omega) (by unfold inRing; omega)).trans h33⟩
    · exact (hcue hp hr).trans (read_lossState h4 h5 h33)
    · obtain ⟨rs, absent, hwrote, hperm, hsub⟩ := wrote_lossFaulted hroom
      have hsame : t.pass = u.1.pass := by simp [t]
      refine ⟨rs, absent, hwrote, ?_, hsub⟩
      rw [hsame]
      exact hperm
    all_goals simp [t, u, State.lossFaulted]
    exact port_of_causes (by simp) (by simp) (by simp) (by simp) (by simp)

end Sys2Proof.Proofs

/-! The handling of an ACTIVE START that has one request to take: the request's answer, its entry finished, and what
is left alone (R99 to R103). -/

namespace Sys2Proof.Proofs
open Sys2Proof.Machine

/-! ### The handling, step by step -/

/-- An open ACTIVE START of a RUNNING part with no live read in progress and no split pending: the scan, the visits,
REQUEST NOTIFY (R99). -/
theorem exec_activeStart_of_scan {s : State} (hrun : s.port.run = .running) (hopen : s.sequencer.activeStartTaken = false)
    (hread : s.engine.read = none) (hsplit : s.requests.splitPending = none) :
    exec .activeStart s = .next (State.scan 4 s.takeActiveFlag).rippleVisits.raiseNotify := by
  have hnone : s.takeActiveFlag.executeSplit = s.takeActiveFlag := by
    unfold State.executeSplit
    rw [show s.takeActiveFlag.requests.splitPending = none from hsplit]
  rw [exec_activeStart_of_open hopen, finishLiveRead_of_none hread, State.passActiveStart, if_pos hrun,
    State.handleActiveStart, hnone]

theorem scan_of_stops {s : State} (h : s.scanStops = true) (fuel : Nat) : State.scan fuel s = s := by
  cases fuel with
  | zero => rfl
  | succ fuel => exact if_pos h

theorem scan_of_takes {s : State} (h : s.scanStops = false) (fuel : Nat) :
    State.scan (fuel + 1) s = State.scan fuel ((s.takeEntry s.requests.takeIndex).advanceTake) :=
  if_neg (Bool.eq_false_iff.mp h)

theorem scanStops_of_not_posted {s : State} (h : entryWord s.cue s.requests.takeIndex 0 ≠ 1) : s.scanStops = true := by
  unfold State.scanStops
  rw [show (entryWord s.cue s.requests.takeIndex 0 != statePosted) = true from bne_iff_ne.mpr h, Bool.true_or]

theorem scanStops_of_posted {s : State} (h : entryWord s.cue s.requests.takeIndex 0 = 1)
    (hedit : entryIsEdit s.cue s.requests.takeIndex = true → s.requests.ripple = none) : s.scanStops = false := by
  have hfirst : (entryWord s.cue s.requests.takeIndex 0 != statePosted) = false := bne_eq_false_iff_eq.mpr h
  unfold State.scanStops
  rw [hfirst, Bool.false_or]
  cases hkind : entryIsEdit s.cue s.requests.takeIndex with
  | false => rfl
  | true => rw [hedit hkind]; rfl

theorem rippleVisits_of_none {s : State} (h : s.requests.ripple = none) : s.rippleVisits = s := by
  unfold State.rippleVisits
  rw [h]

theorem raiseNotify_matrix (s : State) :
    s.raiseNotify.matrix = { s.matrix with notifyWaiting := s.matrix.notifyWaiting || s.requests.notifyDue } := by
  unfold State.raiseNotify
  cases hdue : s.requests.notifyDue with
  | true => simp
  | false => simp

theorem raiseNotify_requests (s : State) : s.raiseNotify.requests = { s.requests with notifyDue := false } := by
  unfold State.raiseNotify
  by_cases hdue : s.requests.notifyDue = true
  · rw [if_pos hdue]
  · rw [if_neg hdue, ← Bool.eq_false_iff.mpr hdue]

/-! ### A lone request -/

theorem fin32_add_one_ne (i : Fin 32) : i ≠ i + 1 := by
  intro h
  have hval : i.val = (i.val + 1) % 32 := by simpa [Fin.val_add] using congrArg Fin.val h
  have := i.isLt
  omega

/-- What a lone request leaves: its entry finished with its answer, the take index on, REQUEST NOTIFY raised where the
entry calls for it (R100, R102, R103). -/
def State.lone (i : Fin 32) (answer : State × Result) : State := (finishWith i answer).advanceTake.raiseNotify

section Lone
variable (i : Fin 32) (answer : State × Result)

@[simp] theorem State.lone_frame :
    (State.lone i answer).position = answer.1.position ∧ (State.lone i answer).sequencer = answer.1.sequencer ∧
    (State.lone i answer).tracker = answer.1.tracker ∧ (State.lone i answer).engine = answer.1.engine ∧
    (State.lone i answer).pass = answer.1.pass ∧ (State.lone i answer).writer = answer.1.writer ∧
    (State.lone i answer).setup = answer.1.setup ∧ (State.lone i answer).busData = answer.1.busData ∧
    (State.lone i answer).pixOut = answer.1.pixOut ∧ (State.lone i answer).pending = answer.1.pending ∧
    (State.lone i answer).requests.freeStack = answer.1.requests.freeStack ∧
    (State.lone i answer).requests.setupFault = answer.1.requests.setupFault ∧
    (State.lone i answer).requests.takeIndex = answer.1.requests.takeIndex + 1 := by
  simp [State.lone, State.advanceTake, finishWith]

theorem lone_cue : (State.lone i answer).cue = (answer.1.finishEntry i answer.2).cue := by
  simp [State.lone, State.advanceTake, finishWith]

theorem lone_requests :
    (State.lone i answer).requests =
      { answer.1.requests with takeIndex := answer.1.requests.takeIndex + 1, notifyDue := false } := by
  unfold State.lone
  rw [raiseNotify_requests]
  unfold State.advanceTake finishWith
  rw [finishEntry_requests]

theorem lone_matrix (hdue : answer.1.requests.notifyDue = false) :
    (State.lone i answer).matrix =
      { answer.1.matrix with
        notifyWaiting := answer.1.matrix.notifyWaiting || notifyFlag answer.1.cue i } := by
  have hflag : (finishWith i answer).advanceTake.requests.notifyDue = notifyFlag answer.1.cue i := by
    unfold State.advanceTake finishWith
    rw [finishEntry_requests, hdue, Bool.false_or]
  have hmatrix : (finishWith i answer).advanceTake.matrix = answer.1.matrix := by simp [State.advanceTake, finishWith]
  unfold State.lone
  rw [raiseNotify_matrix, hflag, hmatrix]

theorem lone_port :
    (State.lone i answer).port =
      { answer.1.port with
        causes := if notifyFlag answer.1.cue i then answer.1.port.causes ||| Cause.request.mask
          else answer.1.port.causes } := by
  have hcauses : (State.lone i answer).port.causes = (answer.1.finishEntry i answer.2).port.causes := by
    simp [State.lone, State.advanceTake, finishWith]
  rw [← finishEntry_causes answer.1 i answer.2, ← hcauses]
  exact port_of_causes (by simp [State.lone, State.advanceTake, finishWith])
    (by simp [State.lone, State.advanceTake, finishWith]) (by simp [State.lone, State.advanceTake, finishWith])
    (by simp [State.lone, State.advanceTake, finishWith]) (by simp [State.lone, State.advanceTake, finishWith])

theorem finished_lone {code : Nat} {a b : DWord} (hcode : answer.2.code.word.toNat = code) (ha : answer.2.a = a)
    (hb : answer.2.b = b) : finished (State.lone i answer).cue i code a b := by
  rw [lone_cue]
  exact finished_of_code (finished_finishEntry answer.1 i answer.2) hcode ha hb

theorem read_lone {a : Nat} (ha : ¬inEntryResults i a) :
    Memory.read (State.lone i answer).cue a = Memory.read answer.1.cue a := by
  rw [lone_cue]
  exact (changesWithin_finishEntry _ _ _).read ha

end Lone

/-! ### The take of a lone request -/

section OneRequest
variable {s : State} {i : Fin 32} {kind : Nat}

theorem requestKind_of_toNat {w : Word} {n : Nat} (h : w.toNat = n) : requestKind w = requestKind (natWord n) := by
  rw [← h, natWord_toNat]

theorem OneRequest.requestKind (h : s.OneRequest i kind) : requestKind (entryWord s.cue i 1) = requestKind (natWord kind) := by
  obtain ⟨-, -, -, -, -, -, -, -, hkind, -⟩ := h
  exact requestKind_of_toNat hkind

theorem OneRequest.notifyDue (h : s.OneRequest i kind) : s.requests.notifyDue = false := by
  obtain ⟨-, -, -, -, -, hdue, -⟩ := h
  exact hdue

theorem OneRequest.ripple (h : s.OneRequest i kind) : s.requests.ripple = none := by
  obtain ⟨-, -, -, -, hripple, -⟩ := h
  exact hripple

theorem OneRequest.takeIndex (h : s.OneRequest i kind) : s.requests.takeIndex = i := by
  obtain ⟨-, -, -, -, -, -, hindex, -⟩ := h
  exact hindex

theorem OneRequest.next (h : s.OneRequest i kind) : entryWord s.cue (i + 1) 0 ≠ 1 := by
  obtain ⟨-, -, -, -, -, -, -, -, -, hnext⟩ := h
  exact hnext

/-- The scan takes the lone entry and stops at the next one. -/
theorem exec_activeStart_of_oneRequest {u : State} (h : s.OneRequest i kind) (htake : s.takeActiveFlag.takeEntry i = u)
    (hindex : u.requests.takeIndex = i) (hnext : entryWord u.cue (i + 1) 0 = entryWord s.cue (i + 1) 0) :
    exec .activeStart s = .next u.advanceTake.rippleVisits.raiseNotify := by
  obtain ⟨hrun, hopen, hread, hsplit, hripple, -, htakeIndex, hposted, -, hnot⟩ := h
  have htakes : s.takeActiveFlag.scanStops = false := by
    refine scanStops_of_posted ?_ fun _ => hripple
    change entryWord s.cue s.requests.takeIndex 0 = 1
    rw [htakeIndex, hposted]
  have hstops : u.advanceTake.scanStops = true := by
    refine scanStops_of_not_posted ?_
    change entryWord u.cue (u.requests.takeIndex + 1) 0 ≠ 1
    rw [hindex, hnext]
    exact hnot
  have hfirst : s.takeActiveFlag.requests.takeIndex = i := htakeIndex
  rw [exec_activeStart_of_scan hrun hopen hread hsplit, scan_of_takes htakes, hfirst, htake, scan_of_stops hstops]

/-- What a request's answer leaves alone before its entry is finished: all but the tracker, the free stack, the setup
fault value and the cells of `touched`. -/
structure AnswerLeaves (s u : State) (touched : Nat → Prop) : Prop where
  position : u.position = s.position
  sequencer : u.sequencer = s.sequencer
  engine : u.engine = s.engine
  pass : u.pass = s.pass
  writer : u.writer = s.writer
  setup : u.setup = s.setup
  busData : u.busData = s.busData
  pixOut : u.pixOut = s.pixOut
  pending : u.pending = s.pending
  port : u.port = s.port
  matrix : u.matrix = s.matrix
  requests : u.requests = { s.requests with freeStack := u.requests.freeStack, setupFault := u.requests.setupFault }
  cue : ∀ a, ¬touched a → Memory.read u.cue a = Memory.read s.cue a

theorem AnswerLeaves.refl (s : State) (touched : Nat → Prop) : AnswerLeaves s s touched :=
  ⟨rfl, rfl, rfl, rfl, rfl, rfl, rfl, rfl, rfl, rfl, rfl, rfl, fun _ _ => rfl⟩

theorem not_inScenes_entryBase_add {j : Fin 32} {k : Nat} (hk : k < 64) : ¬inScenes (entryBase j + k) := by
  have := j.isLt
  unfold inScenes entryBase requestBase
  omega

theorem not_inEntryResults_flags (j : Fin 32) : ¬inEntryResults j (entryBase j + 2) := by
  rintro ⟨k, hk, heq⟩
  unfold resultWord at hk
  omega

theorem not_inEntryResults_other {j k : Fin 32} (h : j ≠ k) {n : Nat} (hn : n < 64) : ¬inEntryResults j (entryBase k + n) := by
  rintro ⟨l, hl, heq⟩
  have hl' : l < 64 := by unfold resultWord at hl; omega
  exact h ((entryBase_inj hn hl').mp heq).1.symm

/-- An answer that finishes its entry: what ACTIVE START makes of it. -/
theorem exec_activeStart_of_answer {answer : State × Result} (h : s.OneRequest i kind)
    (htake : s.takeActiveFlag.takeEntry i = finishWith i answer) (hindex : answer.1.requests.takeIndex = i)
    (hripple : answer.1.requests.ripple = none)
    (hnext : entryWord answer.1.cue (i + 1) 0 = entryWord s.cue (i + 1) 0) :
    exec .activeStart s = .next (State.lone i answer) := by
  have hkept : entryWord (finishWith i answer).cue (i + 1) 0 = entryWord s.cue (i + 1) 0 :=
    (entryWord_finishEntry_other answer.1 (fin32_add_one_ne i) answer.2 (by omega)).trans hnext
  have hnone : (finishWith i answer).advanceTake.requests.ripple = none := by
    simpa [State.advanceTake, finishWith] using hripple
  rw [exec_activeStart_of_oneRequest h htake (by simpa [finishWith] using hindex) hkept, rippleVisits_of_none hnone]
  rfl

/-- A lone request whose answer leaves the rest alone, its cells but its own entry's lying in the scene table. -/
theorem afterRequest_of_answer {answer : State × Result} {touched : Nat → Prop} (h : s.OneRequest i kind)
    (htake : s.takeActiveFlag.takeEntry i = finishWith i answer)
    (hleaves : AnswerLeaves s.takeActiveFlag answer.1 fun a => touched a ∨ inEntryResults i a)
    (htouched : ∀ a, touched a → inScenes a) :
    exec .activeStart s = .next (State.lone i answer) ∧ s.AfterRequest (State.lone i answer) i touched := by
  have hword {j : Fin 32} {k : Nat} (hk : k < 64) (hown : ¬inEntryResults i (entryBase j + k)) :
      entryWord answer.1.cue j k = entryWord s.cue j k :=
    hleaves.cue _ fun hor => hor.elim (fun ht => not_inScenes_entryBase_add hk (htouched _ ht)) hown
  have hflag : notifyFlag answer.1.cue i = notifyFlag s.cue i := by
    unfold notifyFlag
    rw [hword (by omega) (not_inEntryResults_flags i)]
  have hrequests : answer.1.requests = { s.requests with freeStack := answer.1.requests.freeStack, setupFault := answer.1.requests.setupFault } :=
    hleaves.requests
  have hindex : answer.1.requests.takeIndex = i := by rw [hrequests]; exact OneRequest.takeIndex h
  have hripple : answer.1.requests.ripple = none := by rw [hrequests]; exact OneRequest.ripple h
  have hdue : answer.1.requests.notifyDue = false := by rw [hrequests]; exact OneRequest.notifyDue h
  have hsdue := OneRequest.notifyDue h
  refine ⟨exec_activeStart_of_answer h htake hindex hripple
    (hword (by omega) (not_inEntryResults_other (fin32_add_one_ne i) (by omega))),
    ?_, ?_, ?_, ?_, ?_, ?_, ?_, ?_, ?_, ?_, ?_, ?_, fun a ha ht => ?_⟩
  · rw [(State.lone_frame i answer).2.1, hleaves.sequencer]; rfl
  · simpa using hleaves.position
  · simpa using hleaves.engine
  · simpa using hleaves.pass
  · simpa using hleaves.writer
  · simpa using hleaves.setup
  · simpa using hleaves.busData
  · simpa using hleaves.pixOut
  · simpa using hleaves.pending
  · rw [lone_port, hflag, hleaves.port]; rfl
  · rw [lone_matrix i answer hdue, hflag, hleaves.matrix]; rfl
  · rw [lone_requests, hrequests, OneRequest.takeIndex h]
    rw [← hsdue]
  · exact (read_lone i answer ha).trans (hleaves.cue a fun hor => hor.elim ht ha)

/-- A request refused with a result: its entry alone changes. -/
theorem refused_of_take {r : Result} (h : s.OneRequest i kind)
    (htake : s.takeActiveFlag.takeEntry i = s.takeActiveFlag.finishEntry i r) :
    ∃ t, exec .activeStart s = .next t ∧ finished t.cue i r.code.word.toNat r.a r.b ∧ t.tracker = s.tracker ∧
      t.requests.freeStack = s.requests.freeStack ∧ t.requests.setupFault = s.requests.setupFault ∧
      s.AfterRequest t i fun _ => False := by
  obtain ⟨hexec, hafter⟩ := afterRequest_of_answer (answer := (s.takeActiveFlag, r)) (touched := fun _ => False) h htake
    (AnswerLeaves.refl _ _) (fun _ => False.elim)
  exact ⟨_, hexec, finished_lone i _ rfl rfl rfl, by simp, by simp, by simp, hafter⟩

end OneRequest

end Sys2Proof.Proofs

/-! What each request answers, case by case, and the requests that are refused (R101 to R112, R124, R130). -/

namespace Sys2Proof.Proofs
open Sys2Proof.Machine

/-! ### The request an entry names -/

section Taken
variable {s : State} {i : Fin 32}

theorem taken_insertScene (h : s.OneRequest i 0x01) :
    s.takeActiveFlag.takeEntry i = finishWith i (s.takeActiveFlag.insertScene i) := by
  have hkind : requestKind (entryWord s.takeActiveFlag.cue i 1) = some .insertScene := OneRequest.requestKind h
  unfold State.takeEntry
  rw [hkind]

theorem taken_deleteScene (h : s.OneRequest i 0x02) :
    s.takeActiveFlag.takeEntry i = finishWith i (s.takeActiveFlag.deleteScene i) := by
  have hkind : requestKind (entryWord s.takeActiveFlag.cue i 1) = some .deleteScene := OneRequest.requestKind h
  unfold State.takeEntry
  rw [hkind]

theorem taken_moveScene (h : s.OneRequest i 0x03) :
    s.takeActiveFlag.takeEntry i = finishWith i (s.takeActiveFlag.moveScene i) := by
  have hkind : requestKind (entryWord s.takeActiveFlag.cue i 1) = some .moveScene := OneRequest.requestKind h
  unfold State.takeEntry
  rw [hkind]

theorem taken_regradeScene (h : s.OneRequest i 0x04) :
    s.takeActiveFlag.takeEntry i = finishWith i (s.takeActiveFlag.regradeScene i) := by
  have hkind : requestKind (entryWord s.takeActiveFlag.cue i 1) = some .regradeScene := OneRequest.requestKind h
  unfold State.takeEntry
  rw [hkind]

theorem taken_setDissolve (h : s.OneRequest i 0x05) :
    s.takeActiveFlag.takeEntry i = finishWith i (s.takeActiveFlag.setDissolve i) := by
  have hkind : requestKind (entryWord s.takeActiveFlag.cue i 1) = some .setDissolve := OneRequest.requestKind h
  unfold State.takeEntry
  rw [hkind]

theorem taken_storeLive (h : s.OneRequest i 0x06) :
    s.takeActiveFlag.takeEntry i = finishWith i (s.takeActiveFlag.storeLive i) := by
  have hkind : requestKind (entryWord s.takeActiveFlag.cue i 1) = some .storeLive := OneRequest.requestKind h
  unfold State.takeEntry
  rw [hkind]

theorem taken_ripple (h : s.OneRequest i 0x07) : s.takeActiveFlag.takeEntry i = s.takeActiveFlag.takeRipple i := by
  have hkind : requestKind (entryWord s.takeActiveFlag.cue i 1) = some .ripple := OneRequest.requestKind h
  unfold State.takeEntry
  rw [hkind]

theorem taken_cancelRipple (h : s.OneRequest i 0x18) :
    s.takeActiveFlag.takeEntry i = finishWith i s.takeActiveFlag.cancelRipple := by
  have hkind : requestKind (entryWord s.takeActiveFlag.cue i 1) = some .cancelRipple := OneRequest.requestKind h
  unfold State.takeEntry
  rw [hkind]

end Taken

/-! ### Operands that name a slot (R104) -/

theorem slotOfWord_eq_some {w : Word} {x : Slot} : slotOfWord w = some x ↔ w = natWord x.val := by
  refine ⟨fun h => ?_, fun h => h ▸ slotOfWord_natWord x⟩
  unfold slotOfWord at h
  split at h
  · rw [← Option.some.inj h]
    exact (natWord_toNat w).symm
  · cases h

section Slots
variable {m : Memory} {i : Fin 32} {x : Slot}

theorem listedSlot_eq_some {w : Word} (hname : w = natWord x.val) (hlisted : listed m x = true) :
    ((slotOfWord w).filter fun y => listed m y) = some x := by
  rw [slotOfWord_eq_some.mpr hname]
  exact Option.filter_some_pos hlisted

theorem listedSlot_eq_none {w : Word} (h : ∀ x : Slot, w = natWord x.val → listed m x = false) :
    ((slotOfWord w).filter fun y => listed m y) = none := by
  rw [Option.filter_eq_none_iff]
  intro x hx
  rw [h x (slotOfWord_eq_some.mp hx)]
  exact Bool.false_ne_true

theorem movableSlotA_eq_some (hname : entryWord m i 8 = natWord x.val) (hlisted : listed m x = true) (hx : x ≠ 0) :
    movableSlotA m i = some x := by
  unfold movableSlotA
  rw [show listedSlotA m i = some x from listedSlot_eq_some hname hlisted]
  exact Option.filter_some_pos (bne_iff_ne.mpr hx)

theorem movableSlotA_eq_none (h : ∀ x : Slot, x ≠ 0 → entryWord m i 8 = natWord x.val → listed m x = false) :
    movableSlotA m i = none := by
  unfold movableSlotA
  rw [Option.filter_eq_none_iff]
  intro x hx hne
  obtain ⟨hname, hlisted⟩ := Option.filter_eq_some_iff.mp hx
  rw [h x (bne_iff_ne.mp hne) (slotOfWord_eq_some.mp hname)] at hlisted
  exact Bool.false_ne_true hlisted

end Slots

theorem ListLinks.startingAt_some {m : Memory} {l : List Slot} (h : ListLinks m l) {y : Slot} {f : Int} (hy : y ∈ l)
    (hf : sceneStart m y = f) : startingAt m f = some y := by
  cases hfind : startingAt m f with
  | none => exact absurd hf (h.startingAt_none.mp hfind y hy)
  | some z =>
    unfold startingAt at hfind
    rw [h.sceneList] at hfind
    have hz : sceneStart m z = f := by simpa using List.find?_some hfind
    rw [h.start_inj (List.mem_of_find?_eq_some hfind) hy (hz.trans hf.symm)]

theorem ListLinks.startingAtOther_some {m : Memory} {l : List Slot} (h : ListLinks m l) {x y : Slot} {f : Int}
    (hy : y ∈ l) (hyx : y ≠ x) (hf : sceneStart m y = f) : startingAtOther m x f = some y := by
  cases hfind : startingAtOther m x f with
  | none => exact absurd hf (h.startingAtOther_none.mp hfind y hy hyx)
  | some z =>
    unfold startingAtOther at hfind
    rw [h.sceneList] at hfind
    obtain ⟨-, hz⟩ : z ≠ x ∧ sceneStart m z = f := by simpa using List.find?_some hfind
    rw [h.start_inj (List.mem_of_find?_eq_some hfind) hy (hz.trans hf.symm)]

/-! ### The on-air set (R71, R105) -/

section OnAir
variable {s : State} {a x : Slot} {serial : Word} {p : Int}

theorem onAirRefusal_eq (h : s.tracker.lastResolved = some (a, serial)) :
    s.onAirRefusal = { code := .onAir, a := natDWord a.val, b := 0 } := by
  unfold State.onAirRefusal State.onAirSlot
  rw [h]
  rfl

theorem onAirHolds_iff (h : s.tracker.lastResolved = some (a, serial)) :
    s.onAirHolds x = true ↔
      x = a ∨ (listed s.cue a = true ∧ ((a ≠ 0 ∧ scenePrev s.cue a = some x) ∨ sceneNext s.cue a = some x)) := by
  unfold State.onAirHolds State.onAirSlot
  rw [h]
  simp

theorem onAirInterval_iff (h : s.tracker.lastResolved = some (a, serial)) (hp : inRange p) :
    s.onAirInterval p = true ↔
      listed s.cue a = true ∧ sceneStart s.cue a < p ∧ ∀ y, sceneNext s.cue a = some y → p < sceneStart s.cue y := by
  obtain ⟨-, hhigh⟩ := hp
  unfold State.onAirInterval State.onAirSlot
  rw [h]
  cases hnext : sceneNext s.cue a with
  | none => simp [hnext, show p ≤ frameHigh from hhigh]
  | some y => simp [hnext, and_assoc]

theorem slotOnAir_of_recording (hrecording : s.pass.state = .recording) : s.slotOnAir x = s.onAirHolds x := by
  simp [State.slotOnAir, State.recording, hrecording]

theorem slotOnAir_eq_false (h : s.freeToEdit x) : s.slotOnAir x = false := by
  unfold State.slotOnAir State.recording
  by_cases hrecording : s.pass.state = .recording
  · rw [h hrecording, Bool.and_false]
  · rw [beq_eq_false_iff_ne.mpr hrecording, Bool.false_and]

theorem positionOnAir_eq_false (h : s.freeToPlace p) (hp : inRange p) : s.positionOnAir p = false := by
  unfold State.positionOnAir State.recording
  by_cases hrecording : s.pass.state = .recording
  · cases hlast : s.tracker.lastResolved with
    | none => simp [State.onAirInterval, State.onAirSlot, hlast]
    | some r =>
      obtain ⟨a, serial⟩ := r
      have hout : s.onAirInterval p = false := by
        rw [Bool.eq_false_iff, Ne, onAirInterval_iff hlast hp]
        rintro ⟨hlisted, hstart, hnext⟩
        obtain ⟨y, hy, hle⟩ := h hrecording a serial hlast hlisted hstart
        have := hnext y hy
        omega
      rw [hout, Bool.and_false]
  · rw [beq_eq_false_iff_ne.mpr hrecording, Bool.false_and]

end OnAir

/-! ### What the scene edits answer -/

section Answers
variable {s : State} {i : Fin 32} {x : Slot}

theorem insertScene_of_out (h : ¬inRange (operandPosition s.cue i)) :
    s.insertScene i = (s, refusedWith .badPosition) := by
  unfold State.insertScene
  exact if_pos (Bool.eq_false_iff.mpr fun hin => h (frameInRange_iff.mp hin))

theorem insertScene_of_start (h : inRange (operandPosition s.cue i))
    (hstart : startingAt s.cue (operandPosition s.cue i) = some x) :
    s.insertScene i = (s, { code := .duplicateStart, a := slotDWord x, b := 0 }) := by
  unfold State.insertScene
  rw [if_neg (by simp [frameInRange_iff.mpr h]), hstart]

theorem insertScene_of_onAir (h : inRange (operandPosition s.cue i))
    (hstart : startingAt s.cue (operandPosition s.cue i) = none)
    (hair : s.positionOnAir (operandPosition s.cue i) = true) : s.insertScene i = (s, s.onAirRefusal) := by
  unfold State.insertScene
  rw [if_neg (by simp [frameInRange_iff.mpr h]), hstart]
  exact if_pos hair

theorem insertScene_of_full (h : inRange (operandPosition s.cue i))
    (hstart : startingAt s.cue (operandPosition s.cue i) = none)
    (hair : s.positionOnAir (operandPosition s.cue i) = false) (hfull : s.requests.freeStack = []) :
    s.insertScene i = (s, refusedWith .listFull) := by
  unfold State.insertScene
  rw [if_neg (by simp [frameInRange_iff.mpr h]), hstart]
  dsimp only
  rw [if_neg (Bool.eq_false_iff.mp hair), hfull]

theorem deleteScene_of_none (h : movableSlotA s.cue i = none) : s.deleteScene i = (s, refusedWith .badSlot) := by
  unfold State.deleteScene
  rw [h]

theorem deleteScene_of_onAir (h : movableSlotA s.cue i = some x) (hair : s.slotOnAir x = true) :
    s.deleteScene i = (s, s.onAirRefusal) := by
  unfold State.deleteScene
  rw [h]
  exact if_pos hair

theorem moveScene_of_none (h : movableSlotA s.cue i = none) : s.moveScene i = (s, refusedWith .badSlot) := by
  unfold State.moveScene
  rw [h]

theorem moveScene_of_out (h : movableSlotA s.cue i = some x) (hout : ¬inRange (operandPosition s.cue i)) :
    s.moveScene i = (s, refusedWith .badPosition) := by
  unfold State.moveScene
  rw [h]
  exact if_pos (Bool.eq_false_iff.mpr fun hin => hout (frameInRange_iff.mp hin))

theorem moveScene_of_start {y : Slot} (h : movableSlotA s.cue i = some x) (hin : inRange (operandPosition s.cue i))
    (hstart : startingAtOther s.cue x (operandPosition s.cue i) = some y) :
    s.moveScene i = (s, { code := .duplicateStart, a := slotDWord y, b := 0 }) := by
  unfold State.moveScene
  rw [h]
  dsimp only
  rw [if_neg (by simp [frameInRange_iff.mpr hin]), hstart]

theorem moveScene_of_onAir (h : movableSlotA s.cue i = some x) (hin : inRange (operandPosition s.cue i))
    (hstart : startingAtOther s.cue x (operandPosition s.cue i) = none)
    (hair : s.slotOnAir x = true ∨ s.positionOnAir (operandPosition s.cue i) = true) :
    s.moveScene i = (s, s.onAirRefusal) := by
  unfold State.moveScene
  rw [h]
  dsimp only
  rw [if_neg (by simp [frameInRange_iff.mpr hin]), hstart]
  exact if_pos (Bool.or_eq_true_iff.mpr hair)

theorem regradeScene_of_none (h : listedSlotA s.cue i = none) : s.regradeScene i = (s, refusedWith .badSlot) := by
  unfold State.regradeScene
  rw [h]

theorem regradeScene_of_onAir (h : listedSlotA s.cue i = some x) (hair : s.slotOnAir x = true) :
    s.regradeScene i = (s, s.onAirRefusal) := by
  unfold State.regradeScene
  rw [h]
  exact if_pos hair

theorem setDissolve_of_none (h : movableSlotA s.cue i = none) : s.setDissolve i = (s, refusedWith .badSlot) := by
  unfold State.setDissolve
  rw [h]

theorem setDissolve_of_onAir (h : movableSlotA s.cue i = some x) (hair : s.slotOnAir x = true) :
    s.setDissolve i = (s, s.onAirRefusal) := by
  unfold State.setDissolve
  rw [h]
  exact if_pos hair

theorem storeLive_of_none (h : listedSlotA s.cue i = none) : s.storeLive i = (s, refusedWith .badSlot) := by
  unfold State.storeLive
  rw [h]

theorem storeLive_of_onAir (h : listedSlotA s.cue i = some x) (hair : s.slotOnAir x = true) :
    s.storeLive i = (s, s.onAirRefusal) := by
  unfold State.storeLive
  rw [h]
  exact if_pos hair

theorem takeRipple_of_none
    (h : (∀ x : Slot, entryWord s.cue i 8 = natWord x.val → listed s.cue x = false) ∨
      (∀ x : Slot, entryWord s.cue i 9 = natWord x.val → listed s.cue x = false)) :
    s.takeRipple i = s.finishEntry i (refusedWith .badSlot) := by
  unfold State.takeRipple operandSlotA operandSlotB
  rcases h with h | h
  · rw [listedSlot_eq_none h]
  · rw [listedSlot_eq_none h]
    split
    · next hb => cases hb
    · rfl

section Ripple
variable {a b : Slot} (ha : entryWord s.cue i 8 = natWord a.val) (hb : entryWord s.cue i 9 = natWord b.val)
  (hlistedA : listed s.cue a = true) (hlistedB : listed s.cue b = true)
include ha hb hlistedA hlistedB

theorem takeRipple_of_before (h : sceneStart s.cue b < sceneStart s.cue a) :
    s.takeRipple i = s.finishEntry i (refusedWith .badSlot) := by
  unfold State.takeRipple operandSlotA operandSlotB
  rw [listedSlot_eq_some ha hlistedA, listedSlot_eq_some hb hlistedB]
  exact if_pos h

theorem takeRipple_of_onAir (h : ¬sceneStart s.cue b < sceneStart s.cue a) (hair : s.runOnAir a b = true) :
    s.takeRipple i = s.finishEntry i s.onAirRefusal := by
  unfold State.takeRipple operandSlotA operandSlotB
  rw [listedSlot_eq_some ha hlistedA, listedSlot_eq_some hb hlistedB]
  dsimp only
  rw [if_neg h]
  exact if_pos hair

end Ripple

end Answers

/-! ### The run of a ripple (R72, R124) -/

/-- Every scene between two ends of the list is met following NEXT. -/
theorem ListLinks.mem_sceneRun {m : Memory} {l : List Slot} (h : ListLinks m l) {j n o fuel : Nat} (hn : n < l.length)
    (hjo : j ≤ o) (hon : o ≤ n) (hfuel : o - j < fuel) : l[o] ∈ sceneRun m l[n] fuel l[j] := by
  induction fuel generalizing j with
  | zero => omega
  | succ fuel ih =>
    unfold sceneRun
    by_cases hend : l[j] = l[n]
    · rw [if_pos hend]
      have hjn : j = n := (List.Nodup.getElem_inj_iff h.nodup).mp hend
      obtain rfl : o = j := by omega
      exact List.mem_singleton.mpr rfl
    · rw [if_neg hend]
      by_cases hj : o = j
      · subst hj
        exact List.mem_cons_self
      · rw [h.next_getElem (by omega), List.getElem?_eq_getElem (by omega)]
        exact List.mem_cons_of_mem _ (ih (by omega) (by omega))

theorem runOnAir_of_mem {s : State} {l : List Slot} (h : ListLinks s.cue l) {j n o : Nat} (hn : n < l.length)
    (hjo : j ≤ o) (hon : o ≤ n) (hrecording : s.pass.state = .recording) (hair : s.onAirHolds l[o] = true) :
    s.runOnAir l[j] l[n] = true := by
  have hlength := length_le_of_nodup h.nodup
  unfold State.runOnAir State.recording
  rw [hrecording, beq_self_eq_true, Bool.true_and]
  exact List.any_eq_true.mpr ⟨_, h.mem_sceneRun hn hjo hon (by omega), hair⟩

/-! ### The refusals -/

/-- A request refused with a code and RESULT A: its entry alone changes. -/
def State.refuses (s : State) (i : Fin 32) (code : Nat) (a : DWord) : Prop :=
  ∃ t, exec .activeStart s = .next t ∧ finished t.cue i code a 0 ∧ t.tracker = s.tracker ∧
    t.requests.freeStack = s.requests.freeStack ∧ t.requests.setupFault = s.requests.setupFault ∧
    s.AfterRequest t i fun _ => False

theorem refuses_of_answer {s : State} {i : Fin 32} {kind : Nat} {answer : State × Result} {r : Result}
    (h : s.OneRequest i kind) (htake : s.takeActiveFlag.takeEntry i = finishWith i answer)
    (hanswer : answer = (s.takeActiveFlag, r)) (hb : r.b = 0) : State.refuses s i r.code.word.toNat r.a := by
  subst hanswer
  unfold State.refuses
  rw [← hb]
  exact refused_of_take h htake

theorem requestKind_of_unknown {w : Word} {kind : Nat} (hw : w.toNat = kind)
    (h : kind = 0 ∨ (10 ≤ kind ∧ kind ≤ 15) ∨ 25 ≤ kind) : requestKind w = none := by
  unfold requestKind
  split
  all_goals first | rfl | omega

theorem takeEntry_of_unknown {s : State} {i : Fin 32} (h : requestKind (entryWord s.cue i 1) = none) :
    s.takeEntry i = s.finishEntry i (refusedWith .badKind) := by
  unfold State.takeEntry
  rw [h]

section Refusals
variable {s : State} {i : Fin 32}

theorem refuses_unknown {kind : Nat} (h : s.OneRequest i kind) (hkind : kind = 0 ∨ (10 ≤ kind ∧ kind ≤ 15) ∨ 25 ≤ kind) :
    State.refuses s i 2 0 := by
  have hnone : requestKind (entryWord s.takeActiveFlag.cue i 1) = none := by
    obtain ⟨-, -, -, -, -, -, -, -, hk, -⟩ := h
    exact requestKind_of_unknown hk hkind
  exact refused_of_take h (takeEntry_of_unknown hnone)

/-- What INSERT SCENE refuses, in the order of its checks (R106). -/
theorem refuses_insertScene (h : s.OneRequest i 0x01) (hin : inRange (operandPosition s.cue i)) {l : List Slot}
    (hl : isSceneList s.cue l) :
    (∀ y : Slot, listed s.cue y = true → sceneStart s.cue y = operandPosition s.cue i →
      State.refuses s i 5 (natDWord y.val)) ∧
    ((∀ y : Slot, listed s.cue y = true → sceneStart s.cue y ≠ operandPosition s.cue i) →
      (∀ a serial, s.pass.state = .recording → s.tracker.lastResolved = some (a, serial) →
        s.onAirInterval (operandPosition s.cue i) = true → State.refuses s i 7 (natDWord a.val)) ∧
      (s.freeToPlace (operandPosition s.cue i) → s.requests.freeStack = [] → State.refuses s i 6 0)) := by
  obtain ⟨hlinks, hstates⟩ := isSceneList_iff.mp hl
  refine ⟨fun y hy hstart => ?_, fun hnew => ?_⟩
  · exact refuses_of_answer h (taken_insertScene h)
      (insertScene_of_start (s := s.takeActiveFlag) hin (hlinks.startingAt_some (hstates.listed_iff.mp hy) hstart)) rfl
  · have hnone : startingAt s.cue (operandPosition s.cue i) = none :=
      hlinks.startingAt_none.mpr fun y hy => hnew y (hstates.listed_iff.mpr hy)
    refine ⟨fun a serial hrecording hlast hair => ?_, fun hfree hfull => ?_⟩
    · have hon : s.takeActiveFlag.positionOnAir (operandPosition s.cue i) = true := by
        change (s.pass.state == .recording && s.onAirInterval _) = true
        rw [hrecording, hair]
        rfl
      have hanswer := insertScene_of_onAir (s := s.takeActiveFlag) hin hnone hon
      rw [onAirRefusal_eq (s := s.takeActiveFlag) hlast] at hanswer
      exact refuses_of_answer h (taken_insertScene h) hanswer rfl
    · exact refuses_of_answer h (taken_insertScene h)
        (insertScene_of_full (s := s.takeActiveFlag) hin hnone (positionOnAir_eq_false hfree hin) hfull) rfl

/-- What MOVE SCENE refuses of a listed scene other than the base scene, in the order of its checks (R108). -/
theorem refuses_moveScene {x : Slot} (h : s.OneRequest i 0x03) {l : List Slot} (hl : isSceneList s.cue l)
    (hx : movableSlotA s.cue i = some x) :
    (¬inRange (operandPosition s.cue i) → State.refuses s i 4 0) ∧
    (inRange (operandPosition s.cue i) →
      (∀ y : Slot, listed s.cue y = true → y ≠ x → sceneStart s.cue y = operandPosition s.cue i →
        State.refuses s i 5 (natDWord y.val)) ∧
      ((∀ y : Slot, listed s.cue y = true → y ≠ x → sceneStart s.cue y ≠ operandPosition s.cue i) →
        ∀ a serial, s.pass.state = .recording → s.tracker.lastResolved = some (a, serial) →
          s.onAirHolds x = true ∨ s.onAirInterval (operandPosition s.cue i) = true →
          State.refuses s i 7 (natDWord a.val))) := by
  obtain ⟨hlinks, hstates⟩ := isSceneList_iff.mp hl
  refine ⟨fun hout => ?_, fun hin => ⟨fun y hy hyx hstart => ?_, fun hnew a serial hrecording hlast hair => ?_⟩⟩
  · exact refuses_of_answer h (taken_moveScene h) (moveScene_of_out (s := s.takeActiveFlag) hx hout) rfl
  · exact refuses_of_answer h (taken_moveScene h)
      (moveScene_of_start (s := s.takeActiveFlag) hx hin
        (hlinks.startingAtOther_some (hstates.listed_iff.mp hy) hyx hstart)) rfl
  · have hnone : startingAtOther s.cue x (operandPosition s.cue i) = none :=
      hlinks.startingAtOther_none.mpr fun y hy => hnew y (hstates.listed_iff.mpr hy)
    have hon : s.takeActiveFlag.slotOnAir x = true ∨ s.takeActiveFlag.positionOnAir (operandPosition s.cue i) = true := by
      change (s.pass.state == .recording && s.onAirHolds x) = true ∨
        (s.pass.state == .recording && s.onAirInterval _) = true
      rw [hrecording]
      exact hair
    have hanswer := moveScene_of_onAir (s := s.takeActiveFlag) hx hin hnone hon
    rw [onAirRefusal_eq (s := s.takeActiveFlag) hlast] at hanswer
    exact refuses_of_answer h (taken_moveScene h) hanswer rfl

/-- An edit of a slot that it may not name is BAD_SLOT (R107 to R111). -/
theorem refuses_badSlot_of_movable {kind : Nat} (h : s.OneRequest i kind) (hkind : kind = 0x02 ∨ kind = 0x03 ∨ kind = 0x05)
    (hnone : movableSlotA s.cue i = none) : State.refuses s i 3 0 := by
  rcases hkind with rfl | rfl | rfl
  · exact refuses_of_answer h (taken_deleteScene h) (deleteScene_of_none (s := s.takeActiveFlag) hnone) rfl
  · exact refuses_of_answer h (taken_moveScene h) (moveScene_of_none (s := s.takeActiveFlag) hnone) rfl
  · exact refuses_of_answer h (taken_setDissolve h) (setDissolve_of_none (s := s.takeActiveFlag) hnone) rfl

theorem refuses_badSlot_of_listed {kind : Nat} (h : s.OneRequest i kind) (hkind : kind = 0x04 ∨ kind = 0x06)
    (hnone : listedSlotA s.cue i = none) : State.refuses s i 3 0 := by
  rcases hkind with rfl | rfl
  · exact refuses_of_answer h (taken_regradeScene h) (regradeScene_of_none (s := s.takeActiveFlag) hnone) rfl
  · exact refuses_of_answer h (taken_storeLive h) (storeLive_of_none (s := s.takeActiveFlag) hnone) rfl

/-- An edit of a slot of the on-air set while RECORDING is ON_AIR with the on-air slot (R105). -/
theorem refuses_onAir {kind : Nat} {x a : Slot} {serial : Word} (h : s.OneRequest i kind)
    (hkind : kind = 0x02 ∨ kind = 0x04 ∨ kind = 0x05 ∨ kind = 0x06) (hname : entryWord s.cue i 8 = natWord x.val)
    (hbase : x ≠ 0 ∨ kind = 0x04 ∨ kind = 0x06) (hlisted : listed s.cue x = true) (hrecording : s.pass.state = .recording)
    (hlast : s.tracker.lastResolved = some (a, serial)) (hair : s.onAirHolds x = true) :
    State.refuses s i 7 (natDWord a.val) := by
  have hslot : listedSlotA s.cue i = some x := listedSlot_eq_some hname hlisted
  have hmovable (hx : x ≠ 0) : movableSlotA s.cue i = some x := movableSlotA_eq_some hname hlisted hx
  have hon : s.takeActiveFlag.slotOnAir x = true := (slotOnAir_of_recording hrecording).trans hair
  have hrefusal := onAirRefusal_eq (s := s.takeActiveFlag) hlast
  rcases hkind with rfl | rfl | rfl | rfl
  · have hanswer := deleteScene_of_onAir (s := s.takeActiveFlag) (hmovable (by simpa using hbase)) hon
    exact refuses_of_answer h (taken_deleteScene h) (hrefusal ▸ hanswer) rfl
  · have hanswer := regradeScene_of_onAir (s := s.takeActiveFlag) hslot hon
    exact refuses_of_answer h (taken_regradeScene h) (hrefusal ▸ hanswer) rfl
  · have hanswer := setDissolve_of_onAir (s := s.takeActiveFlag) (hmovable (by simpa using hbase)) hon
    exact refuses_of_answer h (taken_setDissolve h) (hrefusal ▸ hanswer) rfl
  · have hanswer := storeLive_of_onAir (s := s.takeActiveFlag) hslot hon
    exact refuses_of_answer h (taken_storeLive h) (hrefusal ▸ hanswer) rfl

/-- What RIPPLE refuses of a run between two scenes of the list (R124). -/
theorem refuses_ripple {l : List Slot} {j n : Nat} (hj : j < l.length) (hn : n < l.length) (h : s.OneRequest i 0x07)
    (hl : isSceneList s.cue l) (ha : entryWord s.cue i 8 = natWord l[j].val) (hb : entryWord s.cue i 9 = natWord l[n].val) :
    (n < j → State.refuses s i 3 0) ∧
    (j ≤ n → ∀ (a : Slot) (serial : Word) (o : Nat) (ho : o < l.length), j ≤ o → o ≤ n → s.pass.state = .recording →
      s.tracker.lastResolved = some (a, serial) → s.onAirHolds l[o] = true → State.refuses s i 7 (natDWord a.val)) := by
  obtain ⟨hlinks, hstates⟩ := isSceneList_iff.mp hl
  have hlistedA := hstates.listed_iff.mpr (List.getElem_mem hj)
  have hlistedB := hstates.listed_iff.mpr (List.getElem_mem hn)
  refine ⟨fun hlt => ?_, fun hle a serial o ho hjo hon hrecording hlast hair => ?_⟩
  · exact refused_of_take h ((taken_ripple h).trans
      (takeRipple_of_before (s := s.takeActiveFlag) ha hb hlistedA hlistedB (hlinks.start_lt hn hj hlt)))
  · have hstart : ¬sceneStart s.cue l[n] < sceneStart s.cue l[j] := by
      rcases Nat.lt_or_eq_of_le hle with hlt | heq
      · exact not_lt.mpr (hlinks.start_lt hj hn hlt).le
      · subst heq
        exact lt_irrefl _
    have hrun : s.takeActiveFlag.runOnAir l[j] l[n] = true :=
      runOnAir_of_mem (s := s.takeActiveFlag) hlinks hn hjo hon hrecording hair
    have htake := takeRipple_of_onAir (s := s.takeActiveFlag) ha hb hlistedA hlistedB hstart hrun
    rw [onAirRefusal_eq (s := s.takeActiveFlag) hlast] at htake
    exact refused_of_take h ((taken_ripple h).trans htake)

theorem refuses_cancelRipple (h : s.OneRequest i 0x18) : State.refuses s i 8 0 := by
  have hanswer : s.takeActiveFlag.cancelRipple = (s.takeActiveFlag, refusedWith .notNow) := by
    unfold State.cancelRipple
    rw [show s.takeActiveFlag.requests.ripple = none from OneRequest.ripple (s := s) h]
  exact refuses_of_answer h (taken_cancelRipple h) hanswer rfl

end Refusals

/-- Settles O40, check by check in the order of the requests. -/
theorem requestsAreRefusedInOrder : Obligations.RequestsAreRefusedInOrder := by
  intro s i kind h refused p onAirSlot inSet inInterval
  refine ⟨refuses_unknown h, ?_, ?_, fun hkind hnone => refuses_badSlot_of_movable h hkind (movableSlotA_eq_none hnone),
    fun hkind hnone => refuses_badSlot_of_listed h hkind (listedSlot_eq_none hnone), ?_, ?_, ?_, ?_⟩
  · rintro rfl hout
    exact refuses_of_answer h (taken_insertScene h) (insertScene_of_out (s := s.takeActiveFlag) hout) rfl
  · rintro l rfl hin hl
    obtain ⟨hstart, hnew⟩ := refuses_insertScene h hin hl
    refine ⟨hstart, fun hother => ⟨?_, (hnew hother).2⟩⟩
    rintro a ⟨hrecording, serial, hlast⟩ hinterval
    exact (hnew hother).1 a serial hrecording hlast ((onAirInterval_iff hlast hin).mpr hinterval)
  · rintro x a hkind hname hbase hlisted ⟨hrecording, serial, hlast⟩ hset
    exact refuses_onAir h hkind hname hbase hlisted hrecording hlast ((onAirHolds_iff hlast).mpr hset)
  · rintro x l rfl hl hname hx hlisted
    obtain ⟨hout, hin⟩ := refuses_moveScene h hl (movableSlotA_eq_some hname hlisted hx)
    refine ⟨hout, fun hrange => ⟨(hin hrange).1, ?_⟩⟩
    rintro hnew a ⟨hrecording, serial, hlast⟩ hair
    exact (hin hrange).2 hnew a serial hrecording hlast
      (hair.imp (onAirHolds_iff hlast).mpr (onAirInterval_iff hlast hrange).mpr)
  · rintro rfl
    refine ⟨fun hnone => refused_of_take h ((taken_ripple h).trans (takeRipple_of_none (s := s.takeActiveFlag) hnone)), ?_⟩
    intro l m n hm hn hl ha hb
    obtain ⟨hbefore, hrun⟩ := refuses_ripple hm hn h hl ha hb
    refine ⟨hbefore, ?_⟩
    rintro hle a x o hmo hon hx ⟨hrecording, serial, hlast⟩ hset
    obtain ⟨ho, rfl⟩ := List.getElem?_eq_some_iff.mp hx
    exact hrun hle a serial o ho hmo hon hrecording hlast ((onAirHolds_iff hlast).mpr hset)
  · rintro rfl
    exact refuses_cancelRipple h

end Sys2Proof.Proofs

/-! The immediate requests and APPLY SET-UP (R113, R115 to R118). -/

namespace Sys2Proof.Proofs
open Sys2Proof.Machine

section Immediate
variable {s : State} {i : Fin 32}

theorem taken_clearList (h : s.OneRequest i 0x08) :
    s.takeActiveFlag.takeEntry i = finishWith i s.takeActiveFlag.clearList := by
  have hkind : requestKind (entryWord s.takeActiveFlag.cue i 1) = some .clearList := OneRequest.requestKind h
  unfold State.takeEntry
  rw [hkind]

theorem taken_applySetup (h : s.OneRequest i 0x09) :
    s.takeActiveFlag.takeEntry i = finishWith i s.takeActiveFlag.applySetup := by
  have hkind : requestKind (entryWord s.takeActiveFlag.cue i 1) = some .applySetup := OneRequest.requestKind h
  unfold State.takeEntry
  rw [hkind]

theorem taken_locate (h : s.OneRequest i 0x10) :
    s.takeActiveFlag.takeEntry i = finishWith i (s.takeActiveFlag.locate i) := by
  have hkind : requestKind (entryWord s.takeActiveFlag.cue i 1) = some .locate := OneRequest.requestKind h
  unfold State.takeEntry
  rw [hkind]

theorem taken_pulseChannel (h : s.OneRequest i 0x11) :
    s.takeActiveFlag.takeEntry i = finishWith i (s.takeActiveFlag.pulseChannel i) := by
  have hkind : requestKind (entryWord s.takeActiveFlag.cue i 1) = some .pulseChannel := OneRequest.requestKind h
  unfold State.takeEntry
  rw [hkind]

theorem taken_cadenceAlign (h : s.OneRequest i 0x16) :
    s.takeActiveFlag.takeEntry i = finishWith i s.takeActiveFlag.cadenceAlign := by
  have hkind : requestKind (entryWord s.takeActiveFlag.cue i 1) = some .cadenceAlign := OneRequest.requestKind h
  unfold State.takeEntry
  rw [hkind]

theorem taken_probe (h : s.OneRequest i 0x17) :
    s.takeActiveFlag.takeEntry i = finishWith i (s.takeActiveFlag.probe i) := by
  have hkind : requestKind (entryWord s.takeActiveFlag.cue i 1) = some .probe := OneRequest.requestKind h
  unfold State.takeEntry
  rw [hkind]

/-- A request whose answer leaves the request processor and cue memory: what ACTIVE START makes of it. -/
theorem exec_activeStart_of_elsewhere {kind : Nat} {answer : State × Result} (h : s.OneRequest i kind)
    (htake : s.takeActiveFlag.takeEntry i = finishWith i answer) (hrequests : answer.1.requests = s.requests)
    (hcue : answer.1.cue = s.cue) :
    exec .activeStart s = .next (State.lone i answer) ∧
      ∀ a, ¬inEntryResults i a → Memory.read (State.lone i answer).cue a = Memory.read s.cue a := by
  refine ⟨exec_activeStart_of_answer h htake ?_ ?_ ?_, fun a ha => ?_⟩
  · rw [hrequests]; exact OneRequest.takeIndex h
  · rw [hrequests]; exact OneRequest.ripple h
  · rw [hcue]
  · rw [read_lone i answer ha, hcue]

theorem locate_of_listed {x : Slot} (h : listedSlotA s.cue i = some x) :
    s.locate i = (s.setCurrent x, { code := .ok, a := slotDWord x, b := 0 }) := by
  unfold State.locate
  rw [h]

theorem locate_of_none (h : listedSlotA s.cue i = none) : s.locate i = (s, refusedWith .badSlot) := by
  unfold State.locate
  rw [h]

/-- LOCATE of a listed hint and of any other (R116). -/
theorem exec_locate (h : s.OneRequest i 0x10) :
    ∃ t, exec .activeStart s = .next t ∧
      (∀ x, listedSlotA s.cue i = some x →
        finished t.cue i 0 (natDWord x.val) 0 ∧ t.tracker = { s.tracker with current := x }) ∧
      (listedSlotA s.cue i = none → finished t.cue i 3 0 0 ∧ t.tracker = s.tracker) ∧
      t.requests.freeStack = s.requests.freeStack ∧ s.AfterRequest t i fun _ => False := by
  cases hslot : listedSlotA s.cue i with
  | none =>
    obtain ⟨t, hexec, hdone, htracker, hstack, -, hafter⟩ :=
      refuses_of_answer h (taken_locate h) (locate_of_none (s := s.takeActiveFlag) hslot) rfl
    exact ⟨t, hexec, nofun, fun _ => ⟨hdone, htracker⟩, hstack, hafter⟩
  | some x =>
    have htake := taken_locate h
    rw [locate_of_listed (s := s.takeActiveFlag) hslot] at htake
    obtain ⟨hexec, hafter⟩ := afterRequest_of_answer (touched := fun _ => False) h htake
      ⟨rfl, rfl, rfl, rfl, rfl, rfl, rfl, rfl, rfl, rfl, rfl, rfl, fun _ _ => rfl⟩ (fun _ => False.elim)
    refine ⟨_, hexec, ?_, nofun, by simp [State.setCurrent], hafter⟩
    rintro y ⟨⟩
    exact ⟨finished_lone i _ rfl rfl rfl, by simp [State.setCurrent]⟩

theorem pulsed_eq (v : Inversion) : v.pulsed = if v = .none then .pending else v := by cases v <;> rfl

/-- PULSE CHANNEL makes an inversion pending on each channel of the mask that has none (R117, R160). -/
theorem pulseChannels_inversion (s : State) (m : Memory) (i : Fin 32) (c : Fin 8) :
    (s.pulseChannels (operandChannels m i)).matrix.inversion[c] =
      if (entryWord m i 33).getLsbD c.val = true ∧ s.matrix.inversion[c] = .none then .pending
      else s.matrix.inversion[c] := by
  simp only [State.pulseChannels, operandChannels, Fin.getElem_fin, Vector.getElem_ofFn, pulsed_eq]
  by_cases hflag : (entryWord m i 33).getLsbD c.val = true
  · simp [hflag]
  · simp [hflag]

/-- Settles O46, request by request. -/
theorem immediateRequestsReachTheirBlocks : Obligations.ImmediateRequestsReachTheirBlocks := by
  intro s i
  refine ⟨fun h => ?_, fun h => ?_, fun h => ?_⟩
  · obtain ⟨t, hexec, hsome, hnone, hstack, hafter⟩ := exec_locate h
    exact ⟨t, hexec, fun x hname hlisted => hsome x (listedSlot_eq_some hname hlisted),
      fun hall => hnone (listedSlot_eq_none hall), hstack, hafter⟩
  · obtain ⟨hexec, hcue⟩ := exec_activeStart_of_elsewhere h (taken_cadenceAlign h) rfl rfl
    exact ⟨_, hexec, finished_lone i _ rfl rfl rfl, by simp [State.cadenceAlign], by simp [State.cadenceAlign],
      by simp [State.cadenceAlign], by simp [State.cadenceAlign], by simp [State.cadenceAlign],
      by simp [State.cadenceAlign], hcue⟩
  · obtain ⟨hexec, hcue⟩ := exec_activeStart_of_elsewhere h (taken_pulseChannel h) rfl rfl
    refine ⟨_, hexec, finished_lone i _ rfl rfl rfl, fun c => ?_, by simp [State.pulseChannel],
      by simp [State.pulseChannel], by simp [State.pulseChannel], by simp [State.pulseChannel],
      by simp [State.pulseChannel], hcue⟩
    rw [lone_matrix i _ (OneRequest.notifyDue (s := s) h)]
    exact pulseChannels_inversion s.takeActiveFlag s.cue i c

/-! ### PROBE (R91, R118) -/

/-- The words of an entry from word 8 on stand when it is finished. -/
theorem entryWord_finishEntry_operand (s : State) (i : Fin 32) (r : Result) {k : Nat} (hk : 8 ≤ k) :
    entryWord (s.finishEntry i r).cue i k = entryWord s.cue i k := by
  rw [finishEntry_cue]
  refine Memory.read_writeAll_other _ _ _ fun c hc => ?_
  simp only [finishCells, pairCells, List.cons_append, List.nil_append, List.mem_cons, List.not_mem_nil, or_false] at hc
  rcases hc with rfl | rfl | rfl | rfl | rfl | rfl <;> dsimp only <;> omega

theorem probeInputs_getElem (m : Memory) (i : Fin 32) (k : Fin 3) :
    (probeInputs (operandProbe m i))[k] = max 0 (min 1023 (entryWord m i (29 + k.val)).toInt) := by
  simp [probeInputs, operandProbe, clampInt]

theorem probeInputs_eq_iff (m : Memory) (i : Fin 32) :
    probeInputs (operandProbe m i) = operandProbe m i ↔
      ∀ k, k < 3 → 0 ≤ (entryWord m i (29 + k)).toInt ∧ (entryWord m i (29 + k)).toInt ≤ 1023 := by
  have hword (k : Nat) (hk : k < 3) : (operandProbe m i)[k] = (entryWord m i (29 + k)).toInt := by simp [operandProbe]
  have hinput (k : Nat) (hk : k < 3) :
      (probeInputs (operandProbe m i))[k] = max 0 (min 1023 (entryWord m i (29 + k)).toInt) :=
    probeInputs_getElem m i ⟨k, hk⟩
  constructor
  · intro heq k hk
    have hsame := hinput k hk
    simp only [heq, hword k hk] at hsame
    omega
  · intro hwithin
    refine Vector.ext fun k hk => ?_
    rw [hinput k hk, hword k hk]
    obtain ⟨hlow, hhigh⟩ := hwithin k hk
    omega

/-- What a probe with a set of ten parameters leaves in its entry: the codes of the pixel transform of its inputs,
clamped, and OK or OK_CLAMPED as the inputs are (R91, R118). -/
def State.probed (s t : State) (i : Fin 32) (g : Grade) : Prop :=
  let input (k : Nat) : Int := max 0 (min 1023 (entryWord s.cue i (29 + k)).toInt)
  let within : Prop :=
    ∀ k, k < 3 → 0 ≤ (entryWord s.cue i (29 + k)).toInt ∧ (entryWord s.cue i (29 + k)).toInt ≤ 1023
  let out := transform g s.setup (input 0) (input 1) (input 2)
  entryWord t.cue i 36 = signedWord out.red ∧ entryWord t.cue i 37 = signedWord out.green ∧
    entryWord t.cue i 38 = signedWord out.blue ∧ entryWord t.cue i 39 = signedWord out.luma ∧
    (within → finished t.cue i 0 0 0) ∧ (¬within → finished t.cue i 1 0 0)

theorem inEntryResults_of_inProbeOutput {a : Nat} (h : inProbeOutput i a) : inEntryResults i a := by
  unfold inProbeOutput at h
  exact ⟨a - entryBase i, by unfold resultWord; omega, by omega⟩

theorem exec_probeWith (h : s.OneRequest i 0x17) {g : Grade}
    (hprobe : s.takeActiveFlag.probe i = s.takeActiveFlag.probeWith i g) :
    ∃ t, exec .activeStart s = .next t ∧ State.probed s t i g ∧ t.tracker = s.tracker ∧
      t.requests.freeStack = s.requests.freeStack ∧ s.AfterRequest t i fun _ => False := by
  have htake := taken_probe h
  rw [hprobe] at htake
  obtain ⟨hexec, hafter⟩ := afterRequest_of_answer (touched := fun _ => False) h htake
    ⟨rfl, rfl, rfl, rfl, rfl, rfl, rfl, rfl, rfl, rfl, rfl, rfl, fun a ha =>
      (changesWithin_probeWith s.takeActiveFlag i g).read fun hin => ha (.inr (inEntryResults_of_inProbeOutput hin))⟩
    (fun _ => False.elim)
  let v := probeInputs (operandProbe s.cue i)
  let out := transform g s.setup v[0] v[1] v[2]
  let words := [signedWord out.red, signedWord out.green, signedWord out.blue, signedWord out.luma]
  let answer := s.takeActiveFlag.probeWith i g
  have hcue : answer.1.cue = Memory.writeAll s.cue (cellsFrom (entryBase i + 36) words) := rfl
  have hword (k : Nat) (hk : k < 4) : entryWord (State.lone i answer).cue i (36 + k) = words[k] := by
    rw [lone_cue, entryWord_finishEntry_operand _ _ _ (by omega), hcue, entryWord, ← Nat.add_assoc]
    exact Memory.read_writeAll_cellsFrom s.cue (entryBase i + 36) k words hk
  have hout : out = transform g s.setup (max 0 (min 1023 (entryWord s.cue i 29).toInt))
      (max 0 (min 1023 (entryWord s.cue i 30).toInt)) (max 0 (min 1023 (entryWord s.cue i 31).toInt)) := by
    have h0 : v[0] = max 0 (min 1023 (entryWord s.cue i 29).toInt) := probeInputs_getElem s.cue i 0
    have h1 : v[1] = max 0 (min 1023 (entryWord s.cue i 30).toInt) := probeInputs_getElem s.cue i 1
    have h2 : v[2] = max 0 (min 1023 (entryWord s.cue i 31).toInt) := probeInputs_getElem s.cue i 2
    rw [← h0, ← h1, ← h2]
  have hcode : answer.2 = { code := okOr (decide (v ≠ operandProbe s.cue i)), a := 0, b := 0 } := rfl
  refine ⟨_, hexec, ?_, by simp [State.probeWith], by simp [State.probeWith], hafter⟩
  unfold State.probed
  dsimp only
  rw [← hout]
  refine ⟨hword 0 (by omega), hword 1 (by omega), hword 2 (by omega), hword 3 (by omega), fun hwithin => ?_,
    fun hwithin => ?_⟩
  · refine finished_lone i answer ?_ (by rw [hcode]) (by rw [hcode])
    rw [hcode, show decide (v ≠ operandProbe s.cue i) = false from
      decide_eq_false fun hne => hne ((probeInputs_eq_iff s.cue i).mpr hwithin)]
    rfl
  · refine finished_lone i answer ?_ (by rw [hcode]) (by rw [hcode])
    rw [hcode, show decide (v ≠ operandProbe s.cue i) = true from
      decide_eq_true fun heq => hwithin ((probeInputs_eq_iff s.cue i).mp heq)]
    rfl

/-- Settles O47, by the source the probe names. -/
theorem probeWritesTransformedPixel : Obligations.ProbeWritesTransformedPixel := by
  intro s i h
  have hrefuse {r : Result} (hprobe : s.takeActiveFlag.probe i = (s.takeActiveFlag, r)) (hb : r.b = 0) :=
    refuses_of_answer h (taken_probe h) hprobe hb
  by_cases hset : entryWord s.cue i 32 = 0
  · obtain ⟨t, hexec, hprobed, hrest⟩ := exec_probeWith (g := s.engine.coefficients) h (if_pos hset)
    exact ⟨t, hexec, ⟨fun _ => hprobed, fun hone => by rw [hset] at hone; exact absurd hone (by decide),
      fun hne => absurd hset hne⟩, hrest⟩
  · by_cases hslot : entryWord s.cue i 32 = 1
    · have hprobe : s.takeActiveFlag.probe i = match listedSlotA s.cue i with
          | none => (s.takeActiveFlag, refusedWith .badSlot)
          | some x => s.takeActiveFlag.probeWith i (sceneGrade s.cue x) :=
        (if_neg hset).trans (if_pos hslot)
      cases hx : listedSlotA s.cue i with
      | none =>
        rw [hx] at hprobe
        obtain ⟨t, hexec, hdone, htracker, hstack, -, hafter⟩ := hrefuse hprobe rfl
        refine ⟨t, hexec, ⟨fun hzero => absurd hzero hset, fun _ => ⟨fun x hname hlisted => ?_, fun _ => hdone⟩,
          fun _ hne => absurd hslot hne⟩, htracker, hstack, hafter⟩
        have hsome : listedSlotA s.cue i = some x := listedSlot_eq_some hname hlisted
        rw [hx] at hsome
        cases hsome
      | some y =>
        rw [hx] at hprobe
        obtain ⟨t, hexec, hprobed, hrest⟩ := exec_probeWith h hprobe
        refine ⟨t, hexec, ⟨fun hzero => absurd hzero hset, fun _ => ⟨fun x hname hlisted => ?_, fun hall => ?_⟩,
          fun _ hne => absurd hslot hne⟩, hrest⟩
        · have hsome : listedSlotA s.cue i = some x := listedSlot_eq_some hname hlisted
          rw [hx] at hsome
          cases hsome
          exact hprobed
        · have hnone : listedSlotA s.cue i = none := listedSlot_eq_none hall
          rw [hx] at hnone
          cases hnone
    · obtain ⟨t, hexec, hdone, htracker, hstack, -, hafter⟩ :=
        hrefuse (r := refusedWith .badKind) ((if_neg hset).trans (if_neg hslot)) rfl
      exact ⟨t, hexec, ⟨fun hzero => absurd hzero hset, fun hone => absurd hone hslot, fun _ _ => hdone⟩,
        htracker, hstack, hafter⟩

/-! ### APPLY SET-UP (R113, R115) -/

theorem underWay_iff {p : PassState} : p.underWay = true ↔ p = .cued ∨ p = .recording ∨ p = .paused := by
  cases p <;> simp [PassState.underWay]

theorem not_underWay_iff {p : PassState} : ¬p.underWay = true ↔ p = .idle ∨ p = .complete ∨ p = .faulted := by
  cases p <;> simp [PassState.underWay]

theorem applySetup_of_underWay (h : s.pass.state.underWay = true) : s.applySetup = (s, refusedWith .notNow) := if_pos h

theorem applySetup_of_invalid {o : Nat} (h : ¬s.pass.state.underWay = true) (ho : setupFirstInvalid s.cue = some o) :
    s.applySetup = (s.setSetupFault (some o), { code := .setupInvalid, a := natDWord o, b := 0 }) := by
  unfold State.applySetup
  rw [if_neg h, ho]

theorem applySetup_of_valid (h : ¬s.pass.state.underWay = true) (hvalid : setupFirstInvalid s.cue = none) :
    s.applySetup =
      ((s.takeSetup (readSetup s.cue)).setSetupFault none, { code := .ok, a := 0xFFFF, b := 0 }) := by
  unfold State.applySetup
  rw [if_neg h, hvalid]

/-- A block that fails is refused with its first offending offset (R114). -/
theorem exec_applySetup_of_invalid {o : Nat} (h : s.OneRequest i 0x09) (hpass : ¬s.pass.state.underWay = true)
    (ho : setupFirstInvalid s.cue = some o) :
    ∃ t, exec .activeStart s = .next t ∧ finished t.cue i 10 (natDWord o) 0 ∧ t.requests.setupFault = some o ∧
      t.tracker = s.tracker ∧ t.requests.freeStack = s.requests.freeStack ∧ s.AfterRequest t i fun _ => False := by
  have htake := taken_applySetup h
  rw [applySetup_of_invalid (s := s.takeActiveFlag) hpass ho] at htake
  obtain ⟨hexec, hafter⟩ := afterRequest_of_answer (touched := fun _ => False) h htake
    ⟨rfl, rfl, rfl, rfl, rfl, rfl, rfl, rfl, rfl, rfl, rfl, rfl, fun _ _ => rfl⟩ (fun _ => False.elim)
  exact ⟨_, hexec, finished_lone i _ rfl rfl rfl, by simp [State.setSetupFault], by simp, by simp, hafter⟩

/-- What a valid block leaves (R8, R115): the state of its request. -/
def State.setupTaken (s : State) (i : Fin 32) : State :=
  State.lone i ((s.takeActiveFlag.takeSetup (readSetup s.cue)).setSetupFault none, { code := .ok, a := 0xFFFF, b := 0 })

theorem exec_applySetup_of_valid (h : s.OneRequest i 0x09) (hpass : ¬s.pass.state.underWay = true)
    (hvalid : validSetupBlock s.cue) :
    exec .activeStart s = .next (State.setupTaken s i) ∧ (State.setupTaken s i).setup = readSetup s.cue ∧
      (State.setupTaken s i).position = s.position.takeSetup (readSetup s.cue).gauge ∧
      s.takesSelections (State.setupTaken s i) ∧
      (State.setupTaken s i).matrix.notifyWaiting = (s.matrix.notifyWaiting || notifyFlag s.cue i) := by
  have htake := taken_applySetup h
  rw [applySetup_of_valid (s := s.takeActiveFlag) hpass (setupFirstInvalid_eq_none_iff.mpr hvalid)] at htake
  have hmatrix : (State.setupTaken s i).matrix = _ :=
    lone_matrix i ((s.takeActiveFlag.takeSetup (readSetup s.cue)).setSetupFault none, { code := .ok, a := 0xFFFF, b := 0 })
      (by simpa [State.setSetupFault] using OneRequest.notifyDue (s := s) h)
  have hsetup : (State.setupTaken s i).setup = readSetup s.cue := by
    simp [State.setupTaken, State.takeSetup, State.takeSelections]
  have hselections : (State.setupTaken s i).matrix =
      { (s.takeSelections (readSetup s.cue)).matrix with
        notifyWaiting := s.matrix.notifyWaiting || notifyFlag s.cue i } := by
    rw [hmatrix]
    rfl
  refine ⟨exec_activeStart_of_answer h htake ?_ ?_ ?_, hsetup, ?_, ?_, ?_⟩
  · simpa using OneRequest.takeIndex (s := s) h
  · simpa using OneRequest.ripple (s := s) h
  · simp
  · simp [State.setupTaken, State.takeSetup]
  · refine takesSelections_of_takeSelections hselections hsetup fun g => ?_
    refine generatorLevel_congr ?_ ?_ ?_ ?_ ?_ ?_ ?_ g
    · simp [State.setupTaken, State.takeSetup]
    · simp [State.setupTaken, State.takeSetup]
    · simp [State.setupTaken]
    · simp [State.setupTaken]
    · simp [State.setupTaken]
    · rw [hselections]; rfl
    · rw [hselections]; rfl
  · rw [hselections]

/-- Settles O45, by the pass state and the block. -/
theorem applySetupTakesValidBlock : Obligations.ApplySetupTakesValidBlock := by
  intro s i h
  by_cases hpass : s.pass.state.underWay = true
  · obtain ⟨t, hexec, hdone, htracker, hstack, hfault, hafter⟩ :=
      refuses_of_answer h (taken_applySetup h) (applySetup_of_underWay (s := s.takeActiveFlag) hpass) rfl
    exact ⟨t, hexec, fun _ => ⟨hdone, hfault, hafter⟩, fun hidle => absurd hpass (not_underWay_iff.mpr hidle), htracker,
      hstack⟩
  · have hidle := hpass
    cases hblock : setupFirstInvalid s.cue with
    | some o =>
      obtain ⟨t, hexec, hdone, hfault, htracker, hstack, hafter⟩ := exec_applySetup_of_invalid h hpass hblock
      refine ⟨t, hexec, fun hunder => absurd (underWay_iff.mpr hunder) hpass, fun _ => ⟨fun o' ho hbad hbefore => ?_,
        fun hvalid => ?_⟩, htracker, hstack⟩
      · rw [setupFirstInvalid_eq_some ho hbad hbefore] at hblock
        cases hblock
        exact ⟨hdone, hfault, hafter⟩
      · rw [setupFirstInvalid_eq_none_iff.mpr hvalid] at hblock
        cases hblock
    | none =>
      have hvalid := setupFirstInvalid_eq_none_iff.mp hblock
      obtain ⟨hexec, hsetup, hposition, hselections, hwaiting⟩ := exec_applySetup_of_valid h hpass hvalid
      refine ⟨_, hexec, fun hunder => absurd (underWay_iff.mpr hunder) hpass, fun _ => ⟨fun o ho hbad _ =>
        absurd (hvalid o ho) hbad, fun _ => ?_⟩, by simp [State.setupTaken], by simp [State.setupTaken]⟩
      refine ⟨finished_lone i _ rfl rfl rfl, by simp [State.setupTaken, State.setSetupFault], fun o ho => ?_, ?_, ?_,
        fun hgauge => ?_, fun hgauge => ?_, hselections, hwaiting, ?_, ?_, by simp [State.setupTaken],
        by simp [State.setupTaken], by simp [State.setupTaken], fun a ha => ?_⟩
      · rw [hsetup]
        exact word_readSetup hvalid ho
      · rw [hposition, hsetup]; rfl
      · rw [hposition, takeSetup_frame]
      · rw [hposition]
        exact takeSetup_phase _ (by rwa [hsetup] at hgauge)
      · rw [hposition]
        exact if_pos (by rwa [hsetup] at hgauge)
      · unfold State.setupTaken
        rw [lone_port]
        simp
      · rw [hsetup]
        simp [State.setupTaken, State.takeSetup, bne_eq_decide_ne]
      · refine (read_lone i _ ha).trans ?_
        simp

end Immediate

end Sys2Proof.Proofs

/-! The pass requests (R119, R138, R142 to R144). -/

namespace Sys2Proof.Proofs
open Sys2Proof.Machine

section PassRequests
variable {s : State} {i : Fin 32}

theorem taken_startPass (h : s.OneRequest i 0x12) :
    s.takeActiveFlag.takeEntry i = finishWith i (s.takeActiveFlag.startPass i) := by
  have hkind : requestKind (entryWord s.takeActiveFlag.cue i 1) = some .startPass := OneRequest.requestKind h
  unfold State.takeEntry
  rw [hkind]

theorem taken_stopPass (h : s.OneRequest i 0x13) :
    s.takeActiveFlag.takeEntry i = finishWith i s.takeActiveFlag.stopPass := by
  have hkind : requestKind (entryWord s.takeActiveFlag.cue i 1) = some .stopPass := OneRequest.requestKind h
  unfold State.takeEntry
  rw [hkind]

theorem taken_resumePass (h : s.OneRequest i 0x14) :
    s.takeActiveFlag.takeEntry i = finishWith i s.takeActiveFlag.resumePass := by
  have hkind : requestKind (entryWord s.takeActiveFlag.cue i 1) = some .resumePass := OneRequest.requestKind h
  unfold State.takeEntry
  rw [hkind]

theorem taken_abandonPass (h : s.OneRequest i 0x15) :
    s.takeActiveFlag.takeEntry i = finishWith i s.takeActiveFlag.abandonPass := by
  have hkind : requestKind (entryWord s.takeActiveFlag.cue i 1) = some .abandonPass := OneRequest.requestKind h
  unfold State.takeEntry
  rw [hkind]

/-- What a pass request leaves: its entry finished with a code and the codes of the pass as it stands, a change of state
written as one PASS report, and every other block left (R119, R150). -/
def State.PassAnswered (s t : State) (i : Fin 32) (code : Nat) : Prop :=
  finished t.cue i code (natDWord t.pass.state.code) (natDWord t.pass.condition.code) ∧
  (s.hasRoom 1 →
    s.wrote t
      (if t.pass.state = s.pass.state then [] else [passReport s.sequencer.fieldFrame s.pass.state t.pass])) ∧
  t.tracker = s.tracker ∧ t.engine = s.engine ∧ t.position = s.position ∧ t.setup = s.setup ∧
  t.requests = { s.requests with takeIndex := i + 1 } ∧
  ∀ a, ¬inEntryResults i a → ¬inPassBlock a → ¬inRing a → Memory.read t.cue a = Memory.read s.cue a

theorem not_inPassOrRing_entryBase_add {j : Fin 32} {k : Nat} (hk : k < 64) : ¬inPassOrRing (entryBase j + k) := by
  have := j.isLt
  unfold inPassOrRing inPassBlock inRing entryBase requestBase
  omega

theorem not_inEntryResults_of_inRing {a : Nat} (h : inRing a) : ¬inEntryResults i a := by
  rintro ⟨k, hk, rfl⟩
  have := i.isLt
  unfold inRing entryBase requestBase at h
  unfold resultWord at hk
  omega

/-- A pass request that touches the pass, the matrix, the causes and the ring alone. -/
theorem passAnswered_of_answer {kind : Nat} {answer : State × Result} (h : s.OneRequest i kind)
    (htake : s.takeActiveFlag.takeEntry i = finishWith i answer)
    (hblocks : answer.1.tracker = s.tracker ∧ answer.1.engine = s.engine ∧ answer.1.position = s.position ∧
      answer.1.setup = s.setup ∧ answer.1.requests = s.requests)
    (hcue : Memory.ChangesWithin inPassOrRing s.cue answer.1.cue)
    (hresult : answer.2 = answer.1.passResult answer.2.code)
    (hwrote : s.hasRoom 1 → s.wrote answer.1
      (if answer.1.pass.state = s.pass.state then []
        else [passReport s.sequencer.fieldFrame s.pass.state answer.1.pass])) :
    exec .activeStart s = .next (State.lone i answer) ∧
      State.PassAnswered s (State.lone i answer) i answer.2.code.word.toNat := by
  obtain ⟨htracker, hengine, hposition, hsetup, hrequests⟩ := hblocks
  have hsdue := OneRequest.notifyDue h
  have hpass : (State.lone i answer).pass = answer.1.pass := by simp
  refine ⟨exec_activeStart_of_answer h htake ?_ ?_ ?_, ?_, fun hroom => ?_, ?_, ?_, ?_, ?_, ?_, fun a ha hp hr => ?_⟩
  · rw [hrequests]; exact OneRequest.takeIndex h
  · rw [hrequests]; exact OneRequest.ripple h
  · exact entryWord_of_changesWithin hcue (not_inPassOrRing_entryBase_add (by omega))
  · rw [hpass]
    exact finished_lone i answer rfl (by rw [hresult]; rfl) (by rw [hresult]; rfl)
  · rw [hpass]
    exact wrote_after (hwrote hroom) (by simp) (fun a ha => read_lone i answer (not_inEntryResults_of_inRing ha)) (by simp)
  · simpa using htracker
  · simpa using hengine
  · simpa using hposition
  · simpa using hsetup
  · rw [lone_requests, hrequests, OneRequest.takeIndex h, ← hsdue]
  · exact (read_lone i answer ha).trans (hcue.read fun hor => hor.elim hp hr)

/-- A pass request that is not admitted is refused with the codes of the pass as it stands (R119). -/
theorem passAnswered_refused {kind : Nat} {answer : State × Result} {c : ResultCode} (h : s.OneRequest i kind)
    (htake : s.takeActiveFlag.takeEntry i = finishWith i answer)
    (hanswer : answer = (s.takeActiveFlag, s.takeActiveFlag.passResult c)) :
    ∃ t, exec .activeStart s = .next t ∧ State.PassAnswered s t i c.word.toNat ∧ t.pass = s.pass := by
  subst hanswer
  obtain ⟨hexec, hanswered⟩ := passAnswered_of_answer h htake ⟨rfl, rfl, rfl, rfl, rfl⟩ (.refl _ _) rfl fun _ => by
    rw [if_pos (show s.takeActiveFlag.pass.state = s.pass.state from rfl)]
    exact wrote_nil rfl fun _ _ => rfl
  exact ⟨_, hexec, hanswered, by simp⟩

/-- A pass request that changes the state: the change and its report (R149, R150). -/
theorem passAnswered_changed {kind : Nat} {answer : State × Result} {p : Pass} (h : s.OneRequest i kind)
    (htake : s.takeActiveFlag.takeEntry i = finishWith i answer)
    (hanswer : answer = passDone (s.takeActiveFlag.changePass p)) (hstate : p.state ≠ s.pass.state) :
    ∃ t, exec .activeStart s = .next t ∧ State.PassAnswered s t i 0 ∧ t.pass = p ∧
      (p.state.setsCause = true → t.causeSet .pass = true) := by
  subst hanswer
  let u := (s.takeActiveFlag.changePass p).1
  let rs := (s.takeActiveFlag.changePass p).2
  let answer := passDone (s.takeActiveFlag.changePass p)
  have hrs : rs = [passReport s.sequencer.fieldFrame s.pass.state p] := changePass_snd _ p
  have hmade : answer.1 = u.handEach rs := rfl
  have hpass : answer.1.pass = p := by rw [hmade]; simp [u]
  obtain ⟨hexec, hanswered⟩ := passAnswered_of_answer (answer := answer) h htake
    ⟨by rw [hmade]; simp [u], by rw [hmade]; simp [u], by rw [hmade]; simp [u], by rw [hmade]; simp [u],
      by rw [hmade]; simp [u]⟩ (changesWithin_passDone s.takeActiveFlag p) rfl fun hroom => by
    rw [hpass, if_neg hstate, ← hrs, hmade]
    refine wrote_before (wrote_handEach (hasRoom_congr (by rw [hrs]; exact hroom) (by simp [u]) (by simp [u])) fun r hr => ?_)
      (by simp [u]) fun a ha => read_changePass_other _ _ (not_inPassBlock_of_inRing ha)
    rw [hrs, List.mem_singleton] at hr
    rw [hr]
    exact takes_of_running (k := .pass) (by simpa [u] using hroom.1) nofun nofun
  refine ⟨_, hexec, hanswered, by simp [hpass], fun hsets => ?_⟩
  have hset : u.causeSet .pass = true := by
    rw [causeSet_changePass, hsets]
    simp
  have hkept := causesKept_finishEntry answer.1 i answer.2 _ (causesKept_handEach u rs _ hset)
  exact (causeSet_congr (by simp [State.lone, State.advanceTake, finishWith]) .pass).trans hkept

/-- STOP PASS of a RECORDING pass sets stop pending and changes no state (R142). -/
theorem passAnswered_stop (h : s.OneRequest i 0x13) (hstate : s.pass.state = .recording) :
    ∃ t, exec .activeStart s = .next t ∧ State.PassAnswered s t i 0 ∧ t.pass = { s.pass with stopPending := true } := by
  let answer := s.takeActiveFlag.stopPass
  have hanswer : answer = (s.takeActiveFlag.setStopPending, s.takeActiveFlag.setStopPending.passResult .ok) :=
    if_pos hstate
  have hpass : answer.1.pass = { s.pass with stopPending := true } := by
    rw [hanswer]
    simp [State.setStopPending]
  obtain ⟨hexec, hanswered⟩ := passAnswered_of_answer (answer := answer) h (taken_stopPass h)
    ⟨by rw [hanswer]; simp, by rw [hanswer]; simp, by rw [hanswer]; simp, by rw [hanswer]; simp,
      by rw [hanswer]; simp⟩ (changesWithin_stopPass s.takeActiveFlag) (by rw [hanswer]; rfl) fun _ => by
    have hcue : Memory.ChangesWithin inPassBlock s.cue answer.1.cue := by
      rw [hanswer]
      exact changesWithin_setPass s.takeActiveFlag _
    rw [hpass, if_pos rfl]
    exact wrote_nil (by rw [hanswer]; simp) fun a ha => hcue.read (not_inPassBlock_of_inRing ha)
  have hcode : answer.2.code.word.toNat = 0 := by rw [hanswer]; rfl
  rw [hcode] at hanswered
  exact ⟨_, hexec, hanswered, by simp [hpass]⟩

theorem startable_iff {p : PassState} : p.startable = true ↔ p = .idle ∨ p = .complete ∨ p = .faulted := by
  cases p <;> simp [PassState.startable]

/-- START PASS, by the state and the in-frame (R119, R138). -/
theorem answered_startPass (h : s.OneRequest i 0x12) :
    ∃ (t : State) (code : Nat), exec .activeStart s = .next t ∧ State.PassAnswered s t i code ∧
      (¬s.pass.state.startable = true → code = 8 ∧ t.pass = s.pass) ∧
      (s.pass.state.startable = true → ¬inRange (operandPosition s.cue i) → code = 4 ∧ t.pass = s.pass) ∧
      (s.pass.state.startable = true → inRange (operandPosition s.cue i) →
        code = 0 ∧ t.pass = Pass.started (operandPosition s.cue i) (operandCount s.cue i)) := by
  by_cases hstart : s.pass.state.startable = true
  · have hnot : ¬s.takeActiveFlag.pass.state.startable = false := by
      change ¬s.pass.state.startable = false
      rw [hstart]
      decide
    by_cases hin : inRange (operandPosition s.cue i)
    · have hrange : ¬frameInRange (operandPosition s.takeActiveFlag.cue i) = false := by
        change ¬frameInRange (operandPosition s.cue i) = false
        rw [frameInRange_iff.mpr hin]
        decide
      have hcued : (Pass.started (operandPosition s.cue i) (operandCount s.cue i)).state ≠ s.pass.state := by
        intro heq
        rw [← heq] at hstart
        exact absurd hstart (show ¬PassState.cued.startable = true by decide)
      obtain ⟨t, hexec, hanswered, hpass, -⟩ := passAnswered_changed h (taken_startPass h)
        ((if_neg hnot).trans (if_neg hrange)) hcued
      exact ⟨t, 0, hexec, hanswered, fun hno => absurd hstart hno, fun _ hout => absurd hin hout, fun _ _ => ⟨rfl, hpass⟩⟩
    · have hrange : frameInRange (operandPosition s.takeActiveFlag.cue i) = false :=
        Bool.eq_false_iff.mpr fun h' => hin (frameInRange_iff.mp h')
      obtain ⟨t, hexec, hanswered, hpass⟩ := passAnswered_refused h (taken_startPass h)
        ((if_neg hnot).trans (if_pos hrange))
      exact ⟨t, _, hexec, hanswered, fun hno => absurd hstart hno, fun _ _ => ⟨rfl, hpass⟩, fun _ h' => absurd h' hin⟩
  · obtain ⟨t, hexec, hanswered, hpass⟩ := passAnswered_refused h (taken_startPass h)
      (if_pos (Bool.eq_false_iff.mpr hstart))
    exact ⟨t, _, hexec, hanswered, fun _ => ⟨rfl, hpass⟩, fun h' => absurd h' hstart, fun h' => absurd h' hstart⟩

/-- ABANDON PASS, by the state (R119, R144, R145). -/
theorem answered_abandonPass (h : s.OneRequest i 0x15) :
    ∃ (t : State) (code : Nat), exec .activeStart s = .next t ∧ State.PassAnswered s t i code ∧
      (s.pass.state = .cued ∨ s.pass.state = .paused →
        code = 0 ∧ t.pass = { s.pass with state := .idle, condition := .abandoned }) ∧
      (s.pass.state = .recording →
        code = 0 ∧ t.causeSet .pass = true ∧
        t.pass =
          { s.pass with
            state := .faulted, condition := .abandoned, stopPending := false, expected := s.pass.expected - 1 }) ∧
      (s.pass.state = .idle ∨ s.pass.state = .complete ∨ s.pass.state = .faulted → code = 8 ∧ t.pass = s.pass) := by
  have hanswer : s.takeActiveFlag.abandonPass = match s.pass.state with
      | .recording => passDone (s.takeActiveFlag.faultPass .abandoned)
      | .cued => passDone (s.takeActiveFlag.changePass { s.pass with state := .idle, condition := .abandoned })
      | .paused => passDone (s.takeActiveFlag.changePass { s.pass with state := .idle, condition := .abandoned })
      | _ => (s.takeActiveFlag, s.takeActiveFlag.passResult .notNow) := rfl
  have hidle {p : PassState} (hstate : s.pass.state = p) (hne : PassState.idle ≠ p)
      (hends : s.takeActiveFlag.abandonPass =
        passDone (s.takeActiveFlag.changePass { s.pass with state := .idle, condition := .abandoned })) :=
    passAnswered_changed h (taken_abandonPass h) hends (by rw [hstate]; exact hne)
  have hrefused (hends : s.takeActiveFlag.abandonPass = (s.takeActiveFlag, s.takeActiveFlag.passResult .notNow)) :=
    passAnswered_refused h (taken_abandonPass h) hends
  cases hstate : s.pass.state with
  | recording =>
    rw [hstate] at hanswer
    obtain ⟨t, hexec, hanswered, hpass, hcause⟩ := passAnswered_changed h (taken_abandonPass h) hanswer
      (by rw [hstate]; exact nofun)
    refine ⟨t, 0, hexec, hanswered, by simp, fun _ => ⟨rfl, hcause rfl, ?_⟩, by simp⟩
    rw [hpass]
    simp [Pass.faultedWith, hstate]
  | cued =>
    rw [hstate] at hanswer
    obtain ⟨t, hexec, hanswered, hpass, -⟩ := hidle hstate nofun hanswer
    exact ⟨t, 0, hexec, hanswered, fun _ => ⟨rfl, hpass⟩, by simp, by simp⟩
  | paused =>
    rw [hstate] at hanswer
    obtain ⟨t, hexec, hanswered, hpass, -⟩ := hidle hstate nofun hanswer
    exact ⟨t, 0, hexec, hanswered, fun _ => ⟨rfl, hpass⟩, by simp, by simp⟩
  | idle =>
    rw [hstate] at hanswer
    obtain ⟨t, hexec, hanswered, hpass⟩ := hrefused hanswer
    exact ⟨t, _, hexec, hanswered, by simp, by simp, fun _ => ⟨rfl, hpass⟩⟩
  | complete =>
    rw [hstate] at hanswer
    obtain ⟨t, hexec, hanswered, hpass⟩ := hrefused hanswer
    exact ⟨t, _, hexec, hanswered, by simp, by simp, fun _ => ⟨rfl, hpass⟩⟩
  | faulted =>
    rw [hstate] at hanswer
    obtain ⟨t, hexec, hanswered, hpass⟩ := hrefused hanswer
    exact ⟨t, _, hexec, hanswered, by simp, by simp, fun _ => ⟨rfl, hpass⟩⟩

end PassRequests

/-- Settles O53, by the request. -/
theorem passRequestsChangeThePass : Obligations.PassRequestsChangeThePass := by
  refine ⟨⟨rfl, rfl⟩, fun s i kind h hlow hhigh => ?_⟩
  obtain rfl | rfl | rfl | rfl : kind = 0x12 ∨ kind = 0x13 ∨ kind = 0x14 ∨ kind = 0x15 := by omega
  · obtain ⟨t, code, hexec, ⟨hdone, hrest⟩, hnot, hout, hin⟩ := answered_startPass h
    exact ⟨t, code, hexec, hdone, ⟨fun _ => ⟨fun hno => hnot fun h' => hno (startable_iff.mp h'),
      fun hstart => hout (startable_iff.mpr hstart), fun hstart => hin (startable_iff.mpr hstart)⟩,
      fun h' => absurd h' (by decide), fun h' => absurd h' (by decide), fun h' => absurd h' (by decide)⟩, hrest⟩
  · by_cases hstate : s.pass.state = .recording
    · obtain ⟨t, hexec, ⟨hdone, hrest⟩, hpass⟩ := passAnswered_stop h hstate
      exact ⟨t, 0, hexec, hdone, ⟨fun h' => absurd h' (by decide), fun _ => ⟨fun _ => ⟨rfl, hpass⟩,
        fun hne => absurd hstate hne⟩, fun h' => absurd h' (by decide), fun h' => absurd h' (by decide)⟩, hrest⟩
    · obtain ⟨t, hexec, ⟨hdone, hrest⟩, hpass⟩ := passAnswered_refused h (taken_stopPass h) (if_neg hstate)
      exact ⟨t, 8, hexec, hdone, ⟨fun h' => absurd h' (by decide), fun _ => ⟨fun heq => absurd heq hstate,
        fun _ => ⟨rfl, hpass⟩⟩, fun h' => absurd h' (by decide), fun h' => absurd h' (by decide)⟩, hrest⟩
  · by_cases hstate : s.pass.state = .paused
    · obtain ⟨t, hexec, ⟨hdone, hrest⟩, hpass, -⟩ := passAnswered_changed h (taken_resumePass h) (if_pos hstate)
        (by rw [hstate]; exact nofun)
      exact ⟨t, 0, hexec, hdone, ⟨fun h' => absurd h' (by decide), fun h' => absurd h' (by decide),
        fun _ => ⟨fun _ => ⟨rfl, hpass⟩, fun hne => absurd hstate hne⟩, fun h' => absurd h' (by decide)⟩, hrest⟩
    · obtain ⟨t, hexec, ⟨hdone, hrest⟩, hpass⟩ := passAnswered_refused h (taken_resumePass h) (if_neg hstate)
      exact ⟨t, 8, hexec, hdone, ⟨fun h' => absurd h' (by decide), fun h' => absurd h' (by decide),
        fun _ => ⟨fun heq => absurd heq hstate, fun _ => ⟨rfl, hpass⟩⟩, fun h' => absurd h' (by decide)⟩, hrest⟩
  · obtain ⟨t, code, hexec, ⟨hdone, hrest⟩, hends, hfaults, hrefused⟩ := answered_abandonPass h
    exact ⟨t, code, hexec, hdone, ⟨fun h' => absurd h' (by decide), fun h' => absurd h' (by decide),
      fun h' => absurd h' (by decide), fun _ => ⟨hends, hfaults, hrefused⟩⟩, hrest⟩

end Sys2Proof.Proofs

/-! The edits in place: REGRADE SCENE, SET DISSOLVE and STORE LIVE (R109 to R111). -/

namespace Sys2Proof.Proofs
open Sys2Proof.Machine

/-! ### The words of a slot after an edit in place -/

section Words
variable {m : Memory} {x y : Slot} {cells : List (Nat × Word)} {k : Nat}

theorem slotWordAt_editScene_serial (m : Memory) (x : Slot) (cells : List (Nat × Word)) :
    slotWordAt (editScene m x cells) x 7 = slotWordAt m x 7 + 1 := by
  unfold editScene
  rw [Memory.writeAll_append]
  exact slotWordAt_write_same _ x (k := 7) (by omega) _

theorem slotWordAt_editScene_other (hk : k < 32) (h : y ≠ x ∨ k ≠ 7) :
    slotWordAt (editScene m x cells) y k = slotWordAt (Memory.writeAll m cells) y k := by
  unfold editScene
  rw [Memory.writeAll_append]
  exact slotWordAt_write_other _ (j := 7) (by omega) hk _ fun ⟨hy, h7⟩ => h.elim (· hy) (· h7)

/-- Cells of the grade words of a slot leave every other word of the table. -/
theorem slotWordAt_writeAll_grade (hcells : ∀ c ∈ cells, inGradeWords x c.1) (hk : k < 32)
    (h : y ≠ x ∨ k < 12 ∨ 22 ≤ k) : slotWordAt (Memory.writeAll m cells) y k = slotWordAt m y k := by
  refine Memory.read_writeAll_other _ _ _ fun c hc heq => ?_
  have hin := hcells c hc
  rw [heq] at hin
  unfold inGradeWords at hin
  obtain ⟨j, hj, hj', heqj⟩ : ∃ j, 12 ≤ j ∧ j < 22 ∧ slotBase y + k = slotBase x + j :=
    ⟨slotBase y + k - slotBase x, by omega, by omega, by omega⟩
  obtain ⟨hyx, hkj⟩ := (slotBase_inj hk (by omega)).mp heqj
  rcases h with h | h
  · exact h hyx
  · omega

theorem pairwise_maskedGradeCells (x : Slot) (mask : Vector Bool 10) (g : Grade) :
    (maskedGradeCells x mask g).Pairwise fun c d => c.1 ≠ d.1 := by
  unfold maskedGradeCells
  rw [List.pairwise_map]
  refine ((List.nodup_finRange 10).sublist List.filter_sublist).imp fun h => ?_
  dsimp only
  omega

/-- A grade word after the masked values are written. -/
theorem slotWordAt_writeAll_masked (m : Memory) (x : Slot) (mask : Vector Bool 10) (g : Grade) (k : Fin 10) :
    slotWordAt (Memory.writeAll m (maskedGradeCells x mask g)) x (12 + k.val) =
      if mask[k] = true then signedWord g[k] else slotWordAt m x (12 + k.val) := by
  split
  · next hflag =>
    have hmem : (slotBase x + (12 + k.val), signedWord g[k]) ∈ maskedGradeCells x mask g :=
      List.mem_map.mpr ⟨k, List.mem_filter.mpr ⟨List.mem_finRange k, hflag⟩, by rw [Nat.add_assoc]⟩
    exact Memory.read_writeAll_mem m _ _ hmem (pairwise_maskedGradeCells x mask g)
  · next hflag =>
    refine Memory.read_writeAll_other _ _ _ fun c hc heq => ?_
    obtain ⟨j, hj, rfl⟩ := mem_maskedGradeCells hc
    have hjk : j = k := Fin.ext (by dsimp only at heq; omega)
    exact hflag (hjk ▸ hj)

theorem slotWordAt_writeAll_gradeCells (m : Memory) (x : Slot) (g : Grade) (k : Fin 10) :
    slotWordAt (Memory.writeAll m (gradeCells x g)) x (12 + k.val) = signedWord g[k] :=
  Memory.read_writeAll_mem m _ _ (mem_gradeCells_of x g k) (pairwise_gradeCells x g)

end Words

theorem anyFlag_eq_false {mask : Vector Bool 10} : anyFlag mask = false ↔ ∀ k : Fin 10, mask[k] = false := by
  simp [anyFlag]

theorem clampCount_eq (mask : Vector Bool 10) (g : Grade) :
    clampCount mask g = clampedAmong (fun k => mask[k]) fun k => g[k] := rfl

theorem clampedAmong_congr {f f' : Fin 10 → Bool} {v v' : Fin 10 → Int} (hf : ∀ k, f k = f' k) (hv : ∀ k, v k = v' k) :
    clampedAmong f v = clampedAmong f' v' := by
  rw [show f = f' from funext hf, show v = v' from funext hv]

theorem operandMask_getElem (m : Memory) (i : Fin 32) (k : Fin 10) :
    (operandMask m i)[k] = (entryWord m i 15).getLsbD k.val := by simp [operandMask]

theorem operandGrade_getElem (m : Memory) (i : Fin 32) (k : Fin 10) :
    (operandGrade m i)[k] = (entryWord m i (19 + k.val)).toInt := by simp [operandGrade]

theorem clampGrade_getElem (g : Grade) (k : Fin 10) : (clampGrade g)[k] = clampParam k g[k] := by simp [clampGrade]

theorem addGrade_getElem (g d : Grade) (k : Fin 10) : (addGrade g d)[k] = g[k] + d[k] := by simp [addGrade]

theorem okOr_code {p : Prop} (hp : Decidable p) : (okOr (decide p)).word.toNat = if p then 1 else 0 := by
  unfold okOr
  by_cases h : p <;> simp [h, ResultCode.word]

/-! ### The answer of an edit in place -/

/-- The words of a slot that an edit in place may write: DISSOLVE, the serial and the grade (R109 to R111). -/
def inEdited (x : Slot) (a : Nat) : Prop :=
  a = slotBase x + 5 ∨ a = slotBase x + 7 ∨ (slotBase x + 12 ≤ a ∧ a < slotBase x + 22)

theorem inEdited_of_inGradeWords {x : Slot} {a : Nat} (h : inGradeWords x a) : inEdited x a := .inr (.inr h)

theorem inScenes_of_inEdited {x : Slot} {a : Nat} (h : inEdited x a) : inScenes a := by
  have := slotBase_bounds x
  unfold inEdited at h
  unfold inScenes
  omega

section Edits
variable {s : State} {i : Fin 32} {x : Slot} {kind : Nat}

theorem not_inEntryResults_of_inScenes {a : Nat} (h : inScenes a) : ¬inEntryResults i a := by
  rintro ⟨k, hk, rfl⟩
  unfold resultWord at hk
  exact not_inScenes_entryBase_add (by omega) h

theorem slotWordAt_lone (i : Fin 32) (answer : State × Result) (y : Slot) {k : Nat} (hk : k < 32) :
    slotWordAt (State.lone i answer).cue y k = slotWordAt answer.1.cue y k := by
  refine read_lone i answer (not_inEntryResults_of_inScenes ?_)
  have := slotBase_bounds y
  unfold inScenes
  omega

/-- An edit of cue memory's scene table alone: what ACTIVE START makes of it. -/
theorem exec_activeStart_of_edit {m' : Memory} {r : Result} {touched : Nat → Prop} {answer : State × Result}
    (h : s.OneRequest i kind) (htake : s.takeActiveFlag.takeEntry i = finishWith i answer)
    (hanswer : answer = ({ s.takeActiveFlag with cue := m' }, r))
    (hcue : Memory.ChangesWithin touched s.cue m') (htouched : ∀ a, touched a → inScenes a) :
    ∃ t, exec .activeStart s = .next t ∧ finished t.cue i r.code.word.toNat r.a r.b ∧
      (∀ (y : Slot) (k : Nat), k < 32 → slotWordAt t.cue y k = slotWordAt m' y k) ∧
      t.tracker = s.tracker ∧ t.requests.freeStack = s.requests.freeStack ∧ s.AfterRequest t i touched := by
  subst hanswer
  obtain ⟨hexec, hafter⟩ := afterRequest_of_answer (touched := touched) h htake
    ⟨rfl, rfl, rfl, rfl, rfl, rfl, rfl, rfl, rfl, rfl, rfl, rfl, fun a ha => hcue.read fun ht => ha (.inl ht)⟩ htouched
  exact ⟨_, hexec, finished_lone i _ rfl rfl rfl, fun y k hk => slotWordAt_lone i _ y hk, by simp, by simp, hafter⟩

theorem exec_regradeScene (h : s.OneRequest i 0x04) (hname : entryWord s.cue i 8 = natWord x.val)
    (hlisted : listed s.cue x = true) (hfree : s.freeToEdit x) :
    ∃ t, exec .activeStart s = .next t ∧
      (let flag (k : Fin 10) : Bool := (entryWord s.cue i 15).getLsbD k.val
       let operand (k : Fin 10) : Int := (entryWord s.cue i (19 + k.val)).toInt
       slotWordAt t.cue x 7 =
         (if ∀ k : Fin 10, flag k = false then slotWordAt s.cue x 7 else slotWordAt s.cue x 7 + 1) ∧
       (∀ k : Fin 10,
         slotWordAt t.cue x (12 + k.val) =
           if flag k = true then signedWord (clampParam k (operand k)) else slotWordAt s.cue x (12 + k.val)) ∧
       slotWordAt t.cue x 5 = slotWordAt s.cue x 5 ∧
       finished t.cue i (if clampedAmong flag operand = 0 then 0 else 1) (wordDWord (slotWordAt t.cue x 7))
         (natDWord (clampedAmong flag operand))) ∧
      t.tracker = s.tracker ∧ t.requests.freeStack = s.requests.freeStack ∧ s.AfterRequest t i (inEdited x) := by
  let mask := operandMask s.cue i
  let g := operandGrade s.cue i
  let cells := maskedGradeCells x mask (clampGrade g)
  let m' := if anyFlag mask then editScene s.cue x cells else s.cue
  let n := clampCount mask g
  let answer := s.takeActiveFlag.regradeScene i
  have hanswer : answer = ({ s.takeActiveFlag with cue := m' },
      { code := okOr (decide (n ≠ 0)), a := wordDWord (sceneSerial m' x), b := natDWord n }) := by
    have hair : s.takeActiveFlag.slotOnAir x = false := slotOnAir_eq_false (s := s.takeActiveFlag) hfree
    have hslot : listedSlotA s.takeActiveFlag.cue i = some x := listedSlot_eq_some hname hlisted
    unfold answer State.regradeScene
    rw [hslot]
    exact if_neg (Bool.eq_false_iff.mp hair)
  have hcells : ∀ c ∈ cells, inGradeWords x c.1 := fun c hc => inGradeWords_of_mem_maskedGradeCells hc
  have hcue : Memory.ChangesWithin (inEdited x) s.cue m' := by
    unfold m'
    split
    · exact changesWithin_editScene _ (fun c hc => ⟨inEdited_of_inGradeWords (hcells c hc), inGradeWords_lt (hcells c hc)⟩)
        (.inr (.inl rfl))
    · exact .refl _ _
  obtain ⟨t, hexec, hdone, hwords, hrest⟩ := exec_activeStart_of_edit h (taken_regradeScene h) hanswer hcue
    fun a => inScenes_of_inEdited
  have hcount : n = clampedAmong (fun k => (entryWord s.cue i 15).getLsbD k.val)
      fun k => (entryWord s.cue i (19 + k.val)).toInt :=
    clampedAmong_congr (operandMask_getElem s.cue i) (operandGrade_getElem s.cue i)
  have hflags : anyFlag mask = false ↔ ∀ k : Fin 10, (entryWord s.cue i 15).getLsbD k.val = false := by
    rw [anyFlag_eq_false]
    simp only [mask, operandMask_getElem]
  refine ⟨t, hexec, ⟨?_, fun k => ?_, ?_, ?_⟩, hrest⟩
  · rw [hwords x 7 (by omega)]
    unfold m'
    by_cases hany : anyFlag mask = false
    · rw [hany, if_pos (hflags.mp hany)]
      rfl
    · rw [if_pos (Bool.eq_true_of_not_eq_false hany), if_neg fun hall => hany (hflags.mpr hall)]
      exact slotWordAt_editScene_serial _ _ _
  · rw [hwords x (12 + k.val) (by omega)]
    unfold m'
    by_cases hany : anyFlag mask = false
    · rw [hany]
      exact (if_neg fun hflag => Bool.false_ne_true ((hflags.mp hany k).symm.trans hflag)).symm
    · rw [if_pos (Bool.eq_true_of_not_eq_false hany), slotWordAt_editScene_other (by omega) (.inr (by omega)),
        slotWordAt_writeAll_masked, operandMask_getElem, clampGrade_getElem, operandGrade_getElem]
  · rw [hwords x 5 (by omega)]
    unfold m'
    split
    · rw [slotWordAt_editScene_other (by omega) (.inr (by omega)), slotWordAt_writeAll_grade hcells (by omega) (by omega)]
    · rfl
  · rw [hwords x 7 (by omega), ← hcount]
    refine finished_of_code hdone ?_ rfl rfl
    rw [okOr_code]
    split_ifs <;> simp_all

theorem sceneDissolve_of_word {m : Memory} {d : Int} (h : slotWordAt m x 5 = signedWord (clampDissolve d)) :
    (sceneDissolve m x : Int) = clampDissolve d := by
  unfold sceneDissolve
  rw [h]
  exact signedWord_toNat (clampDissolve_bounds d).1 (by have := (clampDissolve_bounds d).2; omega)

theorem exec_setDissolve (h : s.OneRequest i 0x05) (hname : entryWord s.cue i 8 = natWord x.val) (hx : x ≠ 0)
    (hlisted : listed s.cue x = true) (hfree : s.freeToEdit x) :
    ∃ t, exec .activeStart s = .next t ∧
      (let length := (entryWord s.cue i 14).toInt
       slotWordAt t.cue x 7 = slotWordAt s.cue x 7 + 1 ∧
       (sceneDissolve t.cue x : Int) = max 0 (min 250 length) ∧
       (∀ k : Fin 10, slotWordAt t.cue x (12 + k.val) = slotWordAt s.cue x (12 + k.val)) ∧
       finished t.cue i (if (if 0 ≤ length ∧ length ≤ 250 then 0 else 1) = 0 then 0 else 1)
         (wordDWord (slotWordAt t.cue x 7)) (natDWord (sceneDissolve t.cue x))) ∧
      t.tracker = s.tracker ∧ t.requests.freeStack = s.requests.freeStack ∧ s.AfterRequest t i (inEdited x) := by
  let d := operandDissolve s.cue i
  let m' := editScene s.cue x [(slotBase x + 5, signedWord (clampDissolve d))]
  let answer := s.takeActiveFlag.setDissolve i
  have hanswer : answer = ({ s.takeActiveFlag with cue := m' },
      { code := okOr (decide (clampDissolve d ≠ d)), a := wordDWord (sceneSerial m' x),
        b := signedDWord (clampDissolve d) }) := by
    have hair : s.takeActiveFlag.slotOnAir x = false := slotOnAir_eq_false (s := s.takeActiveFlag) hfree
    have hslot : movableSlotA s.takeActiveFlag.cue i = some x := movableSlotA_eq_some hname hlisted hx
    unfold answer State.setDissolve
    rw [hslot]
    exact if_neg (Bool.eq_false_iff.mp hair)
  have hcue : Memory.ChangesWithin (inEdited x) s.cue m' :=
    changesWithin_editScene _ (fun c hc => by
      rw [List.mem_singleton.mp hc]
      exact ⟨.inl rfl, slotBase_add_lt (by omega)⟩) (.inr (.inl rfl))
  obtain ⟨t, hexec, hdone, hwords, hrest⟩ := exec_activeStart_of_edit h (taken_setDissolve h) hanswer hcue
    fun a => inScenes_of_inEdited
  have hlength : slotWordAt t.cue x 5 = signedWord (clampDissolve d) := by
    rw [hwords x 5 (by omega), slotWordAt_editScene_other (by omega) (.inr (by omega))]
    exact slotWordAt_write_same _ x (k := 5) (by omega) _
  have hdissolve := sceneDissolve_of_word hlength
  refine ⟨t, hexec, ⟨?_, ?_, fun k => ?_, ?_⟩, hrest⟩
  · rw [hwords x 7 (by omega)]
    exact slotWordAt_editScene_serial _ _ _
  · rw [hdissolve]
    rfl
  · rw [hwords x _ (by omega), slotWordAt_editScene_other (by omega) (.inr (by omega))]
    exact slotWordAt_write_other _ (j := 5) (by omega) (by omega) _ (by omega)
  · rw [hwords x 7 (by omega)]
    refine finished_of_code hdone ?_ rfl ?_
    · have hsame : clampDissolve d ≠ d ↔ ¬(0 ≤ (entryWord s.cue i 14).toInt ∧ (entryWord s.cue i 14).toInt ≤ 250) := by
        unfold clampDissolve clampInt d operandDissolve
        omega
      rw [okOr_code]
      split_ifs <;> simp_all
    · change signedDWord (clampDissolve d) = _
      rw [← hdissolve]
      exact BitVec.ofInt_natCast _ _

theorem exec_storeLive (h : s.OneRequest i 0x06) (hname : entryWord s.cue i 8 = natWord x.val)
    (hlisted : listed s.cue x = true) (hfree : s.freeToEdit x) :
    ∃ t, exec .activeStart s = .next t ∧
      (let sum (k : Fin 10) : Int := (sceneGrade s.cue x)[k] + s.engine.deltas[k]
       slotWordAt t.cue x 7 = slotWordAt s.cue x 7 + 1 ∧
       (∀ k : Fin 10, (sceneGrade t.cue x)[k] = clampParam k (sum k)) ∧
       slotWordAt t.cue x 5 = slotWordAt s.cue x 5 ∧
       finished t.cue i (if clampedAmong (fun _ => true) sum = 0 then 0 else 1) (wordDWord (slotWordAt t.cue x 7))
         (natDWord (clampedAmong (fun _ => true) sum))) ∧
      t.tracker = s.tracker ∧ t.requests.freeStack = s.requests.freeStack ∧ s.AfterRequest t i (inEdited x) := by
  let sums := addGrade (sceneGrade s.cue x) s.engine.deltas
  let cells := gradeCells x (clampGrade sums)
  let m' := editScene s.cue x cells
  let n := clampCount fullMask sums
  let answer := s.takeActiveFlag.storeLive i
  have hanswer : answer = ({ s.takeActiveFlag with cue := m' },
      { code := okOr (decide (n ≠ 0)), a := wordDWord (sceneSerial m' x), b := natDWord n }) := by
    have hair : s.takeActiveFlag.slotOnAir x = false := slotOnAir_eq_false (s := s.takeActiveFlag) hfree
    have hslot : listedSlotA s.takeActiveFlag.cue i = some x := listedSlot_eq_some hname hlisted
    unfold answer State.storeLive
    rw [hslot]
    exact if_neg (Bool.eq_false_iff.mp hair)
  have hcells : ∀ c ∈ cells, inGradeWords x c.1 := fun c hc => inGradeWords_of_mem_gradeCells hc
  have hcue : Memory.ChangesWithin (inEdited x) s.cue m' :=
    changesWithin_editScene _ (fun c hc => ⟨inEdited_of_inGradeWords (hcells c hc), inGradeWords_lt (hcells c hc)⟩)
      (.inr (.inl rfl))
  obtain ⟨t, hexec, hdone, hwords, hrest⟩ := exec_activeStart_of_edit h (taken_storeLive h) hanswer hcue
    fun a => inScenes_of_inEdited
  have hcount : n = clampedAmong (fun _ => true) fun k => (sceneGrade s.cue x)[k] + s.engine.deltas[k] :=
    clampedAmong_congr (fun k => by simp [fullMask]) (addGrade_getElem _ _)
  refine ⟨t, hexec, ⟨?_, fun k => ?_, ?_, ?_⟩, hrest⟩
  · rw [hwords x 7 (by omega)]
    exact slotWordAt_editScene_serial _ _ _
  · change _ = clampParam k ((sceneGrade s.cue x)[k] + s.engine.deltas[k])
    rw [← addGrade_getElem, ← clampGrade_getElem]
    refine sceneGrade_of_signedWord ?_ (clampGrade_inRange sums k)
    rw [hwords x _ (by omega), slotWordAt_editScene_other (by omega) (.inr (by omega)), slotWordAt_writeAll_gradeCells]
  · rw [hwords x 5 (by omega), slotWordAt_editScene_other (by omega) (.inr (by omega)),
      slotWordAt_writeAll_grade hcells (by omega) (by omega)]
  · rw [hwords x 7 (by omega), ← hcount]
    refine finished_of_code hdone ?_ rfl rfl
    rw [okOr_code]
    split_ifs <;> simp_all

end Edits

/-- Settles O43, by the request. -/
theorem editsInPlaceWriteTheirFields : Obligations.EditsInPlaceWriteTheirFields := by
  intro s i x kind h hname hlisted hfree hkind
  rcases hkind with rfl | rfl | ⟨rfl, hx⟩
  · obtain ⟨t, hexec, ⟨hserial, hgrade, hdissolve, hdone⟩, hrest⟩ := exec_regradeScene h hname hlisted hfree
    refine ⟨t, hexec, ⟨?_, fun _ => ⟨hgrade, hdissolve, hdone⟩, fun h' => absurd h' (by decide),
      fun h' => absurd h' (by decide)⟩, hrest⟩
    simpa using hserial
  · obtain ⟨t, hexec, ⟨hserial, hgrade, hdissolve, hdone⟩, hrest⟩ := exec_storeLive h hname hlisted hfree
    refine ⟨t, hexec, ⟨?_, fun h' => absurd h' (by decide), fun h' => absurd h' (by decide),
      fun _ => ⟨hgrade, hdissolve, hdone⟩⟩, hrest⟩
    rw [if_neg fun h' => absurd h'.1 (by decide)]
    exact hserial
  · obtain ⟨t, hexec, ⟨hserial, hdissolve, hgrade, hdone⟩, hrest⟩ := exec_setDissolve h hname hx hlisted hfree
    refine ⟨t, hexec, ⟨?_, fun h' => absurd h' (by decide), fun _ => ⟨hdissolve, hgrade, hdone⟩,
      fun h' => absurd h' (by decide)⟩, hrest⟩
    rw [if_neg fun h' => absurd h'.1 (by decide)]
    exact hserial

end Sys2Proof.Proofs

/-! DELETE SCENE and CLEAR LIST (R107, R112). -/

namespace Sys2Proof.Proofs
open Sys2Proof.Machine

section Requests
variable {s : State} {i : Fin 32} {x : Slot}

theorem sameScenes_lone (i : Fin 32) (answer : State × Result) : SameScenes answer.1.cue (State.lone i answer).cue :=
  fun _ ha => read_lone i answer (not_inEntryResults_of_inScenes ha)

theorem SameScenes.law {m m' : Memory} {free : List Slot} (h : SameScenes m m') (hlaw : sceneListLaw m free) :
    sceneListLaw m' free :=
  law_congr hlaw (fun x _ hk => h.word x (by omega)) (h.word 0 (by omega))

theorem SameScenes.listed {m m' : Memory} (h : SameScenes m m') (x : Slot) :
    Machine.listed m' x = Machine.listed m x := by
  unfold Machine.listed
  rw [h.word x (by omega)]

theorem leaveSlot_tracker (s : State) (x : Slot) :
    (s.leaveSlot x).tracker =
      { s.tracker with
        current := if s.tracker.current = x then (scenePrev s.cue x).getD 0 else s.tracker.current } := by
  unfold State.leaveSlot
  split <;> rfl

/-! ### DELETE SCENE -/

/-- A scene unlinked and its slot freed. -/
def deletedMemory (m : Memory) (x : Slot) : Memory := freeSlot (unlinkScene m x) x

theorem slotWordAt_deletedMemory_self {m : Memory} {as bs : List Slot} {p : Slot} (h : ListLinks m (as ++ p :: x :: bs))
    {k : Nat} (h1 : 1 ≤ k) (hk : k < 32) : slotWordAt (deletedMemory m x) x k = slotWordAt m x k := by
  unfold deletedMemory
  rw [slotWordAt_freeSlot _ _ _ hk, if_neg fun h => by omega, slotWordAt_unlinkScene_self h hk]

theorem sceneNext_deletedMemory {m : Memory} {p : Slot} (hprev : scenePrev m x = some p) :
    sceneNext (deletedMemory m x) p = sceneNext m x := by
  have hword : slotWordAt (deletedMemory m x) p 1 = slotWord (sceneNext m x) := by
    unfold deletedMemory
    rw [slotWordAt_freeSlot _ _ _ (by omega), if_neg fun h => by omega, slotWordAt_unlinkScene _ _ _ (by omega),
      if_neg fun h => by omega, if_pos ⟨hprev, rfl⟩]
  rw [show sceneNext (deletedMemory m x) p = slotOfWord (slotWordAt (deletedMemory m x) p 1) from rfl, hword,
    slotOfWord_slotWord]

/-- The state a deletion leaves before its entry is finished. -/
def State.deleted (s : State) (x : Slot) : State :=
  { s.leaveSlot x with
    cue := deletedMemory s.cue x
    requests := { s.requests with freeStack := x :: s.requests.freeStack } }

theorem deleteScene_of_free {p : Slot} (h : movableSlotA s.cue i = some x) (hair : s.slotOnAir x = false)
    (hprev : scenePrev s.cue x = some p) :
    s.deleteScene i =
      (State.deleted s x, { code := .ok, a := slotDWord p, b := 0 }) := by
  unfold State.deleteScene
  rw [h]
  dsimp only
  rw [if_neg (Bool.eq_false_iff.mp hair), hprev]
  rfl

/-- The cells a deletion writes. -/
def inDeleted (m : Memory) (x p : Slot) (a : Nat) : Prop :=
  a = slotBase x ∨ a = slotBase p + 1 ∨ ∃ y, sceneNext m x = some y ∧ a = slotBase y + 2

theorem changesWithin_deletedMemory {m : Memory} {p : Slot} (hprev : scenePrev m x = some p) :
    Memory.ChangesWithin (inDeleted m x p) m (deletedMemory m x) :=
  (changesWithin_unlinkScene m (fun q hq => .inr (.inl (by rw [Option.some.inj (hprev.symm.trans hq)])))
    fun y hy => .inr (.inr ⟨y, hy, rfl⟩)).trans
    (changesWithin_write _ 0 (.inl rfl) (slotBase_add_lt (k := 0) (by omega)))

theorem inScenes_slotBase_add (x : Slot) {k : Nat} (hk : k < 32) : inScenes (slotBase x + k) := by
  have := slotBase_bounds x
  unfold inScenes
  omega

theorem inScenes_of_inDeleted {m : Memory} {p : Slot} {a : Nat} (h : inDeleted m x p a) : inScenes a := by
  rcases h with rfl | rfl | ⟨y, -, rfl⟩
  · exact inScenes_slotBase_add x (k := 0) (by omega)
  · exact inScenes_slotBase_add p (by omega)
  · exact inScenes_slotBase_add y (by omega)

/-- Settles O41: the scene unlinked, its slot freed and pushed, the current slot moved off it. -/
theorem deleteSceneFreesSlot : Obligations.DeleteSceneFreesSlot := by
  intro s i x h hlaw hname hx hlisted hfree
  obtain ⟨l, hl, -⟩ := id hlaw
  obtain ⟨hlinks, hstates⟩ := isSceneList_iff.mp hl
  obtain ⟨as, p, bs, rfl⟩ := hlinks.exists_pred (hstates.listed_iff.mp hlisted) hx
  have hprev : scenePrev s.cue x = some p := hlinks.prev rfl
  have htake := taken_deleteScene h
  rw [deleteScene_of_free (s := s.takeActiveFlag) (movableSlotA_eq_some hname hlisted hx)
    (slotOnAir_eq_false (s := s.takeActiveFlag) hfree) hprev] at htake
  obtain ⟨hexec, hafter⟩ := afterRequest_of_answer (touched := inDeleted s.cue x p) h htake
    (by constructor <;> simp only [State.deleted, State.leaveSlot_frame]
        exact fun a ha => (changesWithin_deletedMemory hprev).read fun hin => ha (.inl hin)) fun a => inScenes_of_inDeleted
  have hsame := sameScenes_lone i (State.deleted s.takeActiveFlag x, { code := .ok, a := slotDWord p, b := 0 })
  have hdeleted : sceneListLaw (deletedMemory s.cue x) (x :: s.requests.freeStack) := law_delete hlaw hx hlisted
  refine ⟨_, p, hexec, hprev, finished_lone i _ rfl rfl rfl, by simp [State.deleted], ?_, ?_, ?_, fun k h1 hk => ?_, ?_,
    hafter⟩
  · have hstack : (State.lone i (State.deleted s.takeActiveFlag x, { code := .ok, a := slotDWord p, b := 0 })).requests.freeStack =
        x :: s.requests.freeStack := by simp [State.deleted]
    rw [hstack]
    exact hsame.law hdeleted
  · rw [hsame.listed, Bool.eq_false_iff]
    exact fun h' => ((listed_freeSlot_unlinkScene s.cue x x).mp h').2 rfl
  · rw [hsame.next]
    exact sceneNext_deletedMemory hprev
  · rw [hsame.word x hk]
    exact slotWordAt_deletedMemory_self hlinks h1 hk
  · have htracker := leaveSlot_tracker s.takeActiveFlag x
    rw [show scenePrev s.takeActiveFlag.cue x = some p from hprev] at htracker
    simp only [State.lone_frame]
    exact htracker

/-! ### CLEAR LIST -/

/-- Every scene after the base unlinked in list order, its slot pushed (R43, R112). -/
theorem clearScenes_eq {m : Memory} {bs : List Slot} (h : isSceneList m (0 :: bs)) {fuel : Nat} (hfuel : bs.length ≤ fuel)
    (stack : List Slot) (n : Nat) :
    ∃ m', clearScenes fuel m stack n = (m', bs.reverse ++ stack, n + bs.length) ∧ isSceneList m' [0] ∧
      ∀ k, k ≠ 1 → k < 32 → slotWordAt m' 0 k = slotWordAt m 0 k := by
  induction bs generalizing m fuel stack n with
  | nil =>
    refine ⟨m, ?_, h, fun _ _ _ => rfl⟩
    cases fuel with
    | zero => rfl
    | succ fuel =>
      unfold clearScenes
      rw [(isSceneList_iff.mp h).1.next (as := []) rfl]
      rfl
  | cons x bs ih =>
    obtain ⟨fuel, rfl⟩ := Nat.exists_eq_succ_of_ne_zero (by simp at hfuel; omega : fuel ≠ 0)
    have hlinks := (isSceneList_iff.mp h).1
    have hx : x ≠ 0 := fun heq => by
      have := hlinks.nodup
      simp [heq] at this
    have hnext : sceneNext m x ≠ some 0 := by
      rw [hlinks.next (as := [0]) rfl]
      intro heq
      have hmem := List.mem_of_mem_head? heq
      exact (List.nodup_cons.mp hlinks.nodup).1 (List.mem_cons_of_mem _ hmem)
    obtain ⟨m', heq, hlist, hwords⟩ := ih (isSceneList_delete (as := []) h) (by simpa using hfuel) (x :: stack) (n + 1)
    refine ⟨m', ?_, hlist, fun k h1 hk => ?_⟩
    · unfold clearScenes
      rw [hlinks.next (as := []) rfl]
      dsimp only [List.head?_cons]
      rw [heq, List.reverse_cons, List.append_assoc, List.length_cons]
      simp only [List.cons_append, List.nil_append, Nat.add_assoc, Nat.add_comm 1]
    · rw [hwords k h1 hk, slotWordAt_freeSlot _ _ _ hk, if_neg fun h' => hx h'.1.symm, slotWordAt_unlinkScene _ _ _ hk,
        if_neg fun h' => hnext h'.1, if_neg fun h' => h1 h'.2]

/-- The state CLEAR LIST leaves before its entry is finished. -/
def State.cleared (s : State) (m : Memory) (bs : List Slot) : State :=
  { s.setCurrent 0 with
    cue := m, requests := { s.requests with freeStack := bs.reverse ++ s.requests.freeStack } }

theorem clearList_of_underWay (h : s.pass.state.underWay = true) : s.clearList = (s, refusedWith .notNow) := if_pos h

/-- Settles O44, by the pass state. -/
theorem clearListLeavesBaseScene : Obligations.ClearListLeavesBaseScene := by
  intro s i l h hl
  by_cases hpass : s.pass.state.underWay = true
  · obtain ⟨t, hexec, hdone, htracker, hstack, -, hafter⟩ :=
      refuses_of_answer h (taken_clearList h) (clearList_of_underWay (s := s.takeActiveFlag) hpass) rfl
    exact ⟨t, hexec, fun _ => ⟨hdone, htracker, hstack, hafter⟩, fun hidle => absurd hpass (not_underWay_iff.mpr hidle)⟩
  · have hlinks := (isSceneList_iff.mp hl).1
    obtain ⟨bs, rfl⟩ := hlinks.exists_tail
    have hlength := length_le_of_nodup hlinks.nodup
    rw [List.length_cons] at hlength
    obtain ⟨m', hclear, hlist, hwords⟩ := clearScenes_eq hl (fuel := 1023) (by omega) s.requests.freeStack 0
    have hanswer : s.takeActiveFlag.clearList =
        (State.cleared s.takeActiveFlag m' bs, { code := .ok, a := natDWord (0 + bs.length), b := 0 }) := by
      unfold State.clearList
      rw [if_neg (show ¬s.takeActiveFlag.pass.state.underWay = true from hpass),
        show s.takeActiveFlag.cue = s.cue from rfl,
        show s.takeActiveFlag.requests.freeStack = s.requests.freeStack from rfl, hclear]
      rfl
    have htake := taken_clearList h
    have hcue : Memory.ChangesWithin inSceneFields s.cue m' := by
      have := changesWithin_clearScenes 1023 s.cue s.requests.freeStack 0
      rwa [hclear] at this
    rw [hanswer] at htake
    obtain ⟨hexec, hafter⟩ := afterRequest_of_answer (touched := inSceneFields) h htake
      ⟨rfl, rfl, rfl, rfl, rfl, rfl, rfl, rfl, rfl, rfl, rfl, rfl,
        fun a ha => hcue.read fun hin => ha (.inl hin)⟩ fun a => inScenes_of_inSceneFields
    have hsame := sameScenes_lone i
      (State.cleared s.takeActiveFlag m' bs, { code := .ok, a := natDWord (0 + bs.length), b := 0 })
    refine ⟨_, hexec, fun hunder => absurd (underWay_iff.mpr hunder) hpass, fun _ => ⟨?_, ?_, by simp [State.cleared],
      by simp [State.cleared, State.setCurrent], fun k h1 hk => ?_, hafter⟩⟩
    · exact finished_lone i _ rfl (by simp) rfl
    · exact isSceneList_congr hlist (fun y k hk => hsame.word y (by omega)) (hsame.word 0 (by omega))
    · exact (hsame.word 0 hk).trans (hwords k h1 hk)

end Requests

end Sys2Proof.Proofs

/-! INSERT SCENE and MOVE SCENE (R106, R108). -/

namespace Sys2Proof.Proofs
open Sys2Proof.Machine

/-! ### A scene made in a slot -/

/-- The fields a slot is taken with (R48, R51). -/
structure NewScene where
  start : Int
  dissolve : Int
  origin : Word
  mark : Word
  tag : Option DWord
  grade : Grade

/-- A scene made in slot x after slot c: its fields and links, and what stands (R43, R47, R51). -/
structure SceneMade (m m' : Memory) (c x : Slot) (n : NewScene) : Prop where
  next_pred : sceneNext m' c = some x
  prev : scenePrev m' x = some c
  next : sceneNext m' x = sceneNext m c
  start : sceneStart m' x = n.start
  dissolve : slotWordAt m' x 5 = signedWord n.dissolve
  origin : slotWordAt m' x 6 = n.origin
  serial : slotWordAt m' x 7 = slotWordAt m x 7 + 1
  mark : slotWordAt m' x 8 = n.mark
  tag : sceneTag m' x = n.tag
  grade : ∀ k : Fin 10, slotWordAt m' x (12 + k.val) = signedWord n.grade[k]
  other : ∀ (y : Slot) (k : Nat), y ≠ x → k < 32 → ¬(y = c ∧ k = 1) → ¬(sceneNext m c = some y ∧ k = 2) →
    slotWordAt m' y k = slotWordAt m y k

theorem sceneNext_of_word {m : Memory} {x : Slot} {o : Option Slot} (h : slotWordAt m x 1 = slotWord o) :
    sceneNext m x = o := by
  unfold sceneNext
  rw [h, slotOfWord_slotWord]

theorem scenePrev_of_word {m : Memory} {x : Slot} {o : Option Slot} (h : slotWordAt m x 2 = slotWord o) :
    scenePrev m x = o := by
  unfold scenePrev
  rw [h, slotOfWord_slotWord]

theorem slotWordAt_linkScene_other {m : Memory} {x c : Slot} {fields : List (Nat × Word)} (hf : FieldCells x fields)
    (hcx : c ≠ x) (hsucc : sceneNext m c ≠ some x) {y : Slot} {k : Nat} (hyx : y ≠ x) (hk : k < 32)
    (hnext : ¬(y = c ∧ k = 1)) (hprev : ¬(sceneNext m c = some y ∧ k = 2)) :
    slotWordAt (linkScene m x c fields) y k = slotWordAt m y k := by
  by_cases hlink : k ≤ 2 ∨ k = 7
  · rw [slotWordAt_linkScene hf hcx hsucc y hlink, if_neg hyx, if_neg hnext, if_neg hprev]
  · rw [slotWordAt_linkScene_field _ _ _ _ hk (by omega) (by omega), slotWordAt_writeAll_fields hf m hk (.inl hyx)]

section Made
variable {m : Memory} {c x : Slot} {n : NewScene}

theorem sceneMade_link (tagWords : DWord) (htag : ∀ v, n.tag = some v → tagWords = v) (hrange : inRange n.start)
    (hcx : c ≠ x) (hsucc : sceneNext m c ≠ some x) :
    SceneMade m
      (linkScene m x c (newSceneCells x n.start n.dissolve n.origin n.mark n.tag.isSome tagWords n.grade)) c x n := by
  let cells := newSceneCells x n.start n.dissolve n.origin n.mark n.tag.isSome tagWords n.grade
  have hcells : FieldCells x cells := fieldCells_newSceneCells
  have hlink (y : Slot) {k : Nat} (hk : k ≤ 2 ∨ k = 7) := slotWordAt_linkScene (m := m) hcells hcx hsucc y hk
  have hfield {k : Nat} {w : Word} (hk : k < 32) (h2 : 2 < k) (h7 : k ≠ 7) (hmem : (slotBase x + k, w) ∈ cells) :
      slotWordAt (linkScene m x c cells) x k = w := by
    rw [slotWordAt_linkScene_field _ _ _ _ hk h2 h7]
    exact slotWordAt_newScene m hmem
  have h9 : slotWordAt (linkScene m x c cells) x 9 = boolWord n.tag.isSome :=
    hfield (by omega) (by omega) (by omega) (by simp [cells, newSceneCells])
  have h10 : slotWordAt (linkScene m x c cells) x 10 = highWord tagWords :=
    hfield (by omega) (by omega) (by omega) (by simp [cells, newSceneCells, pairCells])
  have h11 : slotWordAt (linkScene m x c cells) x 11 = lowWord tagWords :=
    hfield (by omega) (by omega) (by omega) (by simp [cells, newSceneCells, pairCells])
  constructor
  case next_pred =>
    refine sceneNext_of_word ?_
    rw [hlink c (by omega), if_neg hcx, if_pos ⟨rfl, rfl⟩]
  case prev =>
    refine scenePrev_of_word ?_
    rw [hlink x (by omega), if_pos rfl]
    rfl
  case next =>
    refine sceneNext_of_word ?_
    rw [hlink x (by omega), if_pos rfl]
    rfl
  case start =>
    rw [sceneStart_linkScene_new]
    exact sceneStart_newScene m hrange
  case dissolve => exact hfield (by omega) (by omega) (by omega) (by simp [cells, newSceneCells])
  case origin => exact hfield (by omega) (by omega) (by omega) (by simp [cells, newSceneCells])
  case serial =>
    rw [hlink x (by omega), if_pos rfl]
    rfl
  case mark => exact hfield (by omega) (by omega) (by omega) (by simp [cells, newSceneCells])
  case tag =>
    have hpair : Memory.readPair (linkScene m x c cells) (slotBase x + 10) = tagWords := readPair_of_words h10 h11
    unfold sceneTag
    rw [h9, hpair]
    cases htag' : n.tag with
    | none => rfl
    | some v =>
      rw [htag v htag']
      rfl
  case grade =>
    intro k
    exact hfield (by omega) (by omega) (by omega) (List.mem_append_right _ (mem_gradeCells_of x n.grade k))
  case other => exact fun y k hyx hk hnext hprev => slotWordAt_linkScene_other hcells hcx hsucc hyx hk hnext hprev

end Made

/-- The tag words a scene is made with: the tag, or a free value (log 7). -/
theorem orFree_fst_of_some {s : State} {o : Option DWord} {v : DWord} (h : o = some v) : (s.orFree o).1 = v := by
  subst h
  rfl

theorem inSlotFields_lt {x : Slot} {a : Nat} (h : inSlotFields x a) : a < cueSize := by
  have := slotBase_bounds x
  unfold inSlotFields at h
  unfold cueSize
  omega

/-- A scene made at a free START in the slot on top of the stack: its place, its words and the law of the list. -/
theorem exists_sceneMade {s : State} {x : Slot} {rest : List Slot} {n : NewScene} (hlaw : sceneListLaw s.cue (x :: rest))
    (hrange : inRange n.start) (hnew : ∀ y : Slot, listed s.cue y = true → sceneStart s.cue y ≠ n.start) :
    ∃ c, coveringScene s.cue n.start = c ∧ listed s.cue c = true ∧ covers s.cue c n.start = true ∧ c ≠ x ∧
      sceneNext s.cue c ≠ some x ∧
      (let m' := (s.makeScene x rest n.start n.dissolve n.origin n.mark n.tag n.grade).cue
       SceneMade s.cue m' c x n ∧ listed m' x = true ∧ sceneListLaw m' rest ∧
       Memory.ChangesWithin
         (fun a => inSlotFields x a ∨ a = slotBase c + 1 ∨ ∃ y, sceneNext s.cue c = some y ∧ a = slotBase y + 2)
         s.cue m') := by
  let cells := newSceneCells x n.start n.dissolve n.origin n.mark n.tag.isSome (s.orFree n.tag).1 n.grade
  obtain ⟨as, c, bs, hl, hcover, hcovers, hx, hlist, hlaw'⟩ := exists_list_link (fields := cells) hlaw
    fieldCells_newSceneCells (sceneStart_newScene s.cue hrange) hrange hnew
  obtain ⟨hlinks, hstates⟩ := isSceneList_iff.mp hl
  have hcx : c ≠ x := fun heq => hx (by simp [heq])
  have hsucc : sceneNext s.cue c ≠ some x := by
    rw [hlinks.next rfl]
    exact fun heq => hx (List.mem_append_right _ (List.mem_cons_of_mem _ (List.mem_of_mem_head? heq)))
  have hcue : (s.makeScene x rest n.start n.dissolve n.origin n.mark n.tag n.grade).cue = linkScene s.cue x c cells := by
    rw [← hcover]
    unfold State.makeScene
    simp
    rfl
  rw [hcover] at hlist hlaw'
  refine ⟨c, hcover, hstates.listed_iff.mpr (by simp), hcovers, hcx, hsucc, ?_⟩
  dsimp only
  rw [hcue]
  refine ⟨sceneMade_link _ (fun v hv => orFree_fst_of_some hv) hrange hcx hsucc, ?_, hlaw', ?_⟩
  · exact (isSceneList_iff.mp hlist).2.listed_iff.mpr (by simp)
  · exact changesWithin_linkScene _
      (fun d hd => ⟨.inl (newSceneCells_inSlotFields d hd), inSlotFields_lt (newSceneCells_inSlotFields d hd)⟩)
      (fun k hk => .inl (inSlotFields_add hk)) (.inr (.inl rfl)) fun y hy => .inr (.inr ⟨y, hy, rfl⟩)

theorem SceneMade.of_sameScenes {m m' m'' : Memory} {c x : Slot} {n : NewScene} (h : SceneMade m m' c x n)
    (hsame : SameScenes m' m'') : SceneMade m m'' c x n where
  next_pred := (hsame.next c).trans h.next_pred
  prev := (hsame.prev x).trans h.prev
  next := (hsame.next x).trans h.next
  start := (hsame.start x).trans h.start
  dissolve := (hsame.word x (by omega)).trans h.dissolve
  origin := (hsame.word x (by omega)).trans h.origin
  serial := (hsame.word x (by omega)).trans h.serial
  mark := (hsame.word x (by omega)).trans h.mark
  tag := (hsame.tag x).trans h.tag
  grade := fun k => (hsame.word x (by omega)).trans (h.grade k)
  other := fun y k hyx hk hnext hprev => (hsame.word y hk).trans (h.other y k hyx hk hnext hprev)

/-! ### INSERT SCENE -/

section Insert
variable {s : State} {i : Fin 32} {x : Slot}

/-- What INSERT SCENE makes of its operands (R104, R106). -/
def insertedScene (m : Memory) (i : Fin 32) : NewScene where
  start := operandPosition m i
  dissolve := clampDissolve (operandDissolve m i)
  origin := originInserted
  mark := 0
  tag := operandTag m i
  grade := clampGrade (operandGrade m i)

/-- A slot taken for a scene. -/
def State.sceneMade (s : State) (x : Slot) (rest : List Slot) (n : NewScene) : State :=
  s.makeScene x rest n.start n.dissolve n.origin n.mark n.tag n.grade

/-- The code of an INSERT SCENE: OK where nothing was clamped (R106). -/
def insertCode (m : Memory) (i : Fin 32) : ResultCode :=
  okOr (decide (clampCount fullMask (operandGrade m i) ≠ 0 ∨ clampDissolve (operandDissolve m i) ≠ operandDissolve m i))

theorem insertScene_of_free {rest : List Slot} (hin : inRange (operandPosition s.cue i))
    (hstart : startingAt s.cue (operandPosition s.cue i) = none)
    (hair : s.positionOnAir (operandPosition s.cue i) = false) (hfree : s.requests.freeStack = x :: rest) :
    s.insertScene i =
      (State.sceneMade s x rest (insertedScene s.cue i),
        { code := insertCode s.cue i, a := slotDWord x,
          b := wordDWord (sceneSerial (State.sceneMade s x rest (insertedScene s.cue i)).cue x) }) := by
  unfold State.insertScene
  rw [if_neg (by simp [frameInRange_iff.mpr hin]), hstart]
  dsimp only
  rw [if_neg (Bool.eq_false_iff.mp hair), hfree]
  rfl

theorem clampParam_eq_self_iff {k : Fin 10} {v : Int} : clampParam k v = v ↔ paramInRange k v := by
  refine ⟨fun h => h ▸ clampParam_inRange k v, fun h => ?_⟩
  obtain ⟨hlow, hhigh⟩ := paramInRange_iff.mp h
  unfold clampParam clampInt
  omega

theorem clampDissolve_eq_self_iff {d : Int} : clampDissolve d = d ↔ 0 ≤ d ∧ d ≤ 250 := by
  unfold clampDissolve clampInt
  omega

theorem clampedAmong_eq_zero_iff {flag : Fin 10 → Bool} {v : Fin 10 → Int} :
    clampedAmong flag v = 0 ↔ ∀ k, flag k = true → clampParam k (v k) = v k := by
  unfold clampedAmong
  rw [List.countP_eq_zero]
  simp

theorem insertCode_eq_zero_iff (m : Memory) (i : Fin 32) :
    (insertCode m i).word.toNat = 0 ↔
      (∀ k : Fin 10, paramInRange k (entryWord m i (19 + k.val)).toInt) ∧
        0 ≤ (entryWord m i 14).toInt ∧ (entryWord m i 14).toInt ≤ 250 := by
  have hcount : clampCount fullMask (operandGrade m i) =
      clampedAmong (fun _ => true) fun k => (entryWord m i (19 + k.val)).toInt :=
    clampedAmong_congr (fun k => by simp [fullMask]) (operandGrade_getElem m i)
  have hgrade : clampCount fullMask (operandGrade m i) = 0 ↔
      ∀ k : Fin 10, paramInRange k (entryWord m i (19 + k.val)).toInt := by
    rw [hcount, clampedAmong_eq_zero_iff]
    exact forall_congr' fun k => ⟨fun h => clampParam_eq_self_iff.mp (h rfl), fun h _ => clampParam_eq_self_iff.mpr h⟩
  have hdissolve : clampDissolve (operandDissolve m i) = operandDissolve m i ↔
      0 ≤ (entryWord m i 14).toInt ∧ (entryWord m i 14).toInt ≤ 250 := clampDissolve_eq_self_iff
  unfold insertCode
  rw [okOr_code, ← hgrade, ← hdissolve]
  by_cases hcount' : clampCount fullMask (operandGrade m i) = 0
  · by_cases hd : clampDissolve (operandDissolve m i) = operandDissolve m i
    · simp [hcount', hd]
    · simp [hd]
  · simp [hcount']

theorem insertCode_le (m : Memory) (i : Fin 32) : (insertCode m i).word.toNat ≤ 1 := by
  unfold insertCode
  rw [okOr_code]
  split_ifs <;> omega

end Insert

/-- Settles O39: the scene made in the slot on top of the stack. -/
theorem insertSceneLinksNewScene : Obligations.InsertSceneLinksNewScene := by
  intro s i x free h hstack hlaw hin hnew hfree
  let n := insertedScene s.cue i
  let u := State.sceneMade s.takeActiveFlag x free n
  have hnone : startingAt s.cue (operandPosition s.cue i) = none := by
    obtain ⟨l, hl, -⟩ := hlaw
    obtain ⟨hlinks, hstates⟩ := isSceneList_iff.mp hl
    exact hlinks.startingAt_none.mpr fun y hy => hnew y (hstates.listed_iff.mpr hy)
  obtain ⟨c, -, hlistedC, hcovers, hcx, hsucc, hmade, hlisted, hlaw', hcue⟩ :=
    exists_sceneMade (s := s.takeActiveFlag) (n := n) hlaw hin hnew
  have htake := taken_insertScene h
  rw [insertScene_of_free (s := s.takeActiveFlag) hin hnone (positionOnAir_eq_false (s := s.takeActiveFlag) hfree hin)
    hstack] at htake
  obtain ⟨hexec, hafter⟩ := afterRequest_of_answer
    (touched := fun a => inSlotFields x a ∨ a = slotBase c + 1 ∨ ∃ y, sceneNext s.cue c = some y ∧ a = slotBase y + 2) h htake
    (by constructor <;> try simp only [State.sceneMade, State.makeScene_frame]
        · rw [makeScene_requests]
        · exact fun a ha => hcue.read fun hin => ha (.inl hin)) (by
    rintro a (ha | rfl | ⟨y, -, rfl⟩)
    · exact inScenes_of_inSceneFields ⟨x, ha⟩
    · exact inScenes_slotBase_add c (by omega)
    · exact inScenes_slotBase_add y (by omega))
  have hsame := sameScenes_lone i
    (u, { code := insertCode s.cue i, a := slotDWord x, b := wordDWord (sceneSerial u.cue x) })
  obtain ⟨hnext, hprev, hnext', hstart, hdissolve, horigin, hserial, hmark, htag, hgrade, -⟩ :=
    SceneMade.of_sameScenes hmade hsame
  refine ⟨_, (insertCode s.cue i).word.toNat, c, hexec, ⟨hlistedC, hcovers⟩, ?_, insertCode_eq_zero_iff s.cue i,
    insertCode_le s.cue i, ?_, ?_, ?_, ?_, hnext, hprev, hnext', hstart, ?_, horigin, hserial, hmark, htag,
    fun k => ?_, hafter⟩
  · exact finished_lone i _ rfl rfl (congrArg wordDWord hmade.serial)
  · simp [State.sceneMade, makeScene_requests]
  · exact hsame.law hlaw'
  · simp [State.sceneMade]
  · exact (hsame.listed x).trans hlisted
  · exact sceneDissolve_of_word hdissolve
  · have hk : (sceneGrade (State.lone i
        (u, { code := insertCode s.cue i, a := slotDWord x, b := wordDWord (sceneSerial u.cue x) })).cue x)[k] =
        n.grade[k] := sceneGrade_of_signedWord (hgrade k) (clampGrade_inRange _ k)
    rw [show (clampParam k (entryWord s.cue i (19 + k.val)).toInt) = n.grade[k] by
      rw [show n.grade = clampGrade (operandGrade s.cue i) from rfl, clampGrade_getElem, operandGrade_getElem]]
    exact hk

/-! ### MOVE SCENE -/

section Move
variable {s : State} {i : Fin 32} {x : Slot}

/-- The state a move leaves before its entry is finished. -/
def State.moved (s : State) (x : Slot) (p : Int) : State := { s.leaveSlot x with cue := moveSceneTo s.cue x p }

theorem moveScene_of_free (h : movableSlotA s.cue i = some x) (hin : inRange (operandPosition s.cue i))
    (hstart : startingAtOther s.cue x (operandPosition s.cue i) = none) (hslot : s.slotOnAir x = false)
    (hair : s.positionOnAir (operandPosition s.cue i) = false) :
    s.moveScene i =
      (State.moved s x (operandPosition s.cue i),
        { code := .ok, a := wordDWord (sceneSerial (moveSceneTo s.cue x (operandPosition s.cue i)) x),
          b := signedDWord (sceneStart s.cue x) }) := by
  unfold State.moveScene
  rw [h]
  dsimp only
  rw [if_neg (by simp [frameInRange_iff.mpr hin]), hstart]
  dsimp only
  rw [if_neg (by rw [hslot, hair]; exact Bool.false_ne_true)]
  rfl

/-- The words of the scene moved, and of the others but for their links (R47, R108). -/
theorem slotWordAt_moveSceneTo {m : Memory} {c : Slot} {p : Int} (hcover : coveringScene (unlinkScene m x) p = c)
    (hcx : c ≠ x) (hsucc : sceneNext (unlinkScene m x) c ≠ some x) (hrange : inRange p) :
    sceneStart (moveSceneTo m x p) x = p ∧ slotWordAt (moveSceneTo m x p) x 7 = slotWordAt m x 7 + 1 ∧
    (∀ k, k = 5 ∨ k = 6 ∨ (8 ≤ k ∧ k < 32) → slotWordAt (moveSceneTo m x p) x k = slotWordAt m x k) ∧
    (∀ (y : Slot) (k : Nat), y ≠ x → k < 32 → k ≠ 1 → k ≠ 2 →
      slotWordAt (moveSceneTo m x p) y k = slotWordAt m y k) := by
  have hunlinked (y : Slot) {k : Nat} (hk : k < 32) (h1 : k ≠ 1) (h2 : k ≠ 2) :
      slotWordAt (unlinkScene m x) y k = slotWordAt m y k := by
    rw [slotWordAt_unlinkScene m x y hk, if_neg fun h => h2 h.2, if_neg fun h => h1 h.2]
  have hcells := fieldCells_pairStart x (signedDWord p)
  have hmoved : moveSceneTo m x p = linkScene (unlinkScene m x) x c (pairCells (slotBase x + 3) (signedDWord p)) := by
    rw [← hcover]
    rfl
  rw [hmoved]
  refine ⟨?_, ?_, fun k hk => ?_, fun y k hyx hk h1 h2 => ?_⟩
  · rw [sceneStart_linkScene_new]
    exact sceneStart_pairStart _ x hrange
  · rw [slotWordAt_linkScene hcells hcx hsucc x (by omega), if_pos rfl]
    change slotWordAt (unlinkScene m x) x 7 + 1 = _
    rw [hunlinked x (by omega) (by omega) (by omega)]
  · rw [slotWordAt_linkScene_field _ _ _ _ (by omega) (by omega) (by omega),
      ← hunlinked x (k := k) (by omega) (by omega) (by omega)]
    refine Memory.read_writeAll_other _ _ _ fun d hd heq => ?_
    simp only [pairCells, List.mem_cons, List.not_mem_nil, or_false] at hd
    rcases hd with rfl | rfl <;> dsimp only at heq <;> omega
  · rw [slotWordAt_linkScene_other hcells hcx hsucc hyx hk (fun h => h1 h.2) (fun h => h2 h.2), hunlinked y hk h1 h2]

end Move

/-- Settles O42: the scene unlinked at its old place and linked at its new START. -/
theorem moveSceneRelinksScene : Obligations.MoveSceneRelinksScene := by
  intro s i x h hlaw hname hx hlisted hin hnew hedit hplace
  let p := operandPosition s.cue i
  obtain ⟨l, hl, -⟩ := id hlaw
  obtain ⟨hlinks, hstates⟩ := isSceneList_iff.mp hl
  obtain ⟨as, q, bs, rfl⟩ := hlinks.exists_pred (hstates.listed_iff.mp hlisted) hx
  have hperm : (as ++ q :: x :: bs).Perm (x :: (as ++ q :: bs)) := by
    rw [List.append_cons, List.append_cons as q bs]
    exact List.perm_middle
  have hout : x ∉ as ++ q :: bs := (List.nodup_cons.mp (hperm.nodup_iff.mp hlinks.nodup)).1
  have hnew' (y : Slot) (hy : y ∈ as ++ q :: bs) : sceneStart s.cue y ≠ p :=
    hnew y (hstates.listed_iff.mpr (hperm.mem_iff.mpr (List.mem_cons_of_mem _ hy))) fun heq => hout (heq ▸ hy)
  obtain ⟨as', c, bs', -, hcover, hmoved, hcx, hsucc⟩ := exists_list_moveSceneTo hl hin hnew'
  obtain ⟨hstart, hserial, hkept, hothers⟩ := slotWordAt_moveSceneTo hcover hcx hsucc hin
  have hnone : startingAtOther s.cue x p = none :=
    hlinks.startingAtOther_none.mpr fun y hy => hnew y (hstates.listed_iff.mpr hy)
  have htake := taken_moveScene h
  rw [moveScene_of_free (s := s.takeActiveFlag) (movableSlotA_eq_some hname hlisted hx) hin hnone
    (slotOnAir_eq_false (s := s.takeActiveFlag) hedit) (positionOnAir_eq_false (s := s.takeActiveFlag) hplace hin)]
    at htake
  obtain ⟨hexec, hafter⟩ := afterRequest_of_answer (touched := inSceneFields) h htake
    (by constructor <;> try simp only [State.moved, State.leaveSlot_frame]
        exact fun a ha => (changesWithin_moveSceneTo s.cue x p).read fun hin => ha (.inl hin))
    fun a => inScenes_of_inSceneFields
  have hsame := sameScenes_lone i
    (State.moved s.takeActiveFlag x p,
      { code := .ok, a := wordDWord (sceneSerial (moveSceneTo s.cue x p) x), b := signedDWord (sceneStart s.cue x) })
  have htracker := leaveSlot_tracker s.takeActiveFlag x
  refine ⟨_, hexec, ?_, by simp [State.moved], ?_, ?_, ?_, ?_, fun k hk => ?_, fun y k hyx hk h1 h2 => ?_, fun hne => ?_,
    fun r hcurrent hr => ?_, hafter⟩
  · exact finished_lone i _ rfl (congrArg wordDWord hserial) rfl
  · have hstack : (State.lone i (State.moved s.takeActiveFlag x p,
        { code := .ok, a := wordDWord (sceneSerial (moveSceneTo s.cue x p) x),
          b := signedDWord (sceneStart s.cue x) })).requests.freeStack = s.requests.freeStack := by simp [State.moved]
    have hkeeps := hsame.law (law_move hlaw hx hlisted hin hnew)
    rw [← hstack] at hkeeps
    exact hkeeps
  · refine (hsame.listed x).trans ?_
    exact (isSceneList_iff.mp hmoved).2.listed_iff.mpr (by simp)
  · exact (hsame.start x).trans hstart
  · exact (hsame.word x (by omega)).trans hserial
  · exact (hsame.word x (by omega)).trans (hkept k hk)
  · exact (hsame.word y hk).trans (hothers y k hyx hk h1 h2)
  · rw [show s.takeActiveFlag.tracker = s.tracker from rfl, if_neg hne] at htracker
    simp only [State.lone_frame]
    exact htracker
  · rw [show s.takeActiveFlag.tracker = s.tracker from rfl, if_pos hcurrent,
      show scenePrev s.takeActiveFlag.cue x = some r from hr] at htracker
    simp only [State.lone_frame]
    exact htracker

end Sys2Proof.Proofs

/-! The split: its pulse, its execution at an ACTIVE START, and the ripple it may meet (R129, R132 to R134). -/

namespace Sys2Proof.Proofs
open Sys2Proof.Machine

/-! ### The pulse -/

theorem splitPulse_pending (s : State) (pulse : Bool) :
    (s.splitPulse pulse).1.requests.splitPending =
      if pulse ∧ s.port.run = .running then some (s.requests.splitPending.getD s.sequencer.fieldFrame)
      else s.requests.splitPending := by
  unfold State.splitPulse
  split
  · cases h : s.requests.splitPending with
    | none => rfl
    | some f => exact h
  · rfl

theorem fieldStart_splitPending (s : State) (id : FieldIdentity) :
    (s.fieldStart id).requests.splitPending =
      if s.turnInversions.presentsPulse 6 ∧ s.port.run = .running then
        some (s.requests.splitPending.getD s.position.frame)
      else s.requests.splitPending := by
  have hframe : (State.fieldPlaced s id).1.sequencer.fieldFrame = s.position.frame := by
    rw [fieldPlaced_sequencer]
    rfl
  rw [(fieldStart_blocks s id).2.2.1, State.fieldCut, splitPulse_pending, presentsPulse_fieldTurned, hframe]
  simp [userSplit]

/-! ### The execution -/

section Executed
variable {s : State} {f : Int}

/-- The part with the flag and the split pending taken. -/
def State.splitTaken (s : State) : State :=
  { s with
    sequencer := { s.sequencer with activeStartTaken := true }
    requests := { s.requests with splitPending := none } }

theorem exec_activeStart_of_split (hrun : s.port.run = .running) (hopen : s.sequencer.activeStartTaken = false)
    (hread : s.engine.read = none) (hsplit : s.requests.splitPending = some f) :
    exec .activeStart s = .next (State.scan 4 ((State.splitTaken s).split f)).rippleVisits.raiseNotify := by
  have hsome : s.takeActiveFlag.executeSplit = (State.splitTaken s).split f := by
    unfold State.executeSplit
    rw [show s.takeActiveFlag.requests.splitPending = some f from hsplit]
    rfl
  rw [exec_activeStart_of_open hopen, finishLiveRead_of_none hread, State.passActiveStart, if_pos hrun,
    State.handleActiveStart, hsome]

theorem raiseNotify_of_not_due (h : s.requests.notifyDue = false) : s.raiseNotify = s :=
  if_neg (Bool.eq_false_iff.mp h)

/-- The handling that finds nothing to take and no ripple in flight does nothing. -/
theorem handled_idle (hentry : entryWord s.cue s.requests.takeIndex 0 ≠ 1) (hripple : s.requests.ripple = none)
    (hdue : s.requests.notifyDue = false) : (State.scan 4 s).rippleVisits.raiseNotify = s := by
  rw [scan_of_stops (scanStops_of_not_posted hentry), rippleVisits_of_none hripple, raiseNotify_of_not_due hdue]

theorem not_inScenes_or_inRing_entryBase_add {j : Fin 32} {k : Nat} (hk : k < 64) :
    ¬(inSceneFields (entryBase j + k) ∨ inRing (entryBase j + k)) := by
  rintro (h | h)
  · exact not_inScenes_entryBase_add hk (inScenes_of_inSceneFields h)
  · have := j.isLt
    unfold inRing entryBase requestBase at h
    omega

theorem changesWithin_makeSplit (s : State) (f : Int) (cover x : Slot) (rest : List Slot) :
    Memory.ChangesWithin inSceneFields s.cue (s.makeSplit f cover x rest).cue :=
  changesWithin_makeScene s x rest f 0 originSplit (sceneMark s.cue cover) none (s.splitGrade cover)

theorem changesWithin_split (s : State) (f : Int) :
    Memory.ChangesWithin (fun a => inSceneFields a ∨ inRing a) s.cue (s.split f).cue := by
  have hhand (u : State) (r : Record) : Memory.ChangesWithin (fun a => inSceneFields a ∨ inRing a) u.cue (u.hand r).cue :=
    (changesWithin_hand u r).mono fun _ => .inr
  unfold State.split
  split
  · exact hhand _ _
  · dsimp only
    split
    · exact hhand _ _
    · split
      · exact hhand _ _
      · exact .trans ((changesWithin_makeSplit s f _ _ _).mono fun _ => .inl) (hhand _ _)

/-- A split leaves the request entries. -/
theorem entryWord_split (s : State) (f : Int) (j : Fin 32) {k : Nat} (hk : k < 64) :
    entryWord (s.split f).cue j k = entryWord s.cue j k :=
  entryWord_of_changesWithin (changesWithin_split s f) (not_inScenes_or_inRing_entryBase_add hk)

/-- A split dropped leaves its report alone (R133, R134). -/
theorem exec_split_of_dropped {s : State} {f : Int} {reason : SplitReason} {cover : Slot}
    (hrun : s.port.run = .running) (hopen : s.sequencer.activeStartTaken = false) (hread : s.engine.read = none)
    (hsplit : s.requests.splitPending = some f) (hripple : s.requests.ripple = none)
    (hdue : s.requests.notifyDue = false) (hentry : entryWord s.cue s.requests.takeIndex 0 ≠ 1)
    (hdropped : (State.splitTaken s).split f = (State.splitTaken s).hand (dropSplit f reason cover)) :
    exec .activeStart s =
      .next ((State.splitTaken s).hand
        { kind := .split, frame := f, slot := none, serial := 0, detail := [reason.code, natWord cover.val, 0, 0, 0] }) := by
  have hindex : ((State.splitTaken s).split f).requests.takeIndex = s.requests.takeIndex := by simp [State.splitTaken]
  have hidle : (State.scan 4 ((State.splitTaken s).split f)).rippleVisits.raiseNotify = (State.splitTaken s).split f := by
    refine handled_idle ?_ ?_ ?_
    · rw [entryWord_split _ _ _ (by omega), hindex]
      exact hentry
    · rw [hdropped]
      simpa [State.splitTaken] using hripple
    · simpa [State.splitTaken] using hdue
  rw [exec_activeStart_of_split hrun hopen hread hsplit, hidle, hdropped]
  rfl

theorem split_of_start {x : Slot} (h : startingAt s.cue f = some x) : s.split f = s.hand (dropSplit f .duplicate x) := by
  unfold State.split
  rw [h]

theorem split_of_recording (h : startingAt s.cue f = none) (hpass : s.pass.state = .recording) :
    s.split f = s.hand (dropSplit f .onAir (coveringScene s.cue f)) := by
  unfold State.split
  rw [h]
  exact if_pos (beq_iff_eq.mpr hpass)

theorem split_of_full (h : startingAt s.cue f = none) (hpass : s.pass.state ≠ .recording)
    (hfull : s.requests.freeStack = []) : s.split f = s.hand (dropSplit f .full (coveringScene s.cue f)) := by
  have hrecording : s.recording = false := beq_eq_false_iff_ne.mpr hpass
  unfold State.split
  rw [h]
  dsimp only
  rw [if_neg (Bool.eq_false_iff.mp hrecording), hfull]

/-- The SPLIT record of a split made (R134, R186). -/
def State.splitReport (s : State) (f : Int) (cover x : Slot) (serial : Word) : Record :=
  splitRecord f (some x) serial .ok (some cover) (sceneMark s.cue cover) s.bakesTrim (s.splitClamped cover)

theorem split_of_free {x : Slot} {rest : List Slot} (h : startingAt s.cue f = none) (hpass : s.pass.state ≠ .recording)
    (hfree : s.requests.freeStack = x :: rest) :
    s.split f =
      (s.makeSplit f (coveringScene s.cue f) x rest).hand
        (State.splitReport s f (coveringScene s.cue f) x
          (sceneSerial (s.makeSplit f (coveringScene s.cue f) x rest).cue x)) := by
  have hrecording : s.recording = false := beq_eq_false_iff_ne.mpr hpass
  unfold State.split
  rw [h]
  dsimp only
  rw [if_neg (Bool.eq_false_iff.mp hrecording), hfree]
  rfl

/-- What a split makes of the slot on top of the stack (R133). -/
def State.splitScene (s : State) (f : Int) (cover : Slot) : NewScene where
  start := f
  dissolve := 0
  origin := originSplit
  mark := sceneMark s.cue cover
  tag := none
  grade := s.splitGrade cover

/-- The split's record, its clamped sums counted where the trim is baked (R134). -/
theorem splitReport_eq (s : State) (f : Int) (cover x : Slot) (serial : Word) :
    State.splitReport s f cover x serial =
      (let bakes := s.setup.splitBakesTrim && s.engine.enable
       { kind := .split, frame := f, slot := some x, serial := serial
         detail :=
           [0, natWord cover.val, sceneMark s.cue cover, if bakes then 1 else 0,
             natWord (clampedAmong (fun _ => bakes) fun k => (sceneGrade s.cue cover)[k] + s.engine.deltas[k])] }) := by
  have hcount : s.splitClamped cover =
      clampedAmong (fun _ => s.bakesTrim) fun k => (sceneGrade s.cue cover)[k] + s.engine.deltas[k] := by
    unfold State.splitClamped State.splitSums
    cases hbakes : s.bakesTrim with
    | true => exact clampedAmong_congr (fun k => by simp [fullMask]) (addGrade_getElem _ _)
    | false => exact (clampedAmong_eq_zero_iff.mpr fun _ h => absurd h Bool.false_ne_true).symm
  unfold State.splitReport splitRecord
  rw [hcount]
  rfl

/-- A parameter written as a word and read back, whatever its value was read as (R37). -/
theorem sceneGrade_of_copied {m m' : Memory} {x y : Slot} {k : Fin 10}
    (h : slotWordAt m' x (12 + k.val) = signedWord (sceneGrade m y)[k]) : (sceneGrade m' x)[k] = (sceneGrade m y)[k] := by
  have hword : signedWord (sceneGrade m y)[k] = slotWordAt m y (12 + k.val) := by
    rw [sceneGrade_getElem]
    split
    · unfold signedWord
      rw [BitVec.ofInt_natCast]
      exact BitVec.ofNat_toNat _ _ |>.trans (BitVec.setWidth_eq _)
    · exact signedWord_of_toInt _
  rw [sceneGrade_getElem, sceneGrade_getElem, h, hword]

/-- The grade of a split's scene: the covering scene's, with the trim added and clamped where it is baked (R133). -/
theorem splitScene_grade {m' : Memory} {x cover : Slot}
    (h : ∀ k : Fin 10, slotWordAt m' x (12 + k.val) = signedWord (State.splitScene s f cover).grade[k]) (k : Fin 10) :
    (s.setup.splitBakesTrim = true ∧ s.engine.enable = true →
      (sceneGrade m' x)[k] = clampParam k ((sceneGrade s.cue cover)[k] + s.engine.deltas[k])) ∧
    (¬(s.setup.splitBakesTrim = true ∧ s.engine.enable = true) → (sceneGrade m' x)[k] = (sceneGrade s.cue cover)[k]) := by
  have hbakes : s.bakesTrim = true ↔ s.setup.splitBakesTrim = true ∧ s.engine.enable = true := Bool.and_eq_true_iff
  have hgrade : (State.splitScene s f cover).grade = s.splitGrade cover := rfl
  have hk := h k
  rw [hgrade] at hk
  unfold State.splitGrade at hk
  refine ⟨fun hbaked => ?_, fun hplain => ?_⟩
  · rw [if_pos (hbakes.mpr hbaked), State.splitSums, if_pos (hbakes.mpr hbaked)] at hk
    rw [← addGrade_getElem, ← clampGrade_getElem]
    exact sceneGrade_of_signedWord hk (clampGrade_inRange _ k)
  · rw [if_neg fun hb => hplain (hbakes.mp hb)] at hk
    exact sceneGrade_of_copied hk

end Executed

/-! ### The split made -/

section SplitMade
variable {s : State} {f : Int} {cover x : Slot} {free : List Slot}

/-- A split made, with what it leaves of the list and of cue memory (R133). -/
theorem split_made (hrange : inRange f) (hnew : ∀ y : Slot, listed s.cue y = true → sceneStart s.cue y ≠ f)
    (hcover : coveringScene s.cue f = cover) (hpass : s.pass.state ≠ .recording)
    (hstack : s.requests.freeStack = x :: free) (hlaw : sceneListLaw s.cue (x :: free)) :
    (s.split f).requests =
        { s.requests with freeStack := free, ripple := rippleAfterSplit s.cue cover x s.requests.ripple } ∧
      SceneMade s.cue (s.split f).cue cover x (State.splitScene s f cover) ∧ cover ≠ x ∧
      listed (s.split f).cue x = true ∧ sceneListLaw (s.split f).cue free ∧
      (s.hasRoom 1 → s.wrote (s.split f) [State.splitReport s f cover x (slotWordAt (s.split f).cue x 7)]) := by
  obtain ⟨c, hc, -, -, hcx, -, hmade, hlisted, hlaw', hcue⟩ := exists_sceneMade (n := State.splitScene s f cover) hlaw
    hrange hnew
  obtain rfl : c = cover := hc.symm.trans hcover
  have hnone : startingAt s.cue f = none := by
    obtain ⟨l, hl, -⟩ := hlaw
    obtain ⟨hlinks, hstates⟩ := isSceneList_iff.mp hl
    exact hlinks.startingAt_none.mpr fun y hy => hnew y (hstates.listed_iff.mpr hy)
  have hsplit := split_of_free hnone hpass hstack
  rw [hcover] at hsplit
  let made := s.makeSplit f c x free
  let r := State.splitReport s f c x (sceneSerial made.cue x)
  have hsame : SameScenes made.cue (made.hand r).cue := fun a ha =>
    (changesWithin_hand made r).read fun hr => by unfold inScenes at ha; unfold inRing at hr; omega
  have hserial : sceneSerial made.cue x = slotWordAt (made.hand r).cue x 7 := (hsame.word x (by omega)).symm
  rw [hsplit]
  refine ⟨?_, hmade.of_sameScenes hsame, hcx, (hsame.listed x).trans hlisted, hsame.law hlaw', fun hroom => ?_⟩
  · have hmadeRequests := makeScene_requests s x free f 0 originSplit (sceneMark s.cue c) none (s.splitGrade c)
    rw [show (made.hand r).requests = made.requests by simp]
    exact congrArg (fun q : Requests => { q with ripple := rippleAfterSplit s.cue c x s.requests.ripple }) hmadeRequests
  · rw [← hserial]
    refine wrote_before (wrote_hand (hasRoom_congr hroom (by simp) (by simp)) ?_) (by simp) fun a ha => ?_
    · exact takes_of_running (k := .split) (by simpa using hroom.1) nofun nofun
    · refine hcue.read fun hin => ?_
      have hscene : inScenes a := by
        rcases hin with hin | rfl | ⟨y, -, rfl⟩
        · exact inScenes_of_inSceneFields ⟨x, hin⟩
        · exact inScenes_slotBase_add _ (by omega)
        · exact inScenes_slotBase_add _ (by omega)
      unfold inRing at ha
      unfold inScenes at hscene
      omega

end SplitMade

/-! ### The ripple a split meets (R129) -/

theorem ListLinks.next_ne_self {m : Memory} {l : List Slot} (h : ListLinks m l) {x : Slot} (hx : x ∈ l) :
    sceneNext m x ≠ some x := by
  obtain ⟨as, bs, rfl⟩ := List.append_of_mem hx
  rw [h.next rfl]
  intro heq
  have hmem : x ∈ bs := List.mem_of_mem_head? heq
  obtain ⟨-, hcons, -⟩ := List.nodup_append.mp h.nodup
  exact (List.nodup_cons.mp hcons).1 hmem

theorem afterVisit_of_ne {s : State} {r : Ripple} (h : r.next ≠ r.last) :
    s.afterVisit r = s.setRipple (some { r with next := (sceneNext s.cue r.next).getD r.next }) := if_neg h

/-- A visit to a scene that carries the ripple's number skips it (R126). -/
theorem visit_of_marked {s : State} {r : Ripple} (h : sceneMark s.cue r.next = r.number) : s.visit r = s.afterVisit r :=
  if_pos h

theorem rippleVisits_of_some {s : State} {r : Ripple} (h : s.requests.ripple = some r) :
    s.rippleVisits = State.visits r.step s := by
  unfold State.rippleVisits
  rw [h]

theorem visits_succ {s : State} {r : Ripple} (h : s.requests.ripple = some r) (n : Nat) :
    State.visits (n + 1) s = State.visits n (s.visit r) := by
  rw [State.visits, h]

/-- A ripple with a step of 1 whose next slot a split has put its scene at: the visit there leaves it as it was. -/
theorem rippleVisits_of_split {s : State} {r : Ripple} {x : Slot} (hripple : s.requests.ripple = some { r with next := x })
    (hstep : r.step = 1) (hmark : sceneMark s.cue x = r.number) (hnext : sceneNext s.cue x = some r.next)
    (hlast : x ≠ r.last) : s.rippleVisits = s.setRipple (some r) := by
  have hmoved : s.visit { r with next := x } = s.setRipple (some r) := by
    rw [visit_of_marked hmark, afterVisit_of_ne hlast]
    dsimp only
    rw [hnext]
    rfl
  rw [rippleVisits_of_some hripple]
  dsimp only
  rw [hstep, visits_succ hripple, hmoved]
  rfl

section Settles
variable {s : State} {f : Int} {l : List Slot}

/-- A split that meets a ripple: the state the handling leaves (R129). -/
theorem exec_split_of_ripple {r : Ripple} {cover x : Slot} {free : List Slot} (hrun : s.port.run = .running)
    (hopen : s.sequencer.activeStartTaken = false) (hread : s.engine.read = none)
    (hsplit : s.requests.splitPending = some f) (hdue : s.requests.notifyDue = false)
    (hentry : entryWord s.cue s.requests.takeIndex 0 ≠ 1) (hrange : inRange f) (hpass : s.pass.state ≠ .recording)
    (hstack : s.requests.freeStack = x :: free) (hlaw : sceneListLaw s.cue (x :: free))
    (hnew : ∀ y : Slot, listed s.cue y = true → sceneStart s.cue y ≠ f) (hcover : coveringScene s.cue f = cover)
    (hripple : s.requests.ripple = some r) (hnext : sceneNext s.cue cover = some r.next)
    (hmark : sceneMark s.cue cover = r.number) (hstep : r.step = 1) (hlast : listed s.cue r.last = true) :
    exec .activeStart s = .next (((State.splitTaken s).split f).setRipple (some r)) := by
  obtain ⟨hrequests, hmade, -, -, -, -⟩ := split_made (s := State.splitTaken s) hrange hnew hcover hpass hstack hlaw
  have hx : x ≠ r.last := by
    obtain ⟨l, hl, -, hmem⟩ := hlaw
    exact fun heq => (hmem x).mp List.mem_cons_self ((mem_of_law hl).mp (heq ▸ hlast))
  have hindex : ((State.splitTaken s).split f).requests.takeIndex = s.requests.takeIndex := by rw [hrequests]; rfl
  have hstops : ((State.splitTaken s).split f).scanStops = true := by
    refine scanStops_of_not_posted ?_
    rw [entryWord_split _ _ _ (by omega), hindex]
    exact hentry
  have hafter : rippleAfterSplit s.cue cover x (some r) = some { r with next := x } := by
    unfold rippleAfterSplit
    rw [Option.map_some, if_pos hnext]
  have hsome : ((State.splitTaken s).split f).requests.ripple = some { r with next := x } := by
    rw [hrequests]
    exact (congrArg (rippleAfterSplit s.cue cover x) hripple).trans hafter
  have hvisits := rippleVisits_of_split hsome hstep (hmade.mark.trans hmark) (hmade.next.trans hnext) hx
  have hnotDue : (((State.splitTaken s).split f).setRipple (some r)).requests.notifyDue = false := by
    simpa [State.setRipple, State.splitTaken] using hdue
  rw [exec_activeStart_of_split hrun hopen hread hsplit, scan_of_stops hstops, hvisits, raiseNotify_of_not_due hnotDue]

/-- A split made with no ripple in flight: the state the handling leaves. -/
theorem exec_split_of_made {cover x : Slot} {free : List Slot} (hrun : s.port.run = .running)
    (hopen : s.sequencer.activeStartTaken = false) (hread : s.engine.read = none)
    (hsplit : s.requests.splitPending = some f) (hripple : s.requests.ripple = none) (hdue : s.requests.notifyDue = false)
    (hentry : entryWord s.cue s.requests.takeIndex 0 ≠ 1)
    (hrequests : ((State.splitTaken s).split f).requests =
      { (State.splitTaken s).requests with
        freeStack := free, ripple := rippleAfterSplit s.cue cover x s.requests.ripple }) :
    exec .activeStart s = .next ((State.splitTaken s).split f) := by
  have hidle : (State.scan 4 ((State.splitTaken s).split f)).rippleVisits.raiseNotify = (State.splitTaken s).split f := by
    refine handled_idle ?_ ?_ ?_
    · rw [entryWord_split _ _ _ (by omega), hrequests]
      exact hentry
    · rw [hrequests, hripple]
      rfl
    · rw [hrequests]
      exact hdue
  rw [exec_activeStart_of_split hrun hopen hread hsplit, hidle]

end Settles

/-- Settles O51: the pulse, the split dropped or made, and the ripple it meets. -/
theorem splitCutsCoveringScene : Obligations.SplitCutsCoveringScene := by
  refine ⟨fun id s => ⟨_, exec_fieldStart s id, fun f hf => ?_, fun hnone => ⟨fun hpulse => ?_, fun hpulse => ?_⟩⟩,
    fun s f l hrun hopen hread hsplit hripple hdue hentry hrange hl => ?_⟩
  · rw [fieldStart_splitPending, hf]
    split <;> rfl
  · rw [fieldStart_splitPending, hnone, if_pos hpulse.symm]
    rfl
  · rw [fieldStart_splitPending, hnone, if_neg fun h => hpulse h.symm]
  · obtain ⟨hlinks, hstates⟩ := isSceneList_iff.mp hl
    let u := State.splitTaken s
    have hdropped (reason : SplitReason) (cover : Slot) (h : u.split f = u.hand (dropSplit f reason cover)) :=
      exec_split_of_dropped hrun hopen hread hsplit hripple hdue hentry h
    have hfree (hnew : ∀ y : Slot, ¬(listed s.cue y = true ∧ sceneStart s.cue y = f)) :
        startingAt u.cue f = none :=
      hlinks.startingAt_none.mpr fun y hy heq => hnew y ⟨hstates.listed_iff.mpr hy, heq⟩
    refine ⟨fun y ⟨hlisted, hstart⟩ => hdropped .duplicate y
      (split_of_start (s := u) (hlinks.startingAt_some (hstates.listed_iff.mp hlisted) hstart)), fun hnew => ?_, ?_⟩
    · obtain ⟨as, cover, bs, hsplitAt, hcovers⟩ := hlinks.exists_covers hrange.1
      have hmem : cover ∈ l := by rw [hsplitAt]; simp
      have hcover : coveringScene u.cue f = cover := hlinks.coveringScene hmem hcovers
      refine ⟨cover, ⟨hstates.listed_iff.mpr hmem, hcovers⟩, fun hpass => ?_, fun hpass hfull => ?_,
        fun x free hpass hstack hlaw => ?_⟩
      · have hdrop := split_of_recording (s := u) (hfree hnew) hpass
        rw [hcover] at hdrop
        exact hdropped .onAir cover hdrop
      · have hdrop := split_of_full (s := u) (hfree hnew) hpass hfull
        rw [hcover] at hdrop
        exact hdropped .full cover hdrop
      · obtain ⟨hrequests, hmade, hcx, hlisted, hlaw', hwrote⟩ := split_made (s := u) hrange
          (fun y hy heq => hnew y ⟨hy, heq⟩) hcover hpass hstack hlaw
        refine ⟨u.split f, exec_split_of_made hrun hopen hread hsplit hripple hdue hentry hrequests,
          by rw [hrequests]; rfl, by rw [hrequests], hlaw', hlisted, hmade.start, ?_, hmade.origin,
          hmade.tag, hmade.mark, hmade.serial, fun hbaked k => (splitScene_grade hmade.grade k).1 hbaked,
          fun hplain k => (splitScene_grade hmade.grade k).2 hplain, fun hroom => ?_,
          hmade.next_pred, hmade.prev, hmade.next, fun k h1 hk => ?_, by simp [u, State.splitTaken],
          by simp [u, State.splitTaken], by simp [u, State.splitTaken], by simp [u, State.splitTaken],
          by simp [u, State.splitTaken], fun a hscene hring => ?_⟩
        · unfold sceneDissolve
          rw [hmade.dissolve]
          rfl
        · have hrecord := hwrote hroom
          rw [splitReport_eq] at hrecord
          exact hrecord
        · exact hmade.other cover k hcx hk (fun h => h1 h.2) fun h => hlinks.next_ne_self hmem h.1
        · exact (changesWithin_split u f).read fun h => h.elim hscene hring
    · intro r cover x free hpass hstack hlaw hnew hlistedC hcovers hnext hmark hstep hlast
      have hmem : cover ∈ l := hstates.listed_iff.mp hlistedC
      have hcover : coveringScene s.cue f = cover := hlinks.coveringScene hmem hcovers
      let s' : State := { s with requests := { s.requests with ripple := some r } }
      have hexec := exec_split_of_ripple (s := s') hrun hopen hread hsplit hdue hentry hrange hpass hstack hlaw
        (fun y hy heq => hnew y ⟨hy, heq⟩) hcover rfl hnext hmark hstep hlast
      obtain ⟨hrequests, hmade, -, -, hlaw', -⟩ := split_made (s := State.splitTaken s') hrange
        (fun y hy heq => hnew y ⟨hy, heq⟩) hcover hpass hstack hlaw
      have hnextMem : r.next ∈ l := hlinks.next_mem hmem hnext
      have hnextCover : r.next ≠ cover := fun heq => hlinks.next_ne_self hmem (heq ▸ hnext)
      have hnextX : r.next ≠ x := by
        obtain ⟨l', hl', -, hmem'⟩ := hlaw
        exact fun heq => (hmem' x).mp List.mem_cons_self ((mem_of_law hl').mp (hstates.listed_iff.mpr (heq ▸ hnextMem)))
      refine ⟨_, hexec, rfl, ?_, hlaw', hmade.next_pred, hmade.next.trans hnext, hmade.start, hmade.mark.trans hmark,
        fun k h2 hk => ?_, fun a hscene hring => ?_⟩
      · change ((State.splitTaken s').split f).requests.freeStack = free
        rw [hrequests]
      · exact hmade.other r.next k hnextX hk (fun h => hnextCover h.1) fun h => h2 h.2
      · exact (changesWithin_split (State.splitTaken s') f).read fun h => h.elim hscene hring

end Sys2Proof.Proofs

/-! The visits of a ripple (R125, R126, R128). -/

namespace Sys2Proof.Proofs
open Sys2Proof.Machine

/-! ### One visit -/

section Words
variable {m : Memory} {r : Ripple} {k : Nat}

theorem slotWordAt_visitCells (m : Memory) (r : Ripple) {k : Nat} (hk : k < 32) :
    slotWordAt (Memory.writeAll m (visitCells m r)) r.next k =
      if k = 8 then r.number
      else
        slotWordAt
          (Memory.writeAll m (maskedGradeCells r.next r.mask (clampGrade (addGrade (sceneGrade m r.next) r.deltas)))) r.next k := by
  unfold visitCells
  rw [Memory.writeAll_append]
  split
  · next h =>
    subst h
    exact slotWordAt_write_same _ r.next hk _
  · next h => exact slotWordAt_write_other _ (j := 8) (by omega) hk _ fun h' => h h'.2

theorem slotWordAt_visitMemory_of_ne (m : Memory) (r : Ripple) {k : Nat} (hk : k < 32) (h7 : k ≠ 7) :
    slotWordAt (visitMemory m r) r.next k = slotWordAt (Memory.writeAll m (visitCells m r)) r.next k := by
  unfold visitMemory
  split
  · exact slotWordAt_editScene_other hk (.inr h7)
  · rfl

theorem visited_mark (m : Memory) (r : Ripple) : sceneMark (visitMemory m r) r.next = r.number := by
  change slotWordAt (visitMemory m r) r.next 8 = r.number
  rw [slotWordAt_visitMemory_of_ne m r (by omega) (by omega), slotWordAt_visitCells m r (by omega), if_pos rfl]

theorem visited_grade (m : Memory) (r : Ripple) (k : Fin 10) :
    slotWordAt (visitMemory m r) r.next (12 + k.val) =
      if r.mask[k] = true then signedWord (clampParam k ((sceneGrade m r.next)[k] + r.deltas[k]))
      else slotWordAt m r.next (12 + k.val) := by
  rw [slotWordAt_visitMemory_of_ne m r (by omega) (by omega), slotWordAt_visitCells m r (by omega), if_neg (by omega),
    slotWordAt_writeAll_masked, clampGrade_getElem, addGrade_getElem]

theorem slotWordAt_masked_low (m : Memory) (r : Ripple) (hk : k < 32) (h : k < 12 ∨ 22 ≤ k) (g : Grade) :
    slotWordAt (Memory.writeAll m (maskedGradeCells r.next r.mask g)) r.next k = slotWordAt m r.next k :=
  slotWordAt_writeAll_grade (fun _ hc => inGradeWords_of_mem_maskedGradeCells hc) hk (.inr h)

theorem anyFlag_iff {mask : Vector Bool 10} : anyFlag mask = true ↔ ∃ k : Fin 10, mask[k] = true := by
  simp [anyFlag]

theorem visited_serial (m : Memory) (r : Ripple) :
    slotWordAt (visitMemory m r) r.next 7 =
      slotWordAt m r.next 7 + (if ∃ k : Fin 10, r.mask[k] = true then 1 else 0) := by
  unfold visitMemory
  by_cases hany : anyFlag r.mask = true
  · rw [if_pos hany, if_pos (anyFlag_iff.mp hany), slotWordAt_editScene_serial]
  · rw [if_neg hany, if_neg fun h => hany (anyFlag_iff.mpr h), slotWordAt_visitCells m r (by omega), if_neg (by omega),
      slotWordAt_masked_low m r (by omega) (by omega)]
    exact (BitVec.add_zero _).symm

theorem visited_kept (m : Memory) (r : Ripple) (hk : k < 32) (h7 : k ≠ 7) (h8 : k ≠ 8) (h : k < 12 ∨ 22 ≤ k) :
    slotWordAt (visitMemory m r) r.next k = slotWordAt m r.next k := by
  rw [slotWordAt_visitMemory_of_ne m r hk h7, slotWordAt_visitCells m r hk, if_neg h8, slotWordAt_masked_low m r hk h]

theorem visited_other (m : Memory) (r : Ripple) {y : Slot} (hy : y ≠ r.next) (hk : k < 32) :
    slotWordAt (visitMemory m r) y k = slotWordAt m y k := by
  refine slotWordAt_of_changesWithin (changesWithin_visitMemory m r) fun hin => hy ?_
  unfold inSlotFields at hin
  obtain ⟨j, hj, heq⟩ : ∃ j, j < 22 ∧ slotBase y + k = slotBase r.next + j :=
    ⟨slotBase y + k - slotBase r.next, by omega, by omega⟩
  exact ((slotBase_inj hk (by omega)).mp heq).1

end Words

/-- A scene a ripple has visited: each masked delta added to the parameter, clamped, the number as mark, the serial one
higher where a flag is set (R126). -/
structure SceneVisited (r : Ripple) (m m' : Memory) (x : Slot) : Prop where
  grade : ∀ k : Fin 10,
    slotWordAt m' x (12 + k.val) =
      if r.mask[k] = true then signedWord (clampParam k ((sceneGrade m x)[k] + r.deltas[k]))
      else slotWordAt m x (12 + k.val)
  mark : sceneMark m' x = r.number
  serial : slotWordAt m' x 7 = slotWordAt m x 7 + (if ∃ k : Fin 10, r.mask[k] = true then 1 else 0)
  kept : ∀ w, w < 32 → w ≠ 7 → w ≠ 8 → (w < 12 ∨ 22 ≤ w) → slotWordAt m' x w = slotWordAt m x w

theorem sceneVisited_visitMemory (m : Memory) (r : Ripple) : SceneVisited r m (visitMemory m r) r.next where
  grade := visited_grade m r
  mark := visited_mark m r
  serial := visited_serial m r
  kept := fun _ hk h7 h8 h => visited_kept m r hk h7 h8 h

/-- A visit is told by the number, the mask and the deltas alone. -/
theorem SceneVisited.of_next {r : Ripple} {m m' : Memory} {x y : Slot} (h : SceneVisited { r with next := y } m m' x) :
    SceneVisited r m m' x := ⟨h.grade, h.mark, h.serial, h.kept⟩

theorem SceneVisited.of_before {r : Ripple} {m m₁ m' : Memory} {x : Slot} (h : SceneVisited r m₁ m' x)
    (hword : ∀ k, k < 32 → slotWordAt m₁ x k = slotWordAt m x k) : SceneVisited r m m' x where
  grade := fun k => by
    rw [h.grade k, hword _ (by omega), sceneGrade_congr fun j => hword (12 + j.val) (by omega)]
  mark := h.mark
  serial := by rw [h.serial, hword 7 (by omega)]
  kept := fun w hw h7 h8 h' => by rw [h.kept w hw h7 h8 h', hword w hw]

theorem SceneVisited.of_after {r : Ripple} {m m' m'' : Memory} {x : Slot} (h : SceneVisited r m m' x)
    (hword : ∀ k, k < 32 → slotWordAt m'' x k = slotWordAt m' x k) : SceneVisited r m m'' x where
  grade := fun k => (hword _ (by omega)).trans (h.grade k)
  mark := (hword 8 (by omega)).trans h.mark
  serial := (hword 7 (by omega)).trans h.serial
  kept := fun w hw h7 h8 h' => (hword w hw).trans (h.kept w hw h7 h8 h')

/-! ### A run of visits -/

/-- The memory after a visit to a scene, which is skipped where it carries the number (R126). -/
def visitedBy (r : Ripple) (m : Memory) (x : Slot) : Memory :=
  if sceneMark m x = r.number then m else visitMemory m { r with next := x }

/-- The memory after the visits of a ripple to the scenes of a list. -/
def rippleMemory (r : Ripple) : Memory → List Slot → Memory
  | m, [] => m
  | m, x :: xs => rippleMemory r (visitedBy r m x) xs

/-- The scenes of a list that do not carry a number. -/
def unmarked (number : Word) (m : Memory) (xs : List Slot) : List Slot := xs.filter fun x => sceneMark m x != number

/-- How many of the masked sums of scenes clamping changes. -/
def clampedIn (r : Ripple) (m : Memory) (xs : List Slot) : Nat :=
  (xs.map fun x => clampedAmong (fun k => r.mask[k]) fun k => (sceneGrade m x)[k] + r.deltas[k]).sum

/-- The ripple's counts after its visits to the scenes of a list (R126). -/
def counted (r : Ripple) (m : Memory) (xs : List Slot) : Ripple :=
  { r with
    done := r.done + (unmarked r.number m xs).length
    clamped := r.clamped + clampedIn r m (unmarked r.number m xs) }

section Run
variable {r : Ripple} {xs : List Slot} {k : Nat}

theorem slotWordAt_visitedBy_other (r : Ripple) (m : Memory) {x y : Slot} (hy : y ≠ x) (hk : k < 32) :
    slotWordAt (visitedBy r m x) y k = slotWordAt m y k := by
  unfold visitedBy
  split
  · rfl
  · exact visited_other m { r with next := x } hy hk

/-- The scenes that a run of visits does not change: those outside the list, and those that carry the number. -/
theorem slotWordAt_rippleMemory_other (m : Memory) {y : Slot} (hy : y ∉ xs ∨ sceneMark m y = r.number) (hk : k < 32) :
    slotWordAt (rippleMemory r m xs) y k = slotWordAt m y k := by
  induction xs generalizing m with
  | nil => rfl
  | cons x xs ih =>
    have hfirst (j : Nat) (hj : j < 32) : slotWordAt (visitedBy r m x) y j = slotWordAt m y j := by
      by_cases hyx : y = x
      · subst hyx
        have hmark := hy.resolve_left fun h => h List.mem_cons_self
        unfold visitedBy
        rw [if_pos hmark]
      · exact slotWordAt_visitedBy_other r m hyx hj
    have hrest : y ∉ xs ∨ sceneMark (visitedBy r m x) y = r.number :=
      hy.imp (fun h hmem => h (List.mem_cons_of_mem _ hmem)) (hfirst 8 (by omega)).trans
    rw [rippleMemory, ih _ hrest, hfirst k hk]

theorem sceneVisited_rippleMemory (hnodup : xs.Nodup) (m : Memory) {x : Slot} (hx : x ∈ xs)
    (hmark : sceneMark m x ≠ r.number) : SceneVisited r m (rippleMemory r m xs) x := by
  induction xs generalizing m with
  | nil => cases hx
  | cons y xs ih =>
    obtain ⟨hy, hnodup⟩ := List.nodup_cons.mp hnodup
    by_cases hxy : x = y
    · subst hxy
      have hfirst : SceneVisited r m (visitedBy r m x) x := by
        unfold visitedBy
        rw [if_neg hmark]
        exact SceneVisited.of_next (sceneVisited_visitMemory m { r with next := x })
      exact hfirst.of_after fun k hk => slotWordAt_rippleMemory_other _ (.inl hy) hk
    · have hfirst (j : Nat) (hj : j < 32) := slotWordAt_visitedBy_other r m (x := y) hxy hj
      have hmark' : sceneMark (visitedBy r m y) x ≠ r.number := by
        rw [show sceneMark (visitedBy r m y) x = sceneMark m x from hfirst 8 (by omega)]
        exact hmark
      exact (ih hnodup _ ((List.mem_cons.mp hx).resolve_left hxy) hmark').of_before hfirst

theorem changesWithin_rippleMemory (r : Ripple) (m : Memory) (xs : List Slot) :
    Memory.ChangesWithin inSceneFields m (rippleMemory r m xs) := by
  induction xs generalizing m with
  | nil => exact .refl _ _
  | cons x xs ih =>
    refine .trans (m₂ := visitedBy r m x) ?_ (ih _)
    unfold visitedBy
    split
    · exact .refl _ _
    · exact (changesWithin_visitMemory m _).mono fun a ha => ⟨x, ha⟩

/-- The counts of a run are those of its first visit and of the rest. -/
theorem counted_cons (r : Ripple) (m : Memory) {x : Slot} (hx : x ∉ xs) :
    counted (counted r m [x]) (visitedBy r m x) xs = counted r m (x :: xs) := by
  have hword {y : Slot} (hy : y ∈ xs) (j : Nat) (hj : j < 32) :=
    slotWordAt_visitedBy_other r m (x := x) (y := y) (fun heq => hx (heq ▸ hy)) hj
  have hrest : unmarked r.number (visitedBy r m x) xs = unmarked r.number m xs :=
    List.filter_congr fun y hy => by
      rw [show sceneMark (visitedBy r m x) y = sceneMark m y from hword hy 8 (by omega)]
  have hgrade : clampedIn r (visitedBy r m x) (unmarked r.number m xs) = clampedIn r m (unmarked r.number m xs) :=
    congrArg List.sum (List.map_congr_left fun y hy => by
      rw [sceneGrade_congr fun j => hword (List.mem_of_mem_filter hy) (12 + j.val) (by omega)])
  have hcons : unmarked r.number m (x :: xs) = unmarked r.number m [x] ++ unmarked r.number m xs :=
    List.filter_append [x] xs
  have hsum : clampedIn r m (unmarked r.number m (x :: xs)) =
      clampedIn r m (unmarked r.number m [x]) + clampedIn r m (unmarked r.number m xs) := by
    rw [hcons]
    unfold clampedIn
    rw [List.map_append, List.sum_append]
  have hdone : r.done + (unmarked r.number m [x]).length + (unmarked r.number (visitedBy r m x) xs).length =
      r.done + (unmarked r.number m (x :: xs)).length := by
    rw [hrest, hcons, List.length_append, Nat.add_assoc]
  have hclamped : r.clamped + clampedIn r m (unmarked r.number m [x]) +
      clampedIn r (visitedBy r m x) (unmarked r.number (visitedBy r m x) xs) =
      r.clamped + clampedIn r m (unmarked r.number m (x :: xs)) := by
    rw [hrest, hgrade, hsum, Nat.add_assoc]
  exact congrArg₂ (fun done clamped => { r with done := done, clamped := clamped }) hdone hclamped

end Run

/-! ### The visits of one ACTIVE START -/

section Visits
variable {s : State} {r : Ripple} {l : List Slot}

/-- A visit with no pass RECORDING: the scene visited or skipped, then the end or the next scene (R125, R126). -/
theorem visit_eq (hpass : s.pass.state ≠ .recording) :
    s.visit r =
      State.afterVisit { s with cue := visitedBy r s.cue r.next } (counted r s.cue [r.next]) := by
  have hair : s.slotOnAir r.next = false := slotOnAir_eq_false fun h => absurd h hpass
  unfold State.visit visitedBy
  by_cases hmark : sceneMark s.cue r.next = r.number
  · have hnone : unmarked r.number s.cue [r.next] = [] := by simp [unmarked, hmark]
    rw [if_pos hmark, if_pos hmark]
    unfold counted
    rw [hnone]
    rfl
  · have hone : unmarked r.number s.cue [r.next] = [r.next] := by simp [unmarked, hmark]
    have hcount : clampCount r.mask (addGrade (sceneGrade s.cue r.next) r.deltas) = clampedIn r s.cue [r.next] :=
      (clampedAmong_congr (fun _ => rfl) (addGrade_getElem _ _)).trans (Nat.add_zero _).symm
    rw [if_neg hmark, if_neg (Bool.eq_false_iff.mp hair), if_neg hmark, hcount]
    unfold counted
    rw [hone]
    rfl

/-- The state after visits that reach the end slot (R128). -/
def rippleEnded (s : State) (r : Ripple) (xs : List Slot) : State :=
  State.endRipple { s with cue := rippleMemory r s.cue xs } (counted r s.cue xs)
    (okOr (decide ((counted r s.cue xs).clamped ≠ 0)))

/-- The state after visits that stop short of the end slot, the ripple's next slot being `y` (R125). -/
def rippleMoved (s : State) (r : Ripple) (xs : List Slot) (y : Slot) : State :=
  State.setRipple { s with cue := rippleMemory r s.cue xs } (some { counted r s.cue xs with next := y })

/-- The run of visits goes by the number, the mask and the deltas alone. -/
theorem rippleMemory_congr {q : Ripple} (hnumber : q.number = r.number) (hmask : q.mask = r.mask)
    (hdeltas : q.deltas = r.deltas) (m : Memory) (xs : List Slot) : rippleMemory q m xs = rippleMemory r m xs := by
  induction xs generalizing m with
  | nil => rfl
  | cons x xs ih =>
    have hcells : visitCells m { q with next := x } = visitCells m { r with next := x } := by
      unfold visitCells
      dsimp only
      rw [hnumber, hmask, hdeltas]
    have hfirst : visitedBy q m x = visitedBy r m x := by
      unfold visitedBy visitMemory
      rw [hcells]
      dsimp only
      rw [hnumber, hmask]
    rw [rippleMemory, rippleMemory, hfirst, ih]

section Compose
variable {x y z : Slot} {xs : List Slot}

/-- The run of visits goes on from the ripple its first visit leaves. -/
theorem rippleMemory_moved (r : Ripple) (m : Memory) (x y : Slot) (xs : List Slot) :
    rippleMemory { counted r m [x] with next := y } (visitedBy r m x) xs = rippleMemory r m (x :: xs) :=
  rippleMemory_congr (r := r) (q := { counted r m [x] with next := y }) rfl rfl rfl _ _

theorem counted_moved (r : Ripple) (m : Memory) {x : Slot} (y : Slot) (hx : x ∉ xs) :
    counted { counted r m [x] with next := y } (visitedBy r m x) xs = { counted r m (x :: xs) with next := y } := by
  rw [← counted_cons r m hx]
  rfl

theorem rippleEnded_cons (hx : x ∉ xs) :
    rippleEnded (rippleMoved s r [x] y) { counted r s.cue [x] with next := y } xs = rippleEnded s r (x :: xs) := by
  unfold rippleEnded
  change State.endRipple { rippleMoved s r [x] y with
      cue := rippleMemory { counted r s.cue [x] with next := y } (visitedBy r s.cue x) xs }
    (counted { counted r s.cue [x] with next := y } (visitedBy r s.cue x) xs)
    (okOr (decide ((counted { counted r s.cue [x] with next := y } (visitedBy r s.cue x) xs).clamped ≠ 0))) = _
  rw [rippleMemory_moved, counted_moved r s.cue y hx]
  unfold State.endRipple State.finishEntry rippleMoved
  dsimp only
  split
  · rfl
  · rfl

theorem rippleMoved_cons (hx : x ∉ xs) :
    rippleMoved (rippleMoved s r [x] y) { counted r s.cue [x] with next := y } xs z = rippleMoved s r (x :: xs) z := by
  change State.setRipple { rippleMoved s r [x] y with
      cue := rippleMemory { counted r s.cue [x] with next := y } (visitedBy r s.cue x) xs }
    (some { counted { counted r s.cue [x] with next := y } (visitedBy r s.cue x) xs with next := z }) = _
  rw [rippleMemory_moved, counted_moved r s.cue y hx]
  rfl

end Compose

theorem visit_ends (hpass : s.pass.state ≠ .recording) (h : r.next = r.last) :
    s.visit r = rippleEnded s r [r.next] := by
  rw [visit_eq hpass]
  exact if_pos h

/-- Visits leave the links, the START and the DISSOLVE of every scene. -/
theorem slotWordAt_rippleMemory_low (m : Memory) (xs : List Slot) (y : Slot) {k : Nat} (hk : k < 7) :
    slotWordAt (rippleMemory r m xs) y k = slotWordAt m y k := by
  induction xs generalizing m with
  | nil => rfl
  | cons x xs ih =>
    refine (ih _).trans ?_
    unfold visitedBy
    split
    · rfl
    · by_cases hyx : y = x
      · subst hyx
        exact visited_kept m { r with next := y } (by omega) (by omega) (by omega) (.inl (by omega))
      · exact visited_other m { r with next := x } hyx (by omega)

theorem visit_moves {y : Slot} (hpass : s.pass.state ≠ .recording) (h : r.next ≠ r.last)
    (hnext : sceneNext s.cue r.next = some y) : s.visit r = rippleMoved s r [r.next] y := by
  have hkept : sceneNext (visitedBy r s.cue r.next) r.next = some y :=
    (congrArg slotOfWord (slotWordAt_rippleMemory_low s.cue [r.next] r.next (by omega))).trans hnext
  rw [visit_eq hpass, afterVisit_of_ne (r := counted r s.cue [r.next]) h]
  change State.setRipple _ (some { counted r s.cue [r.next] with
    next := (sceneNext (visitedBy r s.cue r.next) r.next).getD r.next }) = _
  rw [hkept]
  rfl

/-! ### The visits along the list -/

theorem visits_of_none (h : s.requests.ripple = none) (n : Nat) : State.visits n s = s := by
  cases n with
  | zero => rfl
  | succ n => rw [State.visits, h]

section Along
variable {m : Memory} {a b n : Nat} {x y : Slot}

theorem ListLinks.rippleMemory (h : ListLinks m l) (xs : List Slot) : ListLinks (rippleMemory r m xs) l :=
  h.congr (fun x _ _ _ _ => slotWordAt_rippleMemory_low m xs x (by omega)) (slotWordAt_rippleMemory_low m xs 0 (by omega))

theorem getElem_not_mem_drop (hnodup : l.Nodup) (ha : l[a]? = some x) (n : Nat) : x ∉ (l.drop (a + 1)).take n := by
  obtain ⟨hlt, rfl⟩ := List.getElem?_eq_some_iff.mp ha
  intro hmem
  obtain ⟨k, hk, heq⟩ := List.mem_iff_getElem.mp (List.mem_of_mem_take hmem)
  rw [List.getElem_drop] at heq
  have := (hnodup.getElem_inj_iff).mp heq
  omega

theorem take_drop_succ (ha : l[a]? = some x) (n : Nat) :
    (l.drop a).take (n + 1) = x :: (l.drop (a + 1)).take n := by
  obtain ⟨hlt, rfl⟩ := List.getElem?_eq_some_iff.mp ha
  rw [List.drop_eq_getElem_cons hlt, List.take_succ_cons]

/-- A visit before the end slot moves the ripple to the next scene of the list. -/
theorem visits_succ_of_lt (hripple : s.requests.ripple = some r) (hpass : s.pass.state ≠ .recording)
    (h : ListLinks s.cue l) (ha : l[a]? = some r.next) (hb : l[b]? = some r.last) (hab : a < b) (n : Nat) :
    ∃ y, l[a + 1]? = some y ∧ State.visits (n + 1) s = State.visits n (rippleMoved s r [r.next] y) := by
  obtain ⟨hblt, hlast⟩ := List.getElem?_eq_some_iff.mp hb
  obtain ⟨halt, hfirst⟩ := List.getElem?_eq_some_iff.mp ha
  have hy : l[a + 1]? = some l[a + 1] := List.getElem?_eq_getElem (by omega)
  have hne : r.next ≠ r.last := by
    rw [← hfirst, ← hlast]
    intro heq
    have := (h.nodup.getElem_inj_iff).mp heq
    omega
  have hnext : sceneNext s.cue r.next = some l[a + 1] := by
    rw [← hfirst, h.next_getElem halt, hy]
  exact ⟨_, hy, by rw [visits_succ hripple, visit_moves hpass hne hnext]⟩

theorem visits_of_short (hripple : s.requests.ripple = some r) (hpass : s.pass.state ≠ .recording)
    (h : ListLinks s.cue l) (ha : l[a]? = some r.next) (hb : l[b]? = some r.last) (hn : a + n ≤ b)
    (hy : l[a + n]? = some y) : State.visits n s = rippleMoved s r ((l.drop a).take n) y := by
  induction n generalizing s r a with
  | zero =>
    have hsame : y = r.next := Option.some.inj (hy.symm.trans ha)
    subst hsame
    change s = s.setRipple (some r)
    rw [← hripple]
    rfl
  | succ n ih =>
    obtain ⟨z, hz, hstep⟩ := visits_succ_of_lt hripple hpass h ha hb (by omega) n
    have hrest := ih (s := rippleMoved s r [r.next] z) (r := { counted r s.cue [r.next] with next := z }) rfl hpass
      (ListLinks.rippleMemory h _) hz hb (by omega) (by rw [← hy]; congr 1; omega)
    rw [hstep, hrest, take_drop_succ ha, rippleMoved_cons (getElem_not_mem_drop h.nodup ha n)]

theorem visits_of_end (hripple : s.requests.ripple = some r) (hpass : s.pass.state ≠ .recording)
    (h : ListLinks s.cue l) (ha : l[a]? = some r.next) (hb : l[b]? = some r.last) (hab : a ≤ b) (hn : b - a + 1 ≤ n) :
    State.visits n s = rippleEnded s r ((l.drop a).take (b - a + 1)) := by
  induction n generalizing s r a with
  | zero => omega
  | succ n ih =>
    by_cases heq : a = b
    · subst heq
      have hlast : r.next = r.last := Option.some.inj (ha.symm.trans hb)
      rw [visits_succ hripple, visit_ends hpass hlast, visits_of_none (by rfl), Nat.sub_self, take_drop_succ ha,
        List.take_zero]
    · obtain ⟨z, hz, hstep⟩ := visits_succ_of_lt hripple hpass h ha hb (by omega) n
      have hrest := ih (s := rippleMoved s r [r.next] z) (r := { counted r s.cue [r.next] with next := z }) rfl hpass
        (ListLinks.rippleMemory h _) hz hb (by omega) (by omega)
      have hcount : b - a + 1 = b - (a + 1) + 1 + 1 := by omega
      rw [hstep, hrest, hcount, take_drop_succ ha, rippleEnded_cons (getElem_not_mem_drop h.nodup ha _)]

end Along

end Visits

end Sys2Proof.Proofs

/-! RIPPLE and the visits of a ripple in flight (O49, O50). -/

namespace Sys2Proof.Proofs
open Sys2Proof.Machine

/-! ### What one ACTIVE START's visits make -/

section Made
variable {s u : State} {r : Ripple} {l xs : List Slot} {a b : Nat}

theorem unmarked_congr {m m' : Memory} (h : ∀ x k, k < 32 → slotWordAt m' x k = slotWordAt m x k) (number : Word)
    (xs : List Slot) : unmarked number m' xs = unmarked number m xs :=
  List.filter_congr fun x _ => by rw [show sceneMark m' x = sceneMark m x from h x 8 (by omega)]

theorem clampedIn_congr {m m' : Memory} (h : ∀ x k, k < 32 → slotWordAt m' x k = slotWordAt m x k) (r : Ripple)
    (xs : List Slot) : clampedIn r m' xs = clampedIn r m xs :=
  congrArg List.sum (List.map_congr_left fun x _ => by rw [sceneGrade_congr fun j => h x (12 + j.val) (by omega)])

theorem counted_congr {m m' : Memory} (h : ∀ x k, k < 32 → slotWordAt m' x k = slotWordAt m x k) (r : Ripple)
    (xs : List Slot) : counted r m' xs = counted r m xs := by
  unfold counted
  rw [unmarked_congr h, clampedIn_congr h]

/-- The state that visits to the end slot leave differs from the one their memory makes by the ripple's entry. -/
theorem changesWithin_rippleEnded (u : State) (r : Ripple) (xs : List Slot) :
    Memory.ChangesWithin (inEntryResults r.entry) (rippleMemory r u.cue xs) (rippleEnded u r xs).cue :=
  changesWithin_endRipple { u with cue := rippleMemory r u.cue xs } (counted r u.cue xs) _

theorem slotWordAt_rippleEnded (u : State) (r : Ripple) (xs : List Slot) (x : Slot) {k : Nat} (hk : k < 32) :
    slotWordAt (rippleEnded u r xs).cue x k = slotWordAt (rippleMemory r u.cue xs) x k :=
  (changesWithin_rippleEnded u r xs).read fun h => not_inEntryResults_of_inScenes (inScenes_slotBase_add x hk) h

theorem entryWord_rippleMemory (r : Ripple) (m : Memory) (xs : List Slot) (i : Fin 32) {k : Nat} (hk : k < 64) :
    entryWord (rippleMemory r m xs) i k = entryWord m i k :=
  (changesWithin_rippleMemory r m xs).read fun h => not_inScenes_entryBase_add hk (inScenes_of_inSceneFields h)

/-- The visits change the words of scenes and the results of the ripple's entry alone. -/
theorem read_rippleEnded {x : Nat} (hentry : ¬inEntryResults r.entry x) (hscene : ¬inSceneFields x) :
    Memory.read (rippleEnded u r xs).cue x = Memory.read u.cue x :=
  ((changesWithin_rippleEnded u r xs).read hentry).trans ((changesWithin_rippleMemory r u.cue xs).read hscene)

/-- The scenes of a run of visits, told from the memory before them. -/
theorem scenes_of_rippleMemory {m m' : Memory} (hslots : ∀ x k, k < 32 → slotWordAt u.cue x k = slotWordAt m x k)
    (hafter : ∀ x k, k < 32 → slotWordAt m' x k = slotWordAt (rippleMemory r u.cue xs) x k) (hnodup : xs.Nodup) :
    (∀ x ∈ unmarked r.number m xs, SceneVisited r m m' x) ∧
      ∀ x, x ∉ unmarked r.number m xs → ∀ w, w < 32 → slotWordAt m' x w = slotWordAt m x w := by
  refine ⟨fun x hx => ?_, fun x hx w hw => ?_⟩
  · obtain ⟨hmem, hmark⟩ := List.mem_filter.mp hx
    have hmark' : sceneMark u.cue x ≠ r.number := by
      rw [show sceneMark u.cue x = sceneMark m x from hslots x 8 (by omega)]
      exact bne_iff_ne.mp hmark
    exact ((sceneVisited_rippleMemory hnodup u.cue hmem hmark').of_before (hslots x)).of_after (hafter x)
  · have hout : x ∉ xs ∨ sceneMark u.cue x = r.number := by
      rw [show sceneMark u.cue x = sceneMark m x from hslots x 8 (by omega)]
      by_cases hmem : x ∈ xs
      · exact .inr (by_contra fun hmark => hx (List.mem_filter.mpr ⟨hmem, bne_iff_ne.mpr hmark⟩))
      · exact .inl hmem
    rw [hafter x w hw, slotWordAt_rippleMemory_other _ hout hw, hslots x w hw]

/-- A ripple ended: none in flight, its entry finished with its counts, REQUEST NOTIFY where the entry calls for it
(R103, R128). -/
theorem endRipple_raiseNotify (u : State) (q : Ripple) (c : ResultCode) :
    (u.endRipple q c).raiseNotify.requests.ripple = none ∧
    finished (u.endRipple q c).raiseNotify.cue q.entry c.word.toNat (natDWord q.done) (natDWord q.clamped) ∧
    (notifyFlag u.cue q.entry = true →
      (u.endRipple q c).raiseNotify.causeSet .request = true ∧
        (u.endRipple q c).raiseNotify.matrix.notifyWaiting = true) := by
  have hcue : (u.endRipple q c).raiseNotify.cue =
      (u.finishEntry q.entry { code := c, a := natDWord q.done, b := natDWord q.clamped }).cue := by
    simp [State.endRipple]
  have hport : (u.endRipple q c).raiseNotify.port =
      (u.finishEntry q.entry { code := c, a := natDWord q.done, b := natDWord q.clamped }).port := by
    simp [State.endRipple]
  have hdue : (u.endRipple q c).requests.notifyDue = (u.requests.notifyDue || notifyFlag u.cue q.entry) := by
    simp [State.endRipple, finishEntry_requests]
  refine ⟨?_, ?_, fun hset => ⟨?_, ?_⟩⟩
  · rw [raiseNotify_requests]
    rfl
  · rw [hcue]
    exact finished_finishEntry u q.entry _
  · have hcauses := causeSet_congr (congrArg (fun p => p.causes) hport) .request
    rw [hcauses, causeSet_finishEntry, hset]
    simp
  · rw [raiseNotify_matrix, hdue, hset]
    simp

/-- Visits that reach the end slot (R128). -/
theorem visitsMade_of_ended (hslots : ∀ x k, k < 32 → slotWordAt u.cue x k = slotWordAt s.cue x k)
    (hflag : entryWord u.cue r.entry 2 = entryWord s.cue r.entry 2) (hnodup : l.Nodup) (hstep : b - a + 1 ≤ r.step)
    (hrun : u.rippleVisits = rippleEnded u r ((l.drop a).take (b - a + 1))) :
    s.visitsMade u.rippleVisits.raiseNotify r l a b := by
  have hmin : min (b - a + 1) r.step = b - a + 1 := Nat.min_eq_left hstep
  unfold State.visitsMade
  rw [hmin, hrun]
  generalize hxs : (l.drop a).take (b - a + 1) = xs
  have hxsNodup : xs.Nodup := hxs ▸ hnodup.sublist ((List.take_sublist _ _).trans (List.drop_sublist _ _))
  have hcounts : counted r u.cue xs = counted r s.cue xs := counted_congr hslots r xs
  have hcue : (rippleEnded u r xs).raiseNotify.cue = (rippleEnded u r xs).cue := by simp
  obtain ⟨hvisited, hother⟩ := scenes_of_rippleMemory (m' := (rippleEnded u r xs).raiseNotify.cue) hslots
    (fun x k hk => by rw [hcue]; exact slotWordAt_rippleEnded u r xs x hk) hxsNodup
  have hnotify : notifyFlag (rippleMemory r u.cue xs) r.entry = notifyFlag s.cue r.entry := by
    unfold notifyFlag
    rw [entryWord_rippleMemory r u.cue xs r.entry (by omega), hflag]
  obtain ⟨hnone, hdone, hset⟩ := endRipple_raiseNotify { u with cue := rippleMemory r u.cue xs } (counted r u.cue xs)
    (okOr (decide ((counted r u.cue xs).clamped ≠ 0)))
  refine ⟨fun x hx => ?_, hother, fun _ => ⟨hnone, ?_, fun hsetFlag => hset (hnotify.trans hsetFlag)⟩,
    fun hlt => absurd hlt (by omega)⟩
  · obtain ⟨hgrade, hmark, hserial, hkept⟩ := hvisited x hx
    exact ⟨hgrade, hmark, hserial, hkept⟩
  · have hfinished : finished (rippleEnded u r xs).raiseNotify.cue r.entry
        (okOr (decide ((counted r u.cue xs).clamped ≠ 0))).word.toNat (natDWord (counted r u.cue xs).done)
        (natDWord (counted r u.cue xs).clamped) := hdone
    rw [okOr_code, hcounts, ite_not] at hfinished
    exact hfinished

/-- Visits that stop short of the end slot (R125). -/
theorem visitsMade_of_moved {y : Slot} (hslots : ∀ x k, k < 32 → slotWordAt u.cue x k = slotWordAt s.cue x k)
    (htaken : entryWord u.cue r.entry 0 = 2) (hnodup : l.Nodup) (hstep : r.step < b - a + 1)
    (hy : l[a + r.step]? = some y) (hrun : u.rippleVisits = rippleMoved u r ((l.drop a).take r.step) y) :
    s.visitsMade u.rippleVisits.raiseNotify r l a b := by
  have hmin : min (b - a + 1) r.step = r.step := Nat.min_eq_right (by omega)
  unfold State.visitsMade
  rw [hmin, hrun]
  generalize hxs : (l.drop a).take r.step = xs
  have hxsNodup : xs.Nodup := hxs ▸ hnodup.sublist ((List.take_sublist _ _).trans (List.drop_sublist _ _))
  have hcounts : counted r u.cue xs = counted r s.cue xs := counted_congr hslots r xs
  have hcue : (rippleMoved u r xs y).raiseNotify.cue = rippleMemory r u.cue xs := by simp [rippleMoved]
  obtain ⟨hvisited, hother⟩ := scenes_of_rippleMemory (m' := (rippleMoved u r xs y).raiseNotify.cue) hslots
    (fun x k _ => by rw [hcue]) hxsNodup
  refine ⟨fun x hx => ?_, hother, fun hle => absurd hle (by omega), fun _ => ⟨?_, y, hy, ?_⟩⟩
  · obtain ⟨hgrade, hmark, hserial, hkept⟩ := hvisited x hx
    exact ⟨hgrade, hmark, hserial, hkept⟩
  · rw [hcue, entryWord_rippleMemory r u.cue xs r.entry (by omega), htaken]
  · have hkept : (rippleMoved u r xs y).raiseNotify.requests.ripple = some { counted r u.cue xs with next := y } := by
      simp [rippleMoved]
    rw [hkept, hcounts]
    rfl

/-- The visits of one ACTIVE START, from the a-th scene of the list toward the b-th (R125, R126, R128). -/
theorem visitsMade_of_links (hslots : ∀ x k, k < 32 → slotWordAt u.cue x k = slotWordAt s.cue x k)
    (hflag : entryWord u.cue r.entry 2 = entryWord s.cue r.entry 2) (htaken : entryWord u.cue r.entry 0 = 2)
    (hripple : u.requests.ripple = some r) (hpass : u.pass.state ≠ .recording) (h : ListLinks u.cue l)
    (ha : l[a]? = some r.next) (hb : l[b]? = some r.last) (hab : a ≤ b) :
    s.visitsMade u.rippleVisits.raiseNotify r l a b ∧
      ∀ x, ¬inEntryResults r.entry x → ¬inSceneFields x →
        Memory.read u.rippleVisits.raiseNotify.cue x = Memory.read u.cue x := by
  have hcue : u.rippleVisits.raiseNotify.cue = u.rippleVisits.cue := by simp
  have hrun := rippleVisits_of_some hripple
  by_cases hstep : b - a + 1 ≤ r.step
  · rw [visits_of_end hripple hpass h ha hb hab hstep] at hrun
    refine ⟨visitsMade_of_ended hslots hflag h.nodup hstep hrun, fun x hentry hscene => ?_⟩
    rw [hcue, hrun]
    exact read_rippleEnded hentry hscene
  · obtain ⟨hblt, -⟩ := List.getElem?_eq_some_iff.mp hb
    have hy : l[a + r.step]? = some l[a + r.step] := List.getElem?_eq_getElem (by omega)
    rw [visits_of_short hripple hpass h ha hb (by omega) hy] at hrun
    refine ⟨visitsMade_of_moved hslots htaken h.nodup (by omega) hy hrun, fun x _ hscene => ?_⟩
    rw [hcue, hrun]
    exact (changesWithin_rippleMemory r u.cue _).read hscene

end Made

/-! ### RIPPLE taken (R123, R124) -/

/-- The state a RIPPLE that passes its checks leaves before its visits: its entry TAKEN, its record in flight. -/
def rippleTaken (s : State) (i : Fin 32) (a b : Slot) : State :=
  { s with
    cue := Memory.write s.cue (entryBase i) stateTaken
    requests :=
      { s.requests with
        ripple := some (s.newRipple i a b)
        rippleCounter := nextRippleNumber s.requests.rippleCounter } }

section Taken
variable {s : State} {i : Fin 32}

theorem takeRipple_of_checks {a b : Slot} (ha : entryWord s.cue i 8 = natWord a.val)
    (hb : entryWord s.cue i 9 = natWord b.val) (hlistedA : listed s.cue a = true) (hlistedB : listed s.cue b = true)
    (horder : sceneStart s.cue a ≤ sceneStart s.cue b) (hpass : s.pass.state ≠ .recording) :
    s.takeRipple i = rippleTaken s i a b := by
  have hair : s.runOnAir a b = false := by
    unfold State.runOnAir State.recording
    rw [beq_eq_false_iff_ne.mpr hpass, Bool.false_and]
  unfold State.takeRipple operandSlotA operandSlotB
  rw [listedSlot_eq_some ha hlistedA, listedSlot_eq_some hb hlistedB]
  dsimp only
  rw [if_neg (by omega), if_neg (Bool.eq_false_iff.mp hair)]
  rfl

theorem inEntryResults_entryBase (i : Fin 32) : inEntryResults i (entryBase i) := ⟨0, .inl rfl, rfl⟩

/-- Taking a RIPPLE writes its entry alone. -/
theorem changesWithin_rippleTaken (s : State) (i : Fin 32) (a b : Slot) :
    Memory.ChangesWithin (inEntryResults i) s.cue (rippleTaken s i a b).cue :=
  changesWithin_write s.cue stateTaken (inEntryResults_entryBase i) (entryBase_add_lt (k := 0) (by omega))

/-- Settles O49: the record taken is the one the request describes, and its visits are those of `visitsMade_of_links`. -/
theorem rippleAppliesDeltasOnce : Obligations.RippleAppliesDeltasOnce := by
  unfold Obligations.RippleAppliesDeltasOnce
  intro s i l a b ha hb h hl hab hwordA hwordB hpass _
  obtain ⟨hlinks, hstates⟩ := isSceneList_iff.mp hl
  have horder : sceneStart s.cue l[a] ≤ sceneStart s.cue l[b] := by
    rcases Nat.lt_or_eq_of_le hab with hlt | rfl
    · exact (hlinks.start_lt ha hb hlt).le
    · exact le_rfl
  have htake : s.takeActiveFlag.takeEntry i = rippleTaken s.takeActiveFlag i l[a] l[b] :=
    (taken_ripple h).trans (takeRipple_of_checks (s := s.takeActiveFlag) hwordA hwordB
      (hstates.listed_iff.mpr (List.getElem_mem ha)) (hstates.listed_iff.mpr (List.getElem_mem hb)) horder hpass)
  have hkept := changesWithin_rippleTaken s.takeActiveFlag i l[a] l[b]
  have hslots (x : Slot) (k : Nat) (hk : k < 32) :
      slotWordAt (rippleTaken s.takeActiveFlag i l[a] l[b]).cue x k = slotWordAt s.cue x k :=
    hkept.read (not_inEntryResults_of_inScenes (inScenes_slotBase_add x hk))
  have hindex := OneRequest.takeIndex h
  have hexec := exec_activeStart_of_oneRequest h htake hindex
    (hkept.read (not_inEntryResults_other (fin32_add_one_ne i) (by omega)))
  have htaken : entryWord (rippleTaken s.takeActiveFlag i l[a] l[b]).advanceTake.cue i 0 = 2 :=
    Memory.read_write_same s.cue (entryBase i) stateTaken
  have hflag : entryWord (rippleTaken s.takeActiveFlag i l[a] l[b]).advanceTake.cue i 2 = entryWord s.cue i 2 :=
    hkept.read (not_inEntryResults_flags i)
  obtain ⟨hmade, hread⟩ := visitsMade_of_links (s := s) (u := (rippleTaken s.takeActiveFlag i l[a] l[b]).advanceTake)
    (r := s.newRipple i l[a] l[b]) (a := a) (b := b) hslots hflag htaken rfl hpass
    (hlinks.congr (fun x _ k _ hk => hslots x k (by omega)) (hslots 0 5 (by omega)))
    (List.getElem?_eq_getElem ha) (List.getElem?_eq_getElem hb) hab
  refine ⟨_, s.newRipple i l[a] l[b], hexec, rfl, ?_, rfl, rfl, rfl, rfl, rfl, rfl, fun k => ⟨?_, ?_⟩, hmade, ?_, ?_, ?_, ?_,
    ?_, ?_, ?_, ?_, fun x hx hs => (hread x hx hs).trans (hkept.read hx)⟩
  · simp [State.advanceTake, rippleTaken, State.newRipple, State.takeActiveFlag]
  · exact operandMask_getElem s.cue i k
  · exact operandGrade_getElem s.cue i k
  · simpa [State.advanceTake, rippleTaken, State.takeActiveFlag] using hindex
  all_goals simp [State.advanceTake, rippleTaken, State.takeActiveFlag]

end Taken

/-! ### A ripple in flight (R125 to R128, R130) -/

section InFlight
variable {s : State} {i : Fin 32} {r : Ripple}

/-- A POSTED entry of the edit class stops the scan while a ripple is in flight (R100). -/
theorem scanStops_of_edit (hripple : s.requests.ripple = some r) (hkind : entryIsEdit s.cue s.requests.takeIndex = true) :
    s.scanStops = true := by
  unfold State.scanStops
  rw [hkind, hripple]
  exact Bool.or_true _

theorem requestKind_of_edit {w : Word} (h : 1 ≤ w.toNat ∧ w.toNat ≤ 9) : ∃ k, requestKind w = some k ∧ k.edit = true := by
  rw [requestKind_of_toNat (w := w) rfl]
  obtain ⟨hlow, hhigh⟩ := h
  generalize w.toNat = n at hlow hhigh ⊢
  interval_cases n
  all_goals exact ⟨_, rfl, rfl⟩

theorem cancelRipple_of_some (hripple : s.requests.ripple = some r) :
    s.cancelRipple = (s.endRipple r .aborted, { code := .ok, a := natDWord r.entry.val, b := wordDWord r.number }) := by
  unfold State.cancelRipple
  rw [hripple]

/-- A visit to an unmarked scene of the on-air set while RECORDING ends the ripple (R127). -/
theorem rippleVisits_of_onAir (hripple : s.requests.ripple = some r) (hstep : 1 ≤ r.step)
    (hrecording : s.pass.state = .recording) (hair : s.onAirHolds r.next = true) (hmark : sceneMark s.cue r.next ≠ r.number) :
    s.rippleVisits = s.endRipple r .onAir := by
  obtain ⟨n, hn⟩ : ∃ n, r.step = n + 1 := ⟨r.step - 1, by omega⟩
  have hvisit : s.visit r = s.endRipple r .onAir := by
    unfold State.visit
    rw [if_neg hmark, if_pos ((slotOnAir_of_recording hrecording).trans hair)]
  rw [rippleVisits_of_some hripple, hn, visits_succ hripple, hvisit, visits_of_none (by rfl)]

section Handled
variable (hrun : s.port.run = .running) (hopen : s.sequencer.activeStartTaken = false) (hread : s.engine.read = none)
  (hsplit : s.requests.splitPending = none) (hripple : s.requests.ripple = some r) (hindex : s.requests.takeIndex = i)
include hrun hopen hread hsplit hripple hindex

/-- The scan takes nothing at an entry that is not POSTED, and no edit behind the ripple (R100): the visits alone. -/
theorem exec_activeStart_of_visits
    (hentry : entryWord s.cue i 0 ≠ 1 ∨ (1 ≤ (entryWord s.cue i 1).toNat ∧ (entryWord s.cue i 1).toNat ≤ 9)) :
    exec .activeStart s = .next s.takeActiveFlag.rippleVisits.raiseNotify := by
  have hstops : s.takeActiveFlag.scanStops = true := by
    subst hindex
    rcases hentry with hnot | hkind
    · exact scanStops_of_not_posted hnot
    · obtain ⟨k, hk, hedit⟩ := requestKind_of_edit hkind
      exact scanStops_of_edit (s := s.takeActiveFlag) hripple ((entryIsEdit_of_kind hk).trans hedit)
  rw [exec_activeStart_of_scan hrun hopen hread hsplit, scan_of_stops hstops]

/-- A CANCEL RIPPLE ends the ripple and finishes its own entry (R130). -/
theorem exec_activeStart_of_cancel (hposted : entryWord s.cue i 0 = 1) (hkind : entryWord s.cue i 1 = 0x18)
    (hnext : entryWord s.cue (i + 1) 0 ≠ 1) :
    exec .activeStart s = .next (State.lone i (s.takeActiveFlag.endRipple r .aborted,
      { code := .ok, a := natDWord r.entry.val, b := wordDWord r.number })) := by
  have hcancel : requestKind (entryWord s.takeActiveFlag.cue i 1) = some .cancelRipple := by
    change requestKind (entryWord s.cue i 1) = _
    rw [hkind]
    rfl
  have htakes : s.takeActiveFlag.scanStops = false := by
    subst hindex
    refine scanStops_of_posted hposted fun hedit => ?_
    exact absurd ((entryIsEdit_of_kind hcancel).symm.trans hedit) (by decide)
  have htake : s.takeActiveFlag.takeEntry i = finishWith i (s.takeActiveFlag.endRipple r .aborted,
      { code := .ok, a := natDWord r.entry.val, b := wordDWord r.number }) := by
    unfold State.takeEntry
    rw [hcancel]
    dsimp only
    rw [cancelRipple_of_some (s := s.takeActiveFlag) hripple]
  have hstops : (finishWith i (s.takeActiveFlag.endRipple r .aborted,
      { code := .ok, a := natDWord r.entry.val, b := wordDWord r.number })).advanceTake.scanStops = true := by
    refine scanStops_of_not_posted ?_
    have htakeIndex : (finishWith i (s.takeActiveFlag.endRipple r .aborted,
        { code := .ok, a := natDWord r.entry.val, b := wordDWord r.number })).advanceTake.requests.takeIndex = i + 1 := by
      simpa [finishWith, State.advanceTake, State.takeActiveFlag] using hindex
    rw [htakeIndex]
    refine (entryWord_finishEntry_other _ (fin32_add_one_ne i) _ (by omega)).trans_ne ?_
    by_cases hown : r.entry = i + 1
    · rw [← hown]
      refine (entryWord_finishEntry_zero s.takeActiveFlag r.entry
        { code := .aborted, a := natDWord r.done, b := natDWord r.clamped }).trans_ne ?_
      change stateRefused ≠ 1
      decide
    · exact (entryWord_finishEntry_other s.takeActiveFlag hown
        { code := .aborted, a := natDWord r.done, b := natDWord r.clamped } (by omega)).trans_ne hnext
  have hfirst : s.takeActiveFlag.requests.takeIndex = i := hindex
  have hnone : (finishWith i (s.takeActiveFlag.endRipple r .aborted,
      { code := .ok, a := natDWord r.entry.val, b := wordDWord r.number })).advanceTake.requests.ripple = none := by
    simp [finishWith, State.advanceTake, State.endRipple]
  rw [exec_activeStart_of_scan hrun hopen hread hsplit, scan_of_takes htakes, hfirst, htake, scan_of_stops hstops,
    rippleVisits_of_none hnone]
  rfl

end Handled

/-- Settles O50: the scan first, then the visits of `visitsMade_of_links`, or the end by a cancel or on air. -/
theorem rippleGoesOnOrEnds : Obligations.RippleGoesOnOrEnds := by
  unfold Obligations.RippleGoesOnOrEnds
  intro s i r hrun hopen hread hsplit hripple hindex hentry
  refine ⟨_, exec_activeStart_of_scan hrun hopen hread hsplit, ?_, ?_, ?_⟩
  · intro l a b hstops _ hpass hl ha hb hab htaken
    obtain ⟨hlinks, -⟩ := isSceneList_iff.mp hl
    have hexec := (exec_activeStart_of_scan hrun hopen hread hsplit).symm.trans
      (exec_activeStart_of_visits hrun hopen hread hsplit hripple hindex hstops)
    rw [Host.Outcome.next.inj hexec]
    obtain ⟨hmade, hkept⟩ := visitsMade_of_links (s := s) (u := s.takeActiveFlag) (fun _ _ _ => rfl) rfl htaken hripple
      hpass hlinks ha hb hab
    exact ⟨hmade, by simpa using hindex, by simp, by simp, by simp, by simp, hkept⟩
  · intro hposted hkind hnext
    have hexec := (exec_activeStart_of_scan hrun hopen hread hsplit).symm.trans
      (exec_activeStart_of_cancel hrun hopen hread hsplit hripple hindex hposted hkind hnext)
    rw [Host.Outcome.next.inj hexec]
    refine ⟨by simp [lone_requests, State.endRipple], by simpa using hindex, finished_lone i _ rfl rfl rfl, ?_, by simp, by simp,
      by simp, fun x hown hother => ?_⟩
    · refine finished_congr (finished_finishEntry s.takeActiveFlag r.entry
        { code := .aborted, a := natDWord r.done, b := natDWord r.clamped }) fun k hk => ?_
      rw [lone_cue]
      exact entryWord_finishEntry_other _ hentry _ hk
    · exact (read_lone i _ hown).trans ((changesWithin_endRipple s.takeActiveFlag r .aborted).read hother)
  · intro hposted hstep hrecording hair hmark
    have hexec := (exec_activeStart_of_scan hrun hopen hread hsplit).symm.trans
      (exec_activeStart_of_visits hrun hopen hread hsplit hripple hindex (.inl hposted))
    rw [Host.Outcome.next.inj hexec,
      rippleVisits_of_onAir (s := s.takeActiveFlag) hripple hstep hrecording hair hmark]
    obtain ⟨hnone, hdone, -⟩ := endRipple_raiseNotify s.takeActiveFlag r .onAir
    refine ⟨hnone, by simpa using hindex, hdone, by simp, by simp, by simp, fun x hx => ?_⟩
    have hcue : (s.takeActiveFlag.endRipple r .onAir).raiseNotify.cue = (s.takeActiveFlag.endRipple r .onAir).cue := by
      simp
    rw [hcue]
    exact (changesWithin_endRipple s.takeActiveFlag r .onAir).read hx

end InFlight

end Sys2Proof.Proofs

/-! What an ACTIVE START takes of the request table, and in which order (O37, O38). -/

namespace Sys2Proof.Proofs
open Sys2Proof.Machine

/-! ### An entry that is not taken -/

/-- A part of the handling leaves an entry alone, unless it is the entry of the ripple in flight, and puts no ripple of
that entry in flight. -/
def KeepsEntry (j : Fin 32) (s t : State) : Prop :=
  (∀ r, s.requests.ripple = some r → r.entry ≠ j) →
    (∀ k, k < 64 → entryWord t.cue j k = entryWord s.cue j k) ∧ ∀ q, t.requests.ripple = some q → q.entry ≠ j

section Keeps
variable {s t u : State} {i j : Fin 32}

theorem KeepsEntry.trans (h : KeepsEntry j s t) (h' : KeepsEntry j t u) : KeepsEntry j s u := fun hs => by
  obtain ⟨hword, hripple⟩ := h hs
  obtain ⟨hword', hripple'⟩ := h' hripple
  exact ⟨fun k hk => (hword' k hk).trans (hword k hk), hripple'⟩

theorem keepsEntry_of_changesWithin {P : Nat → Prop} (hcue : Memory.ChangesWithin P s.cue t.cue)
    (hP : ∀ k, k < 64 → ¬P (entryBase j + k))
    (hripple : ∀ q, t.requests.ripple = some q → ∃ r, s.requests.ripple = some r ∧ r.entry = q.entry) :
    KeepsEntry j s t := fun hs =>
  ⟨fun k hk => hcue.read (hP k hk), fun q hq => by
    obtain ⟨r, hr, hentry⟩ := hripple q hq
    exact hentry ▸ hs r hr⟩

theorem keepsEntry_of_ripple {P : Nat → Prop} (hcue : Memory.ChangesWithin P s.cue t.cue)
    (hP : ∀ k, k < 64 → ¬P (entryBase j + k)) (hripple : t.requests.ripple = s.requests.ripple) : KeepsEntry j s t :=
  keepsEntry_of_changesWithin hcue hP fun q hq => ⟨q, hripple ▸ hq, rfl⟩

theorem keepsEntry_of_same (hcue : t.cue = s.cue) (hripple : t.requests.ripple = s.requests.ripple) : KeepsEntry j s t :=
  keepsEntry_of_ripple (P := fun _ => False) (.of_eq hcue) (fun _ _ => id) hripple

theorem keepsEntry_finishEntry (hij : i ≠ j) (s : State) (r : Result) : KeepsEntry j s (s.finishEntry i r) :=
  keepsEntry_of_ripple (changesWithin_finishEntry s i r) (fun _ hk => not_inEntryResults_other hij hk) (by simp)

/-- The end of the ripple in flight leaves every entry but its own. -/
theorem keepsEntry_endRipple {r q : Ripple} (hq : s.requests.ripple = some q) (he : r.entry = q.entry) (c : ResultCode) :
    KeepsEntry j s (s.endRipple r c) := fun hs => by
  have hne : r.entry ≠ j := he ▸ hs q hq
  exact keepsEntry_of_changesWithin (changesWithin_endRipple s r c) (fun _ hk => not_inEntryResults_other hne hk)
    (fun q' hq' => by simp [State.endRipple] at hq') hs

theorem not_inRequestWork_other (hij : i ≠ j) {k : Nat} (hk : k < 64) : ¬inRequestWork i (entryBase j + k) := by
  have hj := entryBase_bounds j
  rintro (h | h | h | h)
  · exact not_inSceneFields_entryBase hk h
  · unfold inPassBlock at h; omega
  · unfold inRing at h; omega
  · exact not_inEntryResults_other hij hk
      ⟨entryBase j + k - entryBase i, by unfold inProbeOutput at h; unfold resultWord; omega, by
        unfold inProbeOutput at h; omega⟩

/-- A request that leaves the ripple, its cells those of the request, its entry finished. -/
theorem keepsEntry_finishWith (hij : i ≠ j) {answer : State × Result}
    (hcue : Memory.ChangesWithin (inRequestWork i) s.cue answer.1.cue)
    (hripple : answer.1.requests.ripple = s.requests.ripple) : KeepsEntry j s (finishWith i answer) :=
  (keepsEntry_of_ripple hcue (fun _ hk => not_inRequestWork_other hij hk) hripple).trans (keepsEntry_finishEntry hij _ _)

theorem keepsEntry_takeRipple (hij : i ≠ j) (s : State) : KeepsEntry j s (s.takeRipple i) := by
  unfold State.takeRipple
  split
  · split
    · exact keepsEntry_finishEntry hij _ _
    · split
      · exact keepsEntry_finishEntry hij _ _
      · next a b _ _ _ _ => exact fun hs =>
          ⟨fun k hk => (changesWithin_rippleTaken s i a b).read (not_inEntryResults_other hij hk), fun q hq => by
            cases hq
            exact hij⟩
  · exact keepsEntry_finishEntry hij _ _

theorem keepsEntry_cancelRipple (s : State) : KeepsEntry j s s.cancelRipple.1 := by
  unfold State.cancelRipple
  split
  · exact keepsEntry_of_same rfl rfl
  · next r hr => exact keepsEntry_endRipple hr rfl .aborted

/-- Taking an entry leaves every other entry but that of the ripple in flight. -/
theorem keepsEntry_takeEntry (hij : i ≠ j) (s : State) : KeepsEntry j s (s.takeEntry i) := by
  have hscenes {answer : State × Result} (hcue : Memory.ChangesWithin inSceneFields s.cue answer.1.cue)
      (hripple : answer.1.requests.ripple = s.requests.ripple) : KeepsEntry j s (finishWith i answer) :=
    keepsEntry_finishWith hij (hcue.mono fun _ => .inl) hripple
  have hpass {answer : State × Result} (hcue : Memory.ChangesWithin inPassOrRing s.cue answer.1.cue)
      (hripple : answer.1.requests.ripple = s.requests.ripple) : KeepsEntry j s (finishWith i answer) :=
    keepsEntry_finishWith hij (hcue.mono fun _ => inRequestWork_of_inPassOrRing) hripple
  unfold State.takeEntry
  split
  · exact hscenes (changesWithin_insertScene s i) (by simp)
  · exact hscenes (changesWithin_deleteScene s i) (by simp)
  · exact hscenes (changesWithin_moveScene s i) (by simp)
  · exact hscenes (changesWithin_regradeScene s i) (by simp)
  · exact hscenes (changesWithin_setDissolve s i) (by simp)
  · exact hscenes (changesWithin_storeLive s i) (by simp)
  · exact keepsEntry_takeRipple hij s
  · exact hscenes (changesWithin_clearList s) (by simp)
  · exact hscenes (.of_eq (applySetup_cue s)) (by simp)
  · exact hscenes (.of_eq (by simp)) (by simp)
  · exact hscenes (.of_eq (by simp)) (by simp)
  · exact hpass (changesWithin_startPass s i) (by simp)
  · exact hpass (changesWithin_stopPass s) (by simp)
  · exact hpass (changesWithin_resumePass s) (by simp)
  · exact hpass (changesWithin_abandonPass s) (by simp)
  · exact hscenes (.of_eq (by simp)) (by simp)
  · exact keepsEntry_finishWith hij ((changesWithin_probe s i).mono fun _ h => .inr (.inr (.inr h))) (by simp)
  · exact (keepsEntry_cancelRipple s).trans (keepsEntry_finishEntry hij _ _)
  · exact keepsEntry_finishEntry hij _ _

/-- The visits leave every entry but that of the ripple in flight. -/
theorem keepsEntry_afterVisit {r q : Ripple} (hq : s.requests.ripple = some q) (he : r.entry = q.entry) :
    KeepsEntry j s (s.afterVisit r) := by
  unfold State.afterVisit
  split
  · exact keepsEntry_endRipple hq he _
  · refine keepsEntry_of_changesWithin (P := fun _ => False) (.of_eq (by simp)) (fun _ _ => id) fun q' hq' => ⟨q, hq, ?_⟩
    rw [← Option.some.inj hq']
    exact he.symm

theorem keepsEntry_visit {r : Ripple} (h : s.requests.ripple = some r) : KeepsEntry j s (s.visit r) := by
  unfold State.visit
  split
  · exact keepsEntry_afterVisit h rfl
  · split
    · exact keepsEntry_endRipple h rfl _
    · have hvisited : KeepsEntry j s { s with cue := visitMemory s.cue r } :=
        keepsEntry_of_ripple (changesWithin_visitMemory s.cue r)
          (fun _ hk hin => not_inSceneFields_entryBase hk ⟨_, hin⟩) rfl
      exact hvisited.trans (keepsEntry_afterVisit (q := r) h rfl)

theorem keepsEntry_visits (fuel : Nat) (s : State) : KeepsEntry j s (State.visits fuel s) := by
  induction fuel generalizing s with
  | zero => exact keepsEntry_of_same rfl rfl
  | succ fuel ih =>
    unfold State.visits
    split
    · next r h => exact (keepsEntry_visit h).trans (ih _)
    · exact keepsEntry_of_same rfl rfl

theorem keepsEntry_rippleVisits (s : State) : KeepsEntry j s s.rippleVisits := by
  unfold State.rippleVisits
  split
  · exact keepsEntry_visits _ _
  · exact keepsEntry_of_same rfl rfl

/-- A split leaves a ripple in flight where there is one, of the same entry (R129). -/
theorem split_ripple (s : State) (f : Int) :
    (s.split f).requests.ripple = s.requests.ripple ∨
      ∃ cover x, (s.split f).requests.ripple = rippleAfterSplit s.cue cover x s.requests.ripple := by
  unfold State.split
  split
  · exact .inl (by simp)
  · dsimp only
    split
    · exact .inl (by simp)
    · split
      · exact .inl (by simp)
      · next x _ _ => exact .inr ⟨coveringScene s.cue f, x, by simp [State.makeSplit]⟩

theorem entry_of_rippleAfterSplit {m : Memory} {cover x : Slot} {o : Option Ripple} {q : Ripple}
    (h : rippleAfterSplit m cover x o = some q) : ∃ r, o = some r ∧ r.entry = q.entry := by
  obtain ⟨r, hr, rfl⟩ := Option.map_eq_some_iff.mp h
  exact ⟨r, hr, by split <;> rfl⟩

theorem executeSplit_of_some {f : Int} (h : s.requests.splitPending = some f) :
    s.executeSplit = (s.setSplitPending none).split f := by
  unfold State.executeSplit
  rw [h]

theorem executeSplit_of_none (h : s.requests.splitPending = none) : s.executeSplit = s := by
  unfold State.executeSplit
  rw [h]

theorem changesWithin_executeSplit (s : State) :
    Memory.ChangesWithin (fun a => inSceneFields a ∨ inRing a) s.cue s.executeSplit.cue := by
  cases hsplit : s.requests.splitPending with
  | none => exact .of_eq (by rw [executeSplit_of_none hsplit])
  | some f =>
    rw [executeSplit_of_some hsplit]
    exact changesWithin_split (s.setSplitPending none) f

theorem not_inSceneFields_or_inRing_entryBase {k : Nat} (hk : k < 64) :
    ¬(inSceneFields (entryBase j + k) ∨ inRing (entryBase j + k)) := by
  have hj := entryBase_bounds j
  rintro (h | h)
  · exact not_inSceneFields_entryBase hk h
  · unfold inRing at h; omega

theorem keepsEntry_executeSplit (s : State) : KeepsEntry j s s.executeSplit := by
  refine keepsEntry_of_changesWithin (changesWithin_executeSplit s) (fun _ => not_inSceneFields_or_inRing_entryBase)
    fun q hq => ?_
  cases hsplit : s.requests.splitPending with
  | none => exact ⟨q, by rwa [executeSplit_of_none hsplit] at hq, rfl⟩
  | some f =>
    rw [executeSplit_of_some hsplit] at hq
    rcases split_ripple (s.setSplitPending none) f with hsame | ⟨cover, x, hafter⟩
    · exact ⟨q, hsame.symm.trans hq, rfl⟩
    · exact entry_of_rippleAfterSplit (hafter.symm.trans hq)

/-- A ripple in flight still is after the split. -/
theorem executeSplit_ripple_isSome (h : s.requests.ripple.isSome = true) : s.executeSplit.requests.ripple.isSome = true := by
  cases hsplit : s.requests.splitPending with
  | none => rwa [executeSplit_of_none hsplit]
  | some f =>
    rw [executeSplit_of_some hsplit]
    rcases split_ripple (s.setSplitPending none) f with hsame | ⟨cover, x, hafter⟩
    · rw [hsame]
      exact h
    · rw [hafter]
      unfold rippleAfterSplit
      rw [Option.isSome_map]
      exact h

/-! ### The scan -/

theorem advance_ofNat (i : Fin 32) (n : Nat) : i + 1 + Fin.ofNat 32 n = i + Fin.ofNat 32 (n + 1) := by
  refine Fin.ext ?_
  simp only [Fin.val_add, Fin.val_ofNat, Fin.val_one]
  omega

/-- The scan takes entries in ring order, at most so many, and leaves those that it does not take (R100). -/
theorem scan_takes_in_order (fuel : Nat) (s : State) :
    ∃ n, n ≤ fuel ∧ (State.scan fuel s).requests.takeIndex = s.requests.takeIndex + Fin.ofNat 32 n ∧
      (s.scanStops = true → n = 0) ∧
      ∀ j : Fin 32, (∀ k, k < n → j ≠ s.requests.takeIndex + Fin.ofNat 32 k) → KeepsEntry j s (State.scan fuel s) := by
  have hstay : s.requests.takeIndex = s.requests.takeIndex + Fin.ofNat 32 0 := (Fin.add_zero _).symm
  induction fuel generalizing s with
  | zero => exact ⟨0, le_rfl, hstay, fun _ => rfl, fun _ _ => keepsEntry_of_same rfl rfl⟩
  | succ fuel ih =>
    by_cases hstops : s.scanStops = true
    · rw [scan_of_stops hstops]
      exact ⟨0, by omega, hstay, fun _ => rfl, fun _ _ => keepsEntry_of_same rfl rfl⟩
    · rw [scan_of_takes (Bool.eq_false_iff.mpr hstops)]
      obtain ⟨n, hn, hindex, -, hkeeps⟩ := ih (s.takeEntry s.requests.takeIndex).advanceTake (Fin.add_zero _).symm
      have hnext : (s.takeEntry s.requests.takeIndex).advanceTake.requests.takeIndex = s.requests.takeIndex + 1 := by
        simp [State.advanceTake]
      rw [hnext] at hindex hkeeps
      refine ⟨n + 1, by omega, hindex.trans (advance_ofNat _ _), fun h => absurd h hstops, fun j hj => ?_⟩
      have hfirst : s.requests.takeIndex ≠ j := fun h => hj 0 (by omega) (h.symm.trans hstay)
      have hrest := hkeeps j fun k hk h => hj (k + 1) (by omega) (h.trans (advance_ofNat _ _))
      exact ((keepsEntry_takeEntry hfirst s).trans (keepsEntry_of_same rfl rfl)).trans hrest

end Keeps

/-! ### An ACTIVE START -/

section Taken
variable {s : State}

theorem passActiveStart_of_not_running (h : s.port.run ≠ .running) : s.passActiveStart = s.takeActiveFlag := by
  unfold State.passActiveStart
  exact if_neg h

theorem passActiveStart_of_running (h : s.port.run = .running) :
    s.passActiveStart = s.takeActiveFlag.handleActiveStart := by
  unfold State.passActiveStart
  exact if_pos h

/-- The handling of an ACTIVE START takes entries in ring order, at most four (R100). -/
theorem handleActiveStart_takes (s : State) :
    ∃ n, n ≤ 4 ∧ s.handleActiveStart.requests.takeIndex = s.requests.takeIndex + Fin.ofNat 32 n ∧
      (s.executeSplit.scanStops = true → n = 0) ∧
      ∀ j : Fin 32, (∀ k, k < n → j ≠ s.requests.takeIndex + Fin.ofNat 32 k) → KeepsEntry j s s.handleActiveStart := by
  obtain ⟨n, hn, hindex, hstops, hkeeps⟩ := scan_takes_in_order 4 s.executeSplit
  have hsplitIndex : s.executeSplit.requests.takeIndex = s.requests.takeIndex := by simp
  rw [hsplitIndex] at hindex hkeeps
  refine ⟨n, hn, by simpa [State.handleActiveStart] using hindex, hstops, fun j hj => ?_⟩
  have hnotified : KeepsEntry j (State.scan 4 s.executeSplit).rippleVisits s.handleActiveStart :=
    keepsEntry_of_same (by simp [State.handleActiveStart]) (by simp [State.handleActiveStart])
  exact (((keepsEntry_executeSplit s).trans (hkeeps j hj)).trans (keepsEntry_rippleVisits _)).trans hnotified

/-- A ripple in flight and an entry of the edit class at the take index: the scan takes nothing (R100). -/
theorem scanStops_executeSplit {r : Ripple} (hripple : s.requests.ripple = some r)
    (hkind : 1 ≤ (entryWord s.cue s.requests.takeIndex 1).toNat ∧ (entryWord s.cue s.requests.takeIndex 1).toNat ≤ 9) :
    s.executeSplit.scanStops = true := by
  have hindex : s.executeSplit.requests.takeIndex = s.requests.takeIndex := by simp
  obtain ⟨q, hq⟩ := Option.isSome_iff_exists.mp (executeSplit_ripple_isSome (by rw [hripple]; rfl))
  obtain ⟨k, hk, hedit⟩ := requestKind_of_edit hkind
  refine scanStops_of_edit hq ((entryIsEdit_of_kind ?_).trans hedit)
  rw [hindex, ← hk]
  exact congrArg requestKind ((changesWithin_executeSplit s).read (not_inSceneFields_or_inRing_entryBase (by omega)))

/-- Settles O37: the flag first, then what the scan takes. -/
theorem activeStartTakesAtMostFourEntries : Obligations.ActiveStartTakesAtMostFourEntries := by
  unfold Obligations.ActiveStartTakesAtMostFourEntries
  refine ⟨fun s => ⟨exec_activeStart_of_taken, fun hopen hread hidle => ?_⟩, fun s hread => ?_⟩
  · rw [exec_activeStart_of_open hopen, finishLiveRead_of_none hread]
    by_cases hrun : s.port.run = .running
    · obtain ⟨hsplit, hripple, hdue, hentry⟩ := hidle.resolve_left (not_not_intro hrun)
      rw [passActiveStart_of_running hrun, State.handleActiveStart,
        executeSplit_of_none (s := s.takeActiveFlag) hsplit, handled_idle (s := s.takeActiveFlag) hentry hripple hdue]
      rfl
    · rw [passActiveStart_of_not_running hrun]
      rfl
  · have hstay : s.requests.takeIndex = s.requests.takeIndex + Fin.ofNat 32 0 := (Fin.add_zero _).symm
    cases hflag : s.sequencer.activeStartTaken with
    | true =>
      exact ⟨s, exec_activeStart_of_taken hflag, 0, by omega, hstay, fun _ => rfl, fun _ _ _ _ => rfl,
        fun _ _ _ _ _ => rfl, rfl, rfl, rfl⟩
    | false =>
      refine ⟨_, exec_activeStart_of_open hflag, ?_⟩
      rw [finishLiveRead_of_none hread]
      by_cases hrun : s.port.run = .running
      · obtain ⟨n, hn, hindex, hstops, hkeeps⟩ := handleActiveStart_takes s.takeActiveFlag
        rw [passActiveStart_of_running hrun]
        exact ⟨n, hn, hindex, fun h => absurd hrun h,
          fun r hr hlow hhigh => hstops (scanStops_executeSplit (s := s.takeActiveFlag) hr ⟨hlow, hhigh⟩),
          fun i hi hr => (hkeeps i hi hr).1, by simp, by simp, by simp⟩
      · rw [passActiveStart_of_not_running hrun]
        exact ⟨0, by omega, hstay, fun _ => rfl, fun _ _ _ _ => rfl, fun _ _ _ _ _ => rfl, rfl, rfl, rfl⟩

end Taken

end Sys2Proof.Proofs

/-! LOCATE requests that stand one after another in the ring, taken in order (O38). -/

namespace Sys2Proof.Proofs
open Sys2Proof.Machine

theorem fin32_add_ofNat_ne (i : Fin 32) {n : Nat} (hn : 0 < n) (hlt : n < 32) : i ≠ i + Fin.ofNat 32 n := by
  intro h
  have hval := congrArg Fin.val h
  simp only [Fin.val_add, Fin.val_ofNat] at hval
  have := i.isLt
  omega

/-- A LOCATE of each listed hint stands POSTED, one after another from the take index on (R100, R116). -/
def PostsLocates (s : State) (hints : List Slot) : Prop :=
  ∀ (n : Nat) (x : Slot), hints[n]? = some x →
    entryWord s.cue (s.requests.takeIndex + Fin.ofNat 32 n) 0 = 1 ∧
    entryWord s.cue (s.requests.takeIndex + Fin.ofNat 32 n) 1 = 0x10 ∧
    entryWord s.cue (s.requests.takeIndex + Fin.ofNat 32 n) 8 = natWord x.val ∧ listed s.cue x = true

/-- What the taking of LOCATE requests leaves (R116). -/
structure Located (hints : List Slot) (s t : State) : Prop where
  index : t.requests.takeIndex = s.requests.takeIndex + Fin.ofNat 32 hints.length
  tracker : t.tracker = { s.tracker with current := hints.getLast?.getD s.tracker.current }
  ripple : t.requests.ripple = s.requests.ripple
  done : ∀ (n : Nat) (x : Slot), hints[n]? = some x →
    finished t.cue (s.requests.takeIndex + Fin.ofNat 32 n) 0 (natDWord x.val) 0
  kept : ∀ a, (∀ n, n < hints.length → ¬inEntryResults (s.requests.takeIndex + Fin.ofNat 32 n) a) →
    Memory.read t.cue a = Memory.read s.cue a

theorem Located.refl (s : State) : Located [] s s where
  index := (Fin.add_zero _).symm
  tracker := rfl
  ripple := rfl
  done := nofun
  kept := fun _ _ => rfl

section Locates
variable {s : State} {hints : List Slot} {x : Slot}

/-- The state after a LOCATE of a listed hint is taken. -/
def locateTaken (s : State) (x : Slot) : State :=
  (finishWith s.requests.takeIndex (s.setCurrent x, { code := .ok, a := slotDWord x, b := 0 })).advanceTake

theorem takeEntry_locate (hkind : entryWord s.cue s.requests.takeIndex 1 = 0x10)
    (hhint : entryWord s.cue s.requests.takeIndex 8 = natWord x.val) (hlisted : listed s.cue x = true) :
    (s.takeEntry s.requests.takeIndex).advanceTake = locateTaken s x := by
  have hlocate : requestKind (entryWord s.cue s.requests.takeIndex 1) = some .locate := by rw [hkind]; rfl
  have hslot : listedSlotA s.cue s.requests.takeIndex = some x := listedSlot_eq_some hhint hlisted
  unfold State.takeEntry locateTaken
  rw [hlocate]
  dsimp only
  rw [locate_of_listed hslot]

theorem changesWithin_locateTaken (s : State) (x : Slot) :
    Memory.ChangesWithin (inEntryResults s.requests.takeIndex) s.cue (locateTaken s x).cue :=
  changesWithin_finishEntry (s.setCurrent x) s.requests.takeIndex _

theorem locateTaken_requests (s : State) (x : Slot) :
    (locateTaken s x).requests.takeIndex = s.requests.takeIndex + 1 ∧
      (locateTaken s x).requests.ripple = s.requests.ripple ∧
      (locateTaken s x).tracker = { s.tracker with current := x } := by
  simp [locateTaken, finishWith, State.advanceTake, State.setCurrent]

/-- What a LOCATE leaves of the LOCATE requests behind it. -/
theorem PostsLocates.tail (h : PostsLocates s (x :: hints)) (hfew : hints.length < 31) :
    PostsLocates (locateTaken s x) hints := by
  intro n y hy
  obtain ⟨hn, -⟩ := List.getElem?_eq_some_iff.mp hy
  obtain ⟨hposted, hkind, hhint, hlisted⟩ := h (n + 1) y hy
  have hkept := changesWithin_locateTaken s x
  have hword (k : Nat) (hk : k < 64) :
      entryWord (locateTaken s x).cue (s.requests.takeIndex + Fin.ofNat 32 (n + 1)) k =
        entryWord s.cue (s.requests.takeIndex + Fin.ofNat 32 (n + 1)) k :=
    hkept.read (not_inEntryResults_other (fin32_add_ofNat_ne _ (by omega) (by omega)) hk)
  have hslot : slotWordAt (locateTaken s x).cue y 0 = slotWordAt s.cue y 0 :=
    hkept.read (not_inEntryResults_of_inScenes (inScenes_slotBase_add y (by omega)))
  rw [(locateTaken_requests s x).1, advance_ofNat, hword 0 (by omega), hword 1 (by omega), hword 8 (by omega)]
  exact ⟨hposted, hkind, hhint, by unfold listed; rw [hslot]; exact hlisted⟩

theorem Located.cons {t : State} (h : Located hints (locateTaken s x) t) (hfew : hints.length < 31) :
    Located (x :: hints) s t := by
  obtain ⟨hindex, hripple, htracker⟩ := locateTaken_requests s x
  have hentry (n : Nat) : (locateTaken s x).requests.takeIndex + Fin.ofNat 32 n =
      s.requests.takeIndex + Fin.ofNat 32 (n + 1) := by rw [hindex, advance_ofNat]
  refine ⟨?_, ?_, h.ripple.trans hripple, fun n y hy => ?_, fun a ha => ?_⟩
  · rw [h.index, hentry]
    rfl
  · rw [h.tracker, htracker, List.getLast?_cons]
    rfl
  · cases n with
    | zero =>
      obtain rfl : x = y := Option.some.inj hy
      have hfirst := finished_finishEntry (s.setCurrent x) s.requests.takeIndex { code := .ok, a := slotDWord x, b := 0 }
      have hzero : s.requests.takeIndex + Fin.ofNat 32 0 = s.requests.takeIndex := Fin.add_zero _
      rw [hzero]
      refine finished_congr hfirst fun k hk => h.kept _ fun m hm => ?_
      rw [hentry]
      exact not_inEntryResults_other (Ne.symm (fin32_add_ofNat_ne _ (by omega) (by omega))) hk
    | succ n =>
      have hrest := h.done n y hy
      rwa [hentry] at hrest
  · have hzero : s.requests.takeIndex + Fin.ofNat 32 0 = s.requests.takeIndex := Fin.add_zero _
    have hown : ¬inEntryResults s.requests.takeIndex a := hzero ▸ ha 0 (by simp)
    refine (h.kept a fun n hn => ?_).trans ((changesWithin_locateTaken s x).read hown)
    rw [hentry]
    exact ha (n + 1) (by simpa using hn)

/-- The scan over LOCATE requests, up to its fuel or to the entry behind them (R100, R116). -/
theorem scan_locates {fuel : Nat} (h : PostsLocates s hints) (hfuel : hints.length ≤ fuel) (hfew : hints.length ≤ 4)
    (hend : hints.length < fuel → entryWord s.cue (s.requests.takeIndex + Fin.ofNat 32 hints.length) 0 ≠ 1)
    (hripple : s.requests.ripple = none) : Located hints s (State.scan fuel s) := by
  induction hints generalizing s fuel with
  | nil =>
    cases fuel with
    | zero => exact .refl s
    | succ fuel =>
      have hstop := hend (by simp)
      rw [scan_of_stops (scanStops_of_not_posted ((Fin.add_zero s.requests.takeIndex) ▸ hstop))]
      exact .refl s
  | cons x xs ih =>
    obtain ⟨f, rfl⟩ : ∃ f, fuel = f + 1 := ⟨fuel - 1, by simp at hfuel; omega⟩
    have hlength : xs.length ≤ f ∧ xs.length < 4 := by simp at hfuel hfew; omega
    have hfirst := h 0 x rfl
    have hzero : s.requests.takeIndex + Fin.ofNat 32 0 = s.requests.takeIndex := Fin.add_zero _
    rw [hzero] at hfirst
    obtain ⟨hposted, hkind, hhint, hlisted⟩ := hfirst
    obtain ⟨hindex, hnone, -⟩ := locateTaken_requests s x
    rw [scan_of_takes (scanStops_of_posted hposted fun _ => hripple), takeEntry_locate hkind hhint hlisted]
    refine Located.cons (ih (h.tail (by omega)) hlength.1 (by omega) (fun hlt => ?_) (hnone.trans hripple)) (by omega)
    rw [hindex, advance_ofNat]
    have hbehind := hend (by simp; omega)
    rwa [entryWord_of_changesWithin (changesWithin_locateTaken s x)
      (not_inEntryResults_other (fin32_add_ofNat_ne _ (by omega) (by omega)) (by omega))]

end Locates

/-! ### The scan of an ACTIVE START, and a reset within it -/

section Scanned
variable {s : State} {hints : List Slot}

/-- The takings before a reset are those of the first hints (log 33). -/
theorem scan_locates_take {takings : Nat} (h : PostsLocates s hints) (htakings : takings ≤ 4) (hfew : hints.length ≤ 4)
    (hend : hints.length < 4 → entryWord s.cue (s.requests.takeIndex + Fin.ofNat 32 hints.length) 0 ≠ 1)
    (hripple : s.requests.ripple = none) : Located (hints.take takings) s (State.scan takings s) := by
  have hfirst : PostsLocates s (hints.take takings) := fun n x hx => by
    obtain ⟨hn, -⟩ := List.getElem?_eq_some_iff.mp hx
    rw [List.length_take] at hn
    rw [List.getElem?_take_of_lt (by omega)] at hx
    exact h n x hx
  have hlength : (hints.take takings).length = min takings hints.length := List.length_take
  refine scan_locates hfirst (by omega) (by omega) (fun hlt => ?_) hripple
  rw [hlength, Nat.min_eq_right (by omega)]
  exact hend (by omega)

/-- What a reset that meets the scan keeps: the cue memory the takings leave. -/
theorem portReset_untilReset_scan (hrun : s.port.run = .running) (hopen : s.sequencer.activeStartTaken = false)
    (hread : s.engine.read = none) (hsplit : s.requests.splitPending = none) (takings : Fin 5) :
    (s.untilReset (.scan takings)).portReset.cue = (State.scan takings.val s.takeActiveFlag).cue := by
  unfold State.untilReset
  rw [if_pos ⟨hrun, hopen⟩, finishLiveRead_of_none hread, executeSplit_of_none (s := s.takeActiveFlag) hsplit]
  rfl

/-- Settles O38: the scan over the LOCATE requests, whole or cut short by a reset. -/
theorem scanTakesPostedEntriesInOrder : Obligations.ScanTakesPostedEntriesInOrder := by
  unfold Obligations.ScanTakesPostedEntriesInOrder
  intro s hints hrun hopen hread hsplit hripple hdue hsome hfew
  dsimp only
  intro hposts hend
  have hposted : PostsLocates s.takeActiveFlag hints := hposts
  refine ⟨?_, fun takings => ?_⟩
  · obtain ⟨hindex, htracker, hnone, hdone, hkept⟩ := scan_locates (fuel := 4) hposted hfew hfew hend hripple
    have hcue : (State.scan 4 s.takeActiveFlag).rippleVisits.raiseNotify.cue = (State.scan 4 s.takeActiveFlag).cue := by
      rw [rippleVisits_of_none (hnone.trans hripple)]
      simp
    refine ⟨_, exec_activeStart_of_scan hrun hopen hread hsplit, ?_, fun x hx => ?_, fun n x hx => ?_, fun a ha => ?_⟩
    · simpa using hindex
    · have hlast : (State.scan 4 s.takeActiveFlag).tracker = { s.tracker with current := x } := by
        rw [htracker, hx]
        rfl
      simpa using hlast
    · rw [hcue]
      exact hdone n x hx
    · rw [hcue]
      exact hkept a ha
  · obtain ⟨-, -, -, hdone, hkept⟩ :=
      scan_locates_take hposted (by omega : takings.val ≤ 4) hfew hend hripple
    have hcue := portReset_untilReset_scan hrun hopen hread hsplit takings
    refine ⟨_, rfl, resetValues_portReset _, fun n x hn hx => ?_, fun a ha => ?_⟩
    · rw [hcue]
      exact hdone n x (by rw [List.getElem?_take_of_lt hn]; exact hx)
    · rw [hcue]
      refine hkept a fun n hn => ?_
      rw [List.length_take] at hn
      exact ha n (by omega) (by omega)

end Scanned

end Sys2Proof.Proofs

/-! The general lines (O55). -/

namespace Sys2Proof.Proofs
open Sys2Proof.Machine

section Lines
variable {s : State} {line : Fin 4} {level : Bool}

/-- The part with a general line at its new level, before the channels follow (R162). -/
def lineChanged (s : State) (line : Fin 4) (level : Bool) : State :=
  { s with matrix := { s.matrix with gpi := Vector.ofFn fun i => if i = line then level else s.matrix.gpi[i] } }

theorem lineChanged_gpi (s : State) (line : Fin 4) (level : Bool) (i : Fin 4) :
    (lineChanged s line level).matrix.gpi[i] = if i = line then level else s.matrix.gpi[i] := by
  simp [lineChanged]

theorem gpi_generator_level (s : State) (line : Fin 4) (level : Bool) (i : Fin 4) :
    (lineChanged s line level).matrix.gpi[i] = if 12 + i.val = 12 + line.val then level else s.matrix.gpi[i] := by
  rw [lineChanged_gpi]
  by_cases h : i = line
  · rw [if_pos h, if_pos (by rw [h])]
  · rw [if_neg h, if_neg fun hval => h (Fin.ext (by omega))]

/-- Of the generators, a change of a general line moves its own alone (R152, R162). -/
theorem generatorLevel_lineChanged (s : State) (line : Fin 4) (level : Bool) (g : Generator) :
    (lineChanged s line level).generatorLevel g = if g.number = 12 + line.val then level else s.generatorLevel g := by
  cases g with
  | gpi0 => exact gpi_generator_level s line level 0
  | gpi1 => exact gpi_generator_level s line level 1
  | gpi2 => exact gpi_generator_level s line level 2
  | gpi3 => exact gpi_generator_level s line level 3
  | _ =>
    refine (if_neg ?_).symm
    simp only [Generator.number]
    omega

theorem channel_lineChanged (s : State) (line : Fin 4) (level : Bool) (c : Fin 8) :
    (lineChanged s line level).channel c =
      if s.setup.channelSelection[c].map Generator.number = some (12 + line.val) then
        Bool.xor level (s.matrix.inversion[c] == .inProgress)
      else s.channel c := by
  have hsetup : (lineChanged s line level).setup = s.setup := rfl
  unfold State.channel State.signal
  rw [hsetup]
  cases hsel : s.setup.channelSelection[c] with
  | none => rfl
  | some g =>
    dsimp only
    rw [generatorLevel_lineChanged]
    by_cases hline : g.number = 12 + line.val
    · rw [if_pos hline, if_pos (by rw [Option.map_some, hline])]
      rfl
    · rw [if_neg hline, Option.map_some, if_neg fun h => hline (Option.some.inj h)]
      rfl

theorem counts_eq (s : State) (u : Fin 11) :
    s.counts u = if h : u.val < 6 then !(s.setup.gpoMode[u.val]'h).direct else decide (s.port.run ≠ .halted) := by
  unfold State.counts Setup.aligned State.ignores internalUser
  by_cases h : u.val < 6
  · rw [dif_pos h, dif_pos h, decide_eq_false (by omega)]
    simp
  · rw [dif_neg h, dif_neg h, decide_eq_true (by omega)]
    simp [beq_eq_decide]

end Lines

/-! ### The end of a hold -/

section HoldEnd
variable (s : State) (line : Fin 6)

/-- The part once a line's hold has ended (R156). -/
def holdEnded (s : State) (line : Fin 6) : State :=
  { s with matrix := { s.matrix with hold := Vector.ofFn fun g => if g = line then none else s.matrix.hold[g] } }

theorem holdEnded_hold (g : Fin 6) : (holdEnded s line).matrix.hold[g] = if g = line then none else s.matrix.hold[g] := by
  simp [holdEnded]

theorem gpo_of_connected {s : State} {g : Fin 6} {c : Fin 8} (h : s.setup.userSelection[gpoUser g] = some c) :
    s.gpo g = Bool.xor (s.gpoValue g c) s.setup.gpoMode[g].inverted := by
  unfold State.gpo
  rw [h]

theorem gpo_of_off {s : State} {g : Fin 6} (h : s.setup.userSelection[gpoUser g] = none) : s.gpo g = false := by
  unfold State.gpo
  rw [h]

theorem gpoValue_of_direct {s : State} {g : Fin 6} (h : s.setup.gpoMode[g].direct = true)
    (hhold : s.matrix.hold[g] = none) (c : Fin 8) : s.gpoValue g c = s.channel c := by
  unfold State.gpoValue
  rw [if_pos h, hhold]

theorem gpo_holdEnded_other {g : Fin 6} (h : g ≠ line) : (holdEnded s line).gpo g = s.gpo g := by
  have hvalue (c : Fin 8) : (holdEnded s line).gpoValue g c = s.gpoValue g c := by
    unfold State.gpoValue
    rw [holdEnded_hold, if_neg h]
    rfl
  cases hsel : s.setup.userSelection[gpoUser g] with
  | none => rw [gpo_of_off (s := holdEnded s line) hsel, gpo_of_off hsel]
  | some c =>
    rw [gpo_of_connected (s := holdEnded s line) hsel, gpo_of_connected hsel, hvalue]
    rfl

end HoldEnd

/-- Settles O55: the line's generator, the channels that select it, and what settles on them. -/
theorem generalLinesReachTheirUsers : Obligations.GeneralLinesReachTheirUsers := by
  unfold Obligations.GeneralLinesReachTheirUsers
  refine ⟨fun line level s => ⟨s.settle (lineChanged s line level), rfl, lineChanged_gpi s line level,
    channel_lineChanged s line level, fun u => ?_, fun g c hsel => ?_, fun g hsel => ?_, rfl⟩,
    fun line s => ⟨holdEnded s line, rfl, holdEnded_hold s line, fun c hsel hdirect => ?_,
      fun g hg => gpo_holdEnded_other s line hg, rfl⟩⟩
  · have hedge := settle_edgeSeen s (lineChanged s line level) u
    have hcounts : (lineChanged s line level).counts u = _ := counts_eq (lineChanged s line level) u
    refine ⟨fun hsel => ?_, fun c hsel => ?_⟩
    · rw [hedge, show (lineChanged s line level).setup.userSelection[u] = none from hsel]
      rfl
    · rw [hedge, show (lineChanged s line level).setup.userSelection[u] = some c from hsel, hcounts]
      rfl
  · rw [settle_hold, show (lineChanged s line level).setup.userSelection[gpoUser g] = some c from hsel]
    exact if_congr eq_comm rfl rfl
  · rw [settle_hold, show (lineChanged s line level).setup.userSelection[gpoUser g] = none from hsel]
    rfl
  · rw [gpo_of_connected (s := holdEnded s line) hsel,
      gpoValue_of_direct (s := holdEnded s line) hdirect (by rw [holdEnded_hold, if_pos rfl])]
    rfl

end Sys2Proof.Proofs

/-! The matrix at a FIELD START (O56): how a chain of generator changes settles on the users. -/

namespace Sys2Proof.Proofs
open Sys2Proof.Machine

/-! ### A chain of changes -/

/-- The matrix has settled between two parts, of whose generators only some changed level: a rising channel has set the
flags of the users that count it, a changed one has ended the holds on it (R155, R156). -/
structure Settled (moves : List Generator) (p t : State) : Prop where
  setup : t.setup = p.setup
  run : t.port.run = p.port.run
  inversion : t.matrix.inversion = p.matrix.inversion
  presented : t.matrix.presented = p.matrix.presented
  gpi : t.matrix.gpi = p.matrix.gpi
  level : ∀ g, g ∉ moves → t.generatorLevel g = p.generatorLevel g
  edgeSeen : ∀ u : Fin 11,
    t.matrix.edgeSeen[u] =
      match p.setup.userSelection[u] with
      | some c => p.matrix.edgeSeen[u] || (p.counts u && !p.channel c && t.channel c)
      | none => p.matrix.edgeSeen[u]
  hold : ∀ g : Fin 6,
    t.matrix.hold[g] =
      match p.setup.userSelection[gpoUser g] with
      | some c => if p.channel c = t.channel c then p.matrix.hold[g] else none
      | none => p.matrix.hold[g]

section Settled
variable {p m t : State} {moves more : List Generator} {c : Fin 8} {u : Fin 11}

theorem signal_congr {s t : State} (h : ∀ g, t.generatorLevel g = s.generatorLevel g) (o : Option Generator) :
    t.signal o = s.signal o := by
  cases o with
  | none => rfl
  | some g => exact h g

theorem counts_congr {s t : State} (hsetup : t.setup = s.setup) (hrun : t.port.run = s.port.run) (u : Fin 11) :
    t.counts u = s.counts u := by
  unfold State.counts State.ignores
  rw [hsetup, hrun]

theorem Settled.channel_of_not_mem (h : Settled moves p t) {g : Generator} (hg : p.setup.channelSelection[c] = some g)
    (hmove : g ∉ moves) : t.channel c = p.channel c := by
  unfold State.channel State.inverted
  rw [h.setup, h.inversion, hg]
  exact congrArg (Bool.xor · _) (h.level g hmove)

theorem Settled.channel_of_off (h : Settled moves p t) (hoff : p.setup.channelSelection[c] = none) :
    t.channel c = p.channel c := by
  unfold State.channel State.inverted
  rw [h.setup, h.inversion, hoff]
  rfl

/-- Of two changes that move different generators, a channel follows one at most: it selects one generator (R152). -/
theorem Settled.channel_of_disjoint (h : Settled moves p m) (h' : Settled more m t) (hdisjoint : ∀ g ∈ moves, g ∉ more)
    (c : Fin 8) : m.channel c = p.channel c ∨ t.channel c = m.channel c := by
  have hsetup := h.setup
  cases hsel : p.setup.channelSelection[c] with
  | none => exact .inl (h.channel_of_off hsel)
  | some g =>
    by_cases hmove : g ∈ moves
    · exact .inr (h'.channel_of_not_mem (by rw [hsetup, hsel]) (hdisjoint g hmove))
    · exact .inl (h.channel_of_not_mem hsel hmove)

theorem Settled.trans (h : Settled moves p m) (h' : Settled more m t) (hdisjoint : ∀ g ∈ moves, g ∉ more) :
    Settled (moves ++ more) p t where
  setup := h'.setup.trans h.setup
  run := h'.run.trans h.run
  inversion := h'.inversion.trans h.inversion
  presented := h'.presented.trans h.presented
  gpi := h'.gpi.trans h.gpi
  level := fun g hg => by
    rw [List.mem_append, not_or] at hg
    rw [h'.level g hg.2, h.level g hg.1]
  edgeSeen := fun u => by
    rw [h'.edgeSeen u, h.setup, h.edgeSeen u, counts_congr h.setup h.run u]
    cases p.setup.userSelection[u] with
    | none => rfl
    | some c =>
      dsimp only
      rcases h.channel_of_disjoint h' hdisjoint c with heq | heq
      · rw [heq]
        cases p.channel c <;> simp
      · rw [heq]
        cases m.channel c <;> simp
  hold := fun g => by
    rw [h'.hold g, h.setup, h.hold g]
    cases p.setup.userSelection[gpoUser g] with
    | none => rfl
    | some c =>
      dsimp only
      rcases h.channel_of_disjoint h' hdisjoint c with heq | heq
      · rw [heq, if_pos rfl]
      · rw [heq, if_pos rfl]

/-- What the matrix does not read may change. -/
theorem Settled.congr {t' : State} (h : Settled moves p t) (hsequencer : t'.sequencer = t.sequencer)
    (htracker : t'.tracker = t.tracker) (hpass : t'.pass = t.pass) (hmatrix : t'.matrix = t.matrix)
    (hsetup : t'.setup = t.setup) (hrun : t'.port.run = t.port.run) : Settled moves p t' := by
  have hlevel (g : Generator) : t'.generatorLevel g = t.generatorLevel g :=
    generatorLevel_congr (by rw [hsequencer]) (by rw [hsequencer]) (by rw [htracker]) (by rw [htracker]) (by rw [hpass])
      (by rw [hmatrix]) (by rw [hmatrix]) g
  have hchannel (c : Fin 8) : t'.channel c = t.channel c := channel_congr hlevel hsetup (by rw [hmatrix])
  refine ⟨hsetup.trans h.setup, hrun.trans h.run, ?_, ?_, ?_, fun g hg => (hlevel g).trans (h.level g hg), fun u => ?_,
    fun g => ?_⟩
  · rw [hmatrix, h.inversion]
  · rw [hmatrix, h.presented]
  · rw [hmatrix, h.gpi]
  · simp only [hchannel]
    rw [hmatrix, h.edgeSeen u]
  · simp only [hchannel]
    rw [hmatrix, h.hold g]

theorem settled_refl (p : State) : Settled [] p p where
  setup := rfl
  run := rfl
  inversion := rfl
  presented := rfl
  gpi := rfl
  level := fun _ _ => rfl
  edgeSeen := fun u => by
    cases p.setup.userSelection[u] with
    | none => rfl
    | some c => simp
  hold := fun g => by
    cases p.setup.userSelection[gpoUser g] with
    | none => rfl
    | some c => exact (if_pos rfl).symm

theorem Settled.weaken (h : Settled moves p t) (hmore : ∀ g ∈ moves, g ∈ more) : Settled more p t :=
  { h with level := fun g hg => h.level g fun hmem => hg (hmore g hmem) }

theorem settled_settle {after : State} (hsetup : after.setup = p.setup) (hrun : after.port.run = p.port.run)
    (hmatrix : after.matrix =
      { p.matrix with pulses := after.matrix.pulses, notifyWaiting := after.matrix.notifyWaiting })
    (hlevel : ∀ g, g ∉ moves → after.generatorLevel g = p.generatorLevel g) : Settled moves p (p.settle after) where
  setup := hsetup
  run := hrun
  inversion := by
    change after.matrix.inversion = _
    rw [hmatrix]
  presented := by
    change after.matrix.presented = _
    rw [hmatrix]
  gpi := by
    change after.matrix.gpi = _
    rw [hmatrix]
  level := hlevel
  edgeSeen := fun u => by
    rw [settle_edgeSeen, hsetup, counts_congr hsetup hrun u, show after.matrix.edgeSeen = p.matrix.edgeSeen by rw [hmatrix]]
    rfl
  hold := fun g => by
    rw [settle_hold, hsetup, show after.matrix.hold = p.matrix.hold by rw [hmatrix]]
    rfl

end Settled

/-! ### The stages of a FIELD START -/

section Stages
variable (s : State)

theorem settled_takeField (id : FieldIdentity) (pulse : Bool) :
    Settled [.cadenceA, .locked] s (s.takeField id pulse).1 := by
  have htaken : Settled [.cadenceA, .locked] s (s.settle { s with sequencer := s.fieldSequencer id pulse }) := by
    refine settled_settle rfl rfl rfl fun g hg => ?_
    cases g with
    | cadenceA => simp at hg
    | locked => simp at hg
    | _ => rfl
  unfold State.takeField
  dsimp only
  split
  · exact htaken
  · exact htaken.congr (by simp) (by simp) (by simp) (by simp) (by simp) (by simp)

theorem settled_tracker (q : Tracker) : Settled [.dissolve, .trackerLag] s (s.settle { s with tracker := q }) := by
  refine settled_settle rfl rfl rfl fun g hg => ?_
  cases g with
  | dissolve => simp at hg
  | trackerLag => simp at hg
  | _ => rfl

theorem settled_resolveCovered (c : Slot) (steps : Nat) :
    Settled [.dissolve, .trackerLag] s (s.resolveCovered c steps).state := by
  have htracker := settled_tracker s (s.tracker.afterResolved (resolvedRecord s.cue s.sequencer c steps))
  unfold State.resolveCovered
  dsimp only
  split
  · exact htracker.congr (by simp) (by simp) (by simp) (by simp) (by simp) (by simp)
  · exact htracker

theorem settled_resolveHeld (c : Slot) (steps : Nat) :
    Settled [.dissolve, .trackerLag] s (s.resolveHeld c steps).state := by
  have htracker := settled_tracker s (s.tracker.afterHeld (heldRecord s.cue s.sequencer c steps))
  unfold State.resolveHeld
  dsimp only
  split
  · exact htracker
  · exact htracker.congr (by simp) (by simp) (by simp) (by simp) (by simp) (by simp)

theorem settled_resolve : Settled [.dissolve, .trackerLag] s s.resolve.state := by
  unfold State.resolve
  split
  · dsimp only
    split
    · exact settled_resolveCovered s _ _
    · exact settled_resolveHeld s _ _
  · exact (settled_refl s).weaken nofun

/-- A change of the pass moves PASS GATE alone (R149). -/
theorem settled_setPass (p : Pass) : Settled [.passGate] s (s.setPass p) := by
  have hpass : Settled [.passGate] s (s.settle { s with pass := p }) := by
    refine settled_settle rfl rfl rfl fun g hg => ?_
    cases g with
    | passGate => simp at hg
    | _ => rfl
  exact hpass.congr (by simp) (by simp) (by simp) (setPass_matrix s p) (by simp) (by simp)

theorem settled_judgePass : Settled [.passGate] s s.judgePass.1 := by
  have hpass (draws : Nat) (p : Pass) : Settled [.passGate] s (({ s with draws := draws } : State).setPass p) :=
    ((settled_refl s).congr (t' := { s with draws := draws }) rfl rfl rfl rfl rfl rfl).trans (settled_setPass _ p) nofun
  rcases judgePass_cases s with h | ⟨draws, p, -, h⟩ | ⟨draws, p, -, -, h⟩
  · rw [h]
    exact (settled_refl s).weaken nofun
  · rw [h]
    exact (hpass draws p).congr (by simp [State.changePass]) (by simp [State.changePass]) (by simp [State.changePass])
      (by simp [State.changePass]) (by simp [State.changePass]) (by simp [State.changePass])
  · rw [h]
    exact hpass draws p

theorem settled_passStopPulse (pulse : Bool) : Settled [] s (s.passStopPulse pulse) := by
  have hpass : Settled [] s (s.settle { s with pass := { s.pass with stopPending := true } }) := by
    refine settled_settle rfl rfl rfl fun g _ => ?_
    cases g <;> rfl
  unfold State.passStopPulse State.setStopPending
  split
  · exact hpass.congr (by simp) (by simp) (by simp) (setPass_matrix s _) (by simp) (by simp)
  · exact settled_refl s

/-- The pulses of the field taking over, before their blips (R152). -/
def pulsesTaken (s : State) (now : Pulses) : State :=
  s.settle { s with matrix := { s.matrix with pulses := now, notifyWaiting := false } }

theorem settled_pulsesTaken (now : Pulses) :
    Settled [.fieldStart, .frameReference, .sceneChange, .requestNotify] s (pulsesTaken s now) := by
  refine settled_settle rfl rfl rfl fun g hg => ?_
  cases g with
  | fieldStart => simp at hg
  | frameReference => simp at hg
  | sceneChange => simp at hg
  | requestNotify => simp at hg
  | _ => rfl

/-! ### The pulses of the field before -/

/-- The video-domain pulses and the waiting notification stand. -/
def KeepsPulses (p t : State) : Prop :=
  t.matrix.pulses = p.matrix.pulses ∧ t.matrix.notifyWaiting = p.matrix.notifyWaiting

theorem keepsPulses_takeField (id : FieldIdentity) (pulse : Bool) : KeepsPulses s (s.takeField id pulse).1 := by
  unfold State.takeField KeepsPulses
  dsimp only
  split
  · exact ⟨rfl, rfl⟩
  · simp only [State.setCauseIf_frame, State.lockRecord_frame]
    exact ⟨rfl, rfl⟩

theorem keepsPulses_resolve : KeepsPulses s s.resolve.state := by
  unfold State.resolve State.resolveCovered State.resolveHeld KeepsPulses
  dsimp only
  (repeat' split)
  all_goals simp [State.settle]

theorem keepsPulses_setPass (p : Pass) : KeepsPulses s (s.setPass p) := by
  unfold KeepsPulses
  rw [setPass_matrix]
  exact ⟨rfl, rfl⟩

theorem keepsPulses_judgePass : KeepsPulses s s.judgePass.1 := by
  rcases judgePass_cases s with h | ⟨draws, p, -, h⟩ | ⟨draws, p, -, -, h⟩
  · rw [h]
    exact ⟨rfl, rfl⟩
  · rw [h]
    unfold KeepsPulses
    rw [changePass_matrix]
    exact ⟨rfl, rfl⟩
  · rw [h]
    exact keepsPulses_setPass _ p

theorem keepsPulses_passStopPulse (pulse : Bool) : KeepsPulses s (s.passStopPulse pulse) := by
  unfold State.passStopPulse State.setStopPending
  split
  · exact keepsPulses_setPass s _
  · exact ⟨rfl, rfl⟩

end Stages

end Sys2Proof.Proofs

/-! What the users of the matrix present at a FIELD START, and the flags and holds it leaves (O56). -/

namespace Sys2Proof.Proofs
open Sys2Proof.Machine

/-! ### The blips of the pulses raised again -/

/-- A video-domain pulse raised for two fields in a row falls and rises again (R152, R153). -/
def raisedAgain (old now : Pulses) : Generator → Bool
  | .fieldStart => old.fieldStart && now.fieldStart
  | .frameReference => old.frameReference && now.frameReference
  | .sceneChange => old.sceneChange && now.sceneChange
  | .requestNotify => old.requestNotify && now.requestNotify
  | _ => false

section Blips
variable {s : State} {u : Fin 11} {c : Fin 8} {g : Fin 6}

theorem blipIf_edgeSeen (b : Bool) (gen : Generator) (huser : s.setup.userSelection[u] = some c) :
    (s.blipIf b gen).matrix.edgeSeen[u] =
      (s.matrix.edgeSeen[u] || (s.counts u && (b && s.setup.channelSelection[c] == some gen))) := by
  cases b with
  | false => simp [State.blipIf]
  | true =>
    change (s.blip gen).matrix.edgeSeen[u] = _
    rw [blip_edgeSeen, huser]
    rfl

theorem blipIf_edgeSeen_off (b : Bool) (gen : Generator) (huser : s.setup.userSelection[u] = none) :
    (s.blipIf b gen).matrix.edgeSeen[u] = s.matrix.edgeSeen[u] := by
  cases b with
  | false => rfl
  | true =>
    change (s.blip gen).matrix.edgeSeen[u] = _
    rw [blip_edgeSeen, huser]

theorem blipIf_hold (b : Bool) (gen : Generator) (huser : s.setup.userSelection[gpoUser g] = some c)
    (hdirect : s.setup.gpoMode[g].direct = true) :
    (s.blipIf b gen).matrix.hold[g] =
      if (b && s.setup.channelSelection[c] == some gen) = true then
        some { value := !s.channel c, period := s.setup.videoMode }
      else s.matrix.hold[g] := by
  have haligned : s.setup.aligned (gpoUser g) = false := by rw [aligned_gpoUser, hdirect]; rfl
  cases b with
  | false => simp [State.blipIf]
  | true =>
    change (s.blip gen).matrix.hold[g] = _
    rw [blip_hold, huser]
    simp [haligned]

end Blips

theorem KeepsPulses.trans {p m t : State} (h : KeepsPulses p m) (h' : KeepsPulses m t) : KeepsPulses p t :=
  ⟨h'.1.trans h.1, h'.2.trans h.2⟩

section Rolled
variable {s : State} {u : Fin 11} {c : Fin 8} {g : Fin 6}

theorem rollPulses_eq (s : State) (now : Pulses) :
    s.rollPulses now =
      ((((pulsesTaken s now).blipIf (s.matrix.pulses.fieldStart && now.fieldStart) .fieldStart).blipIf
        (s.matrix.pulses.frameReference && now.frameReference) .frameReference).blipIf
        (s.matrix.pulses.sceneChange && now.sceneChange) .sceneChange).blipIf
        (s.matrix.pulses.requestNotify && now.requestNotify) .requestNotify := rfl

theorem blipIf_channel (s : State) (b : Bool) (gen : Generator) (c : Fin 8) : (s.blipIf b gen).channel c = s.channel c := by
  cases b <;> rfl

theorem blipIf_counts (s : State) (b : Bool) (gen : Generator) (u : Fin 11) : (s.blipIf b gen).counts u = s.counts u := by
  cases b <;> rfl

theorem blipIf_setup (s : State) (b : Bool) (gen : Generator) : (s.blipIf b gen).setup = s.setup := by
  cases b <;> rfl

theorem rollPulses_edgeSeen (now : Pulses) (huser : s.setup.userSelection[u] = some c) :
    (s.rollPulses now).matrix.edgeSeen[u] =
      ((pulsesTaken s now).matrix.edgeSeen[u] ||
        (s.counts u && s.setup.channelSelection[c].any (raisedAgain s.matrix.pulses now))) := by
  have huser' : (pulsesTaken s now).setup.userSelection[u] = some c := huser
  have hsetup : (pulsesTaken s now).setup = s.setup := rfl
  have hcounts : (pulsesTaken s now).counts u = s.counts u := rfl
  rw [rollPulses_eq, blipIf_edgeSeen (c := c), blipIf_edgeSeen (c := c), blipIf_edgeSeen (c := c), blipIf_edgeSeen (c := c)]
  · simp only [blipIf_counts, blipIf_setup, hsetup, hcounts, Bool.or_assoc, ← Bool.and_or_distrib_left]
    congr 2
    cases s.setup.channelSelection[c] with
    | none => simp
    | some gen => cases gen <;> simp [raisedAgain, beq_eq_decide]
  all_goals simp only [blipIf_setup, huser']

theorem rollPulses_edgeSeen_off (now : Pulses) (huser : s.setup.userSelection[u] = none) :
    (s.rollPulses now).matrix.edgeSeen[u] = (pulsesTaken s now).matrix.edgeSeen[u] := by
  have huser' : (pulsesTaken s now).setup.userSelection[u] = none := huser
  rw [rollPulses_eq, blipIf_edgeSeen_off, blipIf_edgeSeen_off, blipIf_edgeSeen_off, blipIf_edgeSeen_off]
  all_goals simp only [blipIf_setup, huser']

theorem rollPulses_hold (now : Pulses) (huser : s.setup.userSelection[gpoUser g] = some c)
    (hdirect : s.setup.gpoMode[g].direct = true) :
    (s.rollPulses now).matrix.hold[g] =
      if s.setup.channelSelection[c].any (raisedAgain s.matrix.pulses now) = true then
        some { value := !(pulsesTaken s now).channel c, period := s.setup.videoMode }
      else (pulsesTaken s now).matrix.hold[g] := by
  have huser' : (pulsesTaken s now).setup.userSelection[gpoUser g] = some c := huser
  have hdirect' : (pulsesTaken s now).setup.gpoMode[g].direct = true := hdirect
  have hsetup : (pulsesTaken s now).setup = s.setup := rfl
  rw [rollPulses_eq, blipIf_hold (c := c), blipIf_hold (c := c), blipIf_hold (c := c), blipIf_hold (c := c)]
  · simp only [blipIf_channel, blipIf_setup, hsetup]
    cases s.setup.channelSelection[c] with
    | none => simp
    | some gen => cases gen <;> simp [raisedAgain]
  all_goals simp only [blipIf_setup, huser', hdirect']

/-- What the blips leave. -/
theorem rollPulses_rest (s : State) (now : Pulses) :
    (s.rollPulses now).matrix =
      { (pulsesTaken s now).matrix with
        edgeSeen := (s.rollPulses now).matrix.edgeSeen, hold := (s.rollPulses now).matrix.hold } := by
  have hblip (u : State) (b : Bool) (gen : Generator) :
      (u.blipIf b gen).matrix =
        { u.matrix with edgeSeen := (u.blipIf b gen).matrix.edgeSeen, hold := (u.blipIf b gen).matrix.hold } := by
    cases b <;> rfl
  rw [rollPulses_eq]
  rw [hblip, hblip, hblip, hblip]

end Rolled

/-! ### The inversions turned and the users presented -/

section Turned
variable (s : State)

/-- The part with its inversions turned and the presentation formed, before the field changes a generator. -/
def fieldPresented (s : State) : State := (State.fieldTurned s).formPresentation

theorem turnInversions_inversion (c : Fin 8) :
    s.turnInversions.matrix.inversion[c] = (s.matrix.inversion[c]).atField := by
  simp [State.turnInversions, State.settle]

theorem turnInversions_channel (c : Fin 8) :
    s.turnInversions.channel c =
      Bool.xor (s.signal s.setup.channelSelection[c]) ((s.matrix.inversion[c]).atField == .inProgress) := by
  rw [← turnInversions_inversion]
  rfl

theorem turnInversions_edgeSeen {u : Fin 11} {c : Fin 8} (huser : s.setup.userSelection[u] = some c) :
    s.turnInversions.matrix.edgeSeen[u] =
      (s.matrix.edgeSeen[u] || (s.counts u && !s.channel c && s.turnInversions.channel c)) := by
  unfold State.turnInversions
  rw [settle_edgeSeen, huser]
  rfl

theorem turnInversions_hold {g : Fin 6} {c : Fin 8} (huser : s.setup.userSelection[gpoUser g] = some c) :
    s.turnInversions.matrix.hold[g] = if s.channel c = s.turnInversions.channel c then s.matrix.hold[g] else none := by
  unfold State.turnInversions
  rw [settle_hold, huser]
  rfl

theorem fieldPresented_matrix :
    (fieldPresented s).matrix =
      { s.turnInversions.matrix with
        presented := Vector.ofFn fun u => s.turnInversions.presentedValue u
        edgeSeen := Vector.ofFn fun _ => false } := by
  have hpresented : (fieldPresented s).matrix =
      { (State.fieldTurned s).matrix with
        presented := Vector.ofFn fun u => (State.fieldTurned s).presentedValue u
        edgeSeen := Vector.ofFn fun _ => false } := rfl
  rw [hpresented, fieldTurned_matrix]
  simp only [presentedValue_fieldTurned]

theorem fieldPresented_channel (c : Fin 8) : (fieldPresented s).channel c = s.turnInversions.channel c := by
  have hmatrix := fieldPresented_matrix s
  refine channel_congr (fun g => ?_) (by simp [fieldPresented]) (by rw [hmatrix])
  exact generatorLevel_congr (by simp [fieldPresented]) (by simp [fieldPresented]) (by simp [fieldPresented])
    (by simp [fieldPresented]) (by simp [fieldPresented]) (by rw [hmatrix]) (by rw [hmatrix]) g

theorem fieldPresented_counts (u : Fin 11) : (fieldPresented s).counts u = s.counts u :=
  counts_congr (by simp [fieldPresented]) (by simp [fieldPresented]) u

end Turned

/-! ### From the presentation to the end of the field -/

section Field
variable (s : State) (id : FieldIdentity)

/-- The generators that a FIELD START may move, each in one of its stages. -/
def fieldMoves : List Generator :=
  [.cadenceA, .locked, .dissolve, .trackerLag, .passGate, .fieldStart, .frameReference, .sceneChange, .requestNotify]

/-- The part once the pulses of the field have taken over, before their blips. -/
def fieldPulsed : State := pulsesTaken (State.fieldStopped s id) (State.fieldPulses s id)

theorem settled_fieldPulsed : Settled fieldMoves (fieldPresented s) (fieldPulsed s id) := by
  have hplaced : Settled [.cadenceA, .locked] (fieldPresented s) (State.fieldPlaced s id).1 := settled_takeField _ id _
  have hcut : Settled [.cadenceA, .locked] (fieldPresented s) (State.fieldCut s id).1 :=
    hplaced.congr (by simp) (by simp) (by simp) (by simp) (by simp) (by simp)
  have hresolved := hcut.trans (settled_resolve (State.fieldCut s id).1) (by decide)
  have hjudged := hresolved.trans (settled_judgePass (State.fieldResolved s id).state) (by decide)
  have hstopped := hjudged.trans
    (settled_passStopPulse (State.fieldJudged s id).1 ((State.fieldTurned s).presentsPulse userPassStop)) (by decide)
  exact hstopped.trans (settled_pulsesTaken (State.fieldStopped s id) (State.fieldPulses s id)) (by decide)

theorem keepsPulses_fieldStopped : KeepsPulses s (State.fieldStopped s id) := by
  have hpresented : KeepsPulses s (fieldPresented s) := by
    unfold KeepsPulses
    rw [fieldPresented_matrix]
    exact ⟨rfl, rfl⟩
  have hplaced : KeepsPulses (fieldPresented s) (State.fieldPlaced s id).1 := keepsPulses_takeField _ id _
  have hcut : KeepsPulses (State.fieldPlaced s id).1 (State.fieldCut s id).1 := by
    unfold KeepsPulses
    simp
  have hresolved : KeepsPulses (State.fieldCut s id).1 (State.fieldResolved s id).state := keepsPulses_resolve _
  have hjudged : KeepsPulses (State.fieldResolved s id).state (State.fieldJudged s id).1 := keepsPulses_judgePass _
  have hstopped : KeepsPulses (State.fieldJudged s id).1 (State.fieldStopped s id) := keepsPulses_passStopPulse _ _
  exact ((((hpresented.trans hplaced).trans hcut).trans hresolved).trans hjudged).trans hstopped

theorem fieldStart_matrix : (s.fieldStart id).matrix = ((State.fieldStopped s id).rollPulses (State.fieldPulses s id)).matrix := by
  obtain ⟨-, -, -, -, hmatrix, -⟩ := fieldStart_blocks s id
  exact hmatrix

/-- The blips change no level. -/
theorem fieldStart_channel (c : Fin 8) : (s.fieldStart id).channel c = (fieldPulsed s id).channel c := by
  have hrest := (fieldStart_matrix s id).trans (rollPulses_rest (State.fieldStopped s id) (State.fieldPulses s id))
  obtain ⟨hsequencer, htracker, -, hpass, -⟩ := fieldStart_blocks s id
  have hsequencer' : (fieldPulsed s id).sequencer = (s.fieldStart id).sequencer := by
    rw [hsequencer]
    exact (fieldStopped_frame s id).2.1
  have htracker' : (fieldPulsed s id).tracker = (s.fieldStart id).tracker := by
    rw [htracker]
    exact (fieldStopped_frame s id).2.2.1
  have hpass' : (fieldPulsed s id).pass = (s.fieldStart id).pass := hpass.symm
  have hsetup : (s.fieldStart id).setup = (fieldPulsed s id).setup := by
    simp [fieldPulsed, pulsesTaken]
  refine channel_congr (fun g => ?_) hsetup (by rw [hrest]; rfl)
  exact generatorLevel_congr (by rw [hsequencer']) (by rw [hsequencer']) (by rw [htracker']) (by rw [htracker'])
    (by rw [hpass']) (by rw [hrest]; rfl) (by rw [hrest]; rfl) g

end Field

end Sys2Proof.Proofs

/-! O56, from the presentation and the chain of generator changes. -/

namespace Sys2Proof.Proofs
open Sys2Proof.Machine

section Presented
variable {s : State} {u : Fin 11} {c : Fin 8}

/-- A connected user that listens presents its channel or its flag, the edge of an inversion counted (R155). -/
theorem presentedValue_of_listens (huser : s.setup.userSelection[u] = some c) (hlistens : s.listens u) :
    s.turnInversions.presentedValue u = (s.matrix.edgeSeen[u] || s.turnInversions.channel c) := by
  have hcounts := counts_iff.mpr hlistens
  have hboth : s.setup.aligned u = true ∧ s.ignores u = false := by simpa [State.counts] using hcounts
  obtain ⟨haligned, hheard⟩ := hboth
  have hignores : s.turnInversions.ignores u = false := hheard
  have hsetup : s.turnInversions.setup = s.setup := rfl
  unfold State.presentedValue
  rw [hignores, hsetup, haligned, huser]
  dsimp only
  rw [if_neg Bool.false_ne_true, if_pos rfl, turnInversions_edgeSeen s huser, hcounts]
  cases s.turnInversions.channel c <;> simp

theorem presentsPulse_of_listens (huser : s.setup.userSelection[u] = some c) (hlistens : s.listens u) :
    s.turnInversions.presentsPulse u = true ↔
      s.matrix.edgeSeen[u] = true ∨ (s.channel c = false ∧ s.turnInversions.channel c = true) := by
  have hcounts : s.turnInversions.counts u = true := counts_iff.mpr hlistens
  have hsetup : s.turnInversions.setup = s.setup := rfl
  unfold State.presentsPulse
  rw [hcounts, hsetup, huser, turnInversions_edgeSeen s huser, counts_iff.mpr hlistens]
  simp

/-- A user that is off or does not listen presents no pulse (R155, R163). -/
theorem presentsPulse_of_off (h : s.setup.userSelection[u] = none ∨ ¬s.listens u) :
    s.turnInversions.presentsPulse u = false := by
  have hcounts : s.turnInversions.counts u = s.counts u := rfl
  have hsetup : s.turnInversions.setup = s.setup := rfl
  unfold State.presentsPulse
  rw [hcounts, hsetup]
  rcases h with hoff | hdeaf
  · rw [hoff]; simp
  · rw [Bool.eq_false_iff.mpr fun h => hdeaf (counts_iff.mp h)]; simp

/-- An internal user that is off or ignored presents low (R155, R163; log 28). -/
theorem presentedValue_of_off (h : s.setup.userSelection[u] = none ∨ ¬s.listens u) (hu : 6 ≤ u.val) :
    s.turnInversions.presentedValue u = false := by
  have hignores : s.turnInversions.ignores u = s.ignores u := rfl
  have hsetup : s.turnInversions.setup = s.setup := rfl
  have haligned : s.setup.aligned u = true := aligned_iff.mpr fun h => absurd h (by omega)
  unfold State.presentedValue
  rw [hignores, hsetup, haligned]
  cases hdeaf : s.ignores u with
  | true => rfl
  | false =>
    have hlistens : s.listens u := counts_iff.mp (by unfold State.counts; rw [haligned, hdeaf]; rfl)
    rw [h.resolve_right (not_not_intro hlistens)]
    simp [internalUser, hu]

end Presented

section Field
variable (s : State) (id : FieldIdentity)

theorem fieldStart_presented (u : Fin 11) : (s.fieldStart id).matrix.presented[u] = s.turnInversions.presentedValue u := by
  have hrest := (fieldStart_matrix s id).trans (rollPulses_rest (State.fieldStopped s id) (State.fieldPulses s id))
  have hkept := (settled_fieldPulsed s id).presented
  have hpresented : (s.fieldStart id).matrix.presented = (fieldPulsed s id).matrix.presented := by rw [hrest]; rfl
  rw [hpresented, hkept, fieldPresented_matrix]
  simp

theorem fieldStart_inversion (c : Fin 8) :
    (s.fieldStart id).matrix.inversion[c] = (s.matrix.inversion[c]).atField := by
  have hrest := (fieldStart_matrix s id).trans (rollPulses_rest (State.fieldStopped s id) (State.fieldPulses s id))
  have hinversion : (s.fieldStart id).matrix.inversion = (fieldPulsed s id).matrix.inversion := by rw [hrest]; rfl
  rw [hinversion, (settled_fieldPulsed s id).inversion, fieldPresented_matrix]
  exact turnInversions_inversion s c

theorem fieldStart_gpi : (s.fieldStart id).matrix.gpi = s.matrix.gpi := by
  have hrest := (fieldStart_matrix s id).trans (rollPulses_rest (State.fieldStopped s id) (State.fieldPulses s id))
  have hgpi : (s.fieldStart id).matrix.gpi = (fieldPulsed s id).matrix.gpi := by rw [hrest]; rfl
  rw [hgpi, (settled_fieldPulsed s id).gpi, fieldPresented_matrix]
  rfl

theorem fieldStart_notify :
    (s.fieldStart id).matrix.pulses.requestNotify = s.matrix.notifyWaiting ∧
      (s.fieldStart id).matrix.notifyWaiting = false := by
  have hrest := (fieldStart_matrix s id).trans (rollPulses_rest (State.fieldStopped s id) (State.fieldPulses s id))
  refine ⟨?_, by rw [hrest]; rfl⟩
  rw [fieldStart_pulses]
  exact (keepsPulses_fieldStopped s id).2

theorem fieldStopped_setup : (State.fieldStopped s id).setup = s.setup := by simp

theorem fieldStopped_counts (u : Fin 11) : (State.fieldStopped s id).counts u = s.counts u :=
  counts_congr (by simp) (by simp) u

/-- The pulses raised for two fields in a row, as the statement of the field tells them. -/
theorem raisedAgain_iff (o : Option Generator) :
    o.any (raisedAgain s.matrix.pulses (s.fieldStart id).matrix.pulses) = true ↔
      (o = some .fieldStart ∧ s.matrix.pulses.fieldStart = true) ∨
        (o = some .frameReference ∧ s.matrix.pulses.frameReference = true ∧
          (s.fieldStart id).matrix.pulses.frameReference = true) ∨
        (o = some .sceneChange ∧ s.matrix.pulses.sceneChange = true ∧
          (s.fieldStart id).matrix.pulses.sceneChange = true) ∨
        (o = some .requestNotify ∧ s.matrix.pulses.requestNotify = true ∧
          (s.fieldStart id).matrix.pulses.requestNotify = true) := by
  have hfield : (s.fieldStart id).matrix.pulses.fieldStart = true := by rw [fieldStart_pulses]; rfl
  cases o with
  | none => simp
  | some g => cases g <;> simp [raisedAgain, hfield]

variable {u : Fin 11} {c : Fin 8}

/-- The flag of a connected user after the field: its channel rose, or a pulse on it blipped (R153, R155). -/
theorem fieldStart_edgeSeen (huser : s.setup.userSelection[u] = some c) :
    (s.fieldStart id).matrix.edgeSeen[u] =
      (s.counts u && (!s.turnInversions.channel c && (s.fieldStart id).channel c ||
        s.setup.channelSelection[c].any (raisedAgain s.matrix.pulses (s.fieldStart id).matrix.pulses))) := by
  have huser' : (State.fieldStopped s id).setup.userSelection[u] = some c := by rw [fieldStopped_setup]; exact huser
  have hpresented : (fieldPresented s).setup.userSelection[u] = some c := by
    rw [show (fieldPresented s).setup = s.setup by simp [fieldPresented]]
    exact huser
  have hflag : (fieldPresented s).matrix.edgeSeen[u] = false := by rw [fieldPresented_matrix]; simp
  have hsettled := (settled_fieldPulsed s id).edgeSeen u
  rw [hpresented] at hsettled
  dsimp only at hsettled
  rw [hflag, fieldPresented_channel, fieldPresented_counts, ← fieldStart_channel] at hsettled
  have hpulses := (keepsPulses_fieldStopped s id).1
  have hrolled := rollPulses_edgeSeen (State.fieldPulses s id) huser'
  rw [← fieldStart_matrix, hpulses, fieldStopped_setup, fieldStopped_counts] at hrolled
  have htaken : (pulsesTaken (State.fieldStopped s id) (State.fieldPulses s id)).matrix.edgeSeen[u] = _ := hsettled
  rw [fieldStart_pulses, hrolled, htaken]
  simp [Bool.and_or_distrib_left, Bool.and_assoc]

theorem fieldStart_edgeSeen_off (huser : s.setup.userSelection[u] = none) :
    (s.fieldStart id).matrix.edgeSeen[u] = false := by
  have huser' : (State.fieldStopped s id).setup.userSelection[u] = none := by rw [fieldStopped_setup]; exact huser
  have hpresented : (fieldPresented s).setup.userSelection[u] = none := by
    rw [show (fieldPresented s).setup = s.setup by simp [fieldPresented]]
    exact huser
  have hsettled := (settled_fieldPulsed s id).edgeSeen u
  rw [hpresented] at hsettled
  rw [fieldStart_matrix, rollPulses_edgeSeen_off _ huser']
  refine hsettled.trans ?_
  dsimp only
  rw [fieldPresented_matrix]
  simp

/-- The hold of a DIRECT line after the field: a blip holds, and a change of its channel ends a hold (R155, R156). -/
theorem fieldStart_hold {g : Fin 6} (huser : s.setup.userSelection[gpoUser g] = some c)
    (hdirect : s.setup.gpoMode[g].direct = true) :
    (s.fieldStart id).matrix.hold[g] =
      if s.setup.channelSelection[c].any (raisedAgain s.matrix.pulses (s.fieldStart id).matrix.pulses) = true then
        some { value := !(s.fieldStart id).channel c, period := s.setup.videoMode }
      else if s.turnInversions.channel c = (s.fieldStart id).channel c then
        (if s.channel c = s.turnInversions.channel c then s.matrix.hold[g] else none)
      else none := by
  have huser' : (State.fieldStopped s id).setup.userSelection[gpoUser g] = some c := by
    rw [fieldStopped_setup]; exact huser
  have hdirect' : (State.fieldStopped s id).setup.gpoMode[g].direct = true := by rw [fieldStopped_setup]; exact hdirect
  have hpresented : (fieldPresented s).setup.userSelection[gpoUser g] = some c := by
    rw [show (fieldPresented s).setup = s.setup by simp [fieldPresented]]
    exact huser
  have hheld : (fieldPresented s).matrix.hold[g] = if s.channel c = s.turnInversions.channel c then s.matrix.hold[g] else none := by
    rw [fieldPresented_matrix]
    exact turnInversions_hold s huser
  have hsettled := (settled_fieldPulsed s id).hold g
  rw [hpresented] at hsettled
  dsimp only at hsettled
  rw [hheld, fieldPresented_channel, ← fieldStart_channel] at hsettled
  have hpulses := (keepsPulses_fieldStopped s id).1
  have hchannel : (pulsesTaken (State.fieldStopped s id) (State.fieldPulses s id)).channel c = (s.fieldStart id).channel c :=
    (fieldStart_channel s id c).symm
  have hold : (pulsesTaken (State.fieldStopped s id) (State.fieldPulses s id)).matrix.hold[g] = _ := hsettled
  have hrolled := rollPulses_hold (State.fieldPulses s id) huser' hdirect'
  rw [← fieldStart_matrix, hold, hchannel, hpulses, fieldStopped_setup] at hrolled
  rw [fieldStart_pulses, hrolled]

end Field

/-- Settles O56: the users by what they present, the flags and holds by the chain of changes and its blips. -/
theorem fieldStartPresentsUsers : Obligations.FieldStartPresentsUsers := by
  unfold Obligations.FieldStartPresentsUsers
  intro id s
  refine ⟨s.fieldStart id, exec_fieldStart s id, fun c => ?_, ⟨fun u => ⟨fun c huser hlistens => ?_, fun hoff => ?_⟩,
    fun g c huser hdirect => ?_⟩, fun g => ⟨fun huser => ?_, fun c huser haligned => ?_⟩, (fieldStart_notify s id).1,
    (fieldStart_notify s id).2, fieldStart_gpi s id⟩
  · rw [fieldStart_inversion]
    cases s.matrix.inversion[c] <;> simp [Inversion.atField]
  · dsimp only
    rw [fieldStart_inversion, ← turnInversions_channel, fieldStart_presented, presentedValue_of_listens huser hlistens,
      fieldStart_edgeSeen s id huser, counts_iff.mpr hlistens, ← raisedAgain_iff]
    exact ⟨rfl, presentsPulse_of_listens huser hlistens, by simp⟩
  · refine ⟨presentsPulse_of_off hoff, ?_, fun hu => ?_⟩
    · cases huser : s.setup.userSelection[u] with
      | none => exact fieldStart_edgeSeen_off s id huser
      | some c =>
        have hdeaf := hoff.resolve_left (by rw [huser]; exact nofun)
        rw [fieldStart_edgeSeen s id huser, Bool.eq_false_iff.mpr fun h => hdeaf (counts_iff.mp h), Bool.false_and]
    · rw [fieldStart_presented, presentedValue_of_off hoff hu]
  · dsimp only
    have hturned : Bool.xor (s.signal s.setup.channelSelection[c])
        ((s.fieldStart id).matrix.inversion[c] == .inProgress) = s.turnInversions.channel c := by
      rw [fieldStart_inversion, turnInversions_channel]
    simp only [hturned]
    rw [fieldStart_hold s id huser hdirect, ← raisedAgain_iff]
    refine ⟨fun hblip => if_pos hblip, fun hblip => ?_⟩
    rw [if_neg hblip]
    split_ifs <;> simp_all
  · exact gpo_of_off (by simpa using huser)
  · have huser' : (s.fieldStart id).setup.userSelection[gpoUser g] = some c := by simpa using huser
    have haligned' : (s.fieldStart id).setup.gpoMode[g].direct = false := by simpa using haligned
    have hsetup : (s.fieldStart id).setup = s.setup := by simp
    have hvalue : (s.fieldStart id).gpoValue g c = (s.fieldStart id).matrix.presented[gpoUser g] := by
      unfold State.gpoValue
      rw [haligned']
      rfl
    rw [gpo_of_connected huser', hvalue, hsetup]

end Sys2Proof.Proofs

/-! The records of a FIELD START, block by block (R33, R68, R69, R132, R150, R159). -/

namespace Sys2Proof.Proofs
open Sys2Proof.Machine

/-! ### The sequencer's records -/

section Sequencer
variable {s : State}

/-- The LOCK record carries a free value where the first-field frame is absent (log 8). -/
theorem lockRecord_eq (s : State) (cause : LockCause) (phase : Option Nat) (first : Option Int) :
    ∃ absent, (s.lockRecord cause phase first).1 =
      lockReport s.sequencer.fieldFrame s.sequencer.locked cause.code phase first absent := by
  refine ⟨s.drawDWord.1, ?_⟩
  cases first with
  | none => cases phase <;> rfl
  | some f => cases phase <;> rfl

theorem lockCauseOf_code (phase : Option Nat) (locked : Bool) :
    (lockCauseOf phase locked).code = if locked = false ∧ phase = none then 2 else 1 := by
  cases locked with
  | true => rfl
  | false => cases phase <;> rfl

/-- The records of the sequencer at a field: REFERENCE of a restored reference, LOCK of a changed lock state (R33). -/
def sequencerReports (s : State) (id : FieldIdentity) (q : Sequencer) (first : Option Int) (absent : DWord) :
    List Record :=
  (if s.sequencer.reference = .lost then
    [{ kind := .reference, frame := s.position.frame, slot := none, serial := 0
       detail := [2, match id with | .field1 => 1 | .field2 => 2] }]
  else []) ++
    if q.locked = s.sequencer.locked then []
    else
      [lockReport s.position.frame q.locked (if q.locked = false ∧ q.phase = none then 2 else 1) q.phase first absent]

theorem takeField_records (s : State) (id : FieldIdentity) (pulse : Bool) :
    ∃ absent, (s.takeField id pulse).2 =
      sequencerReports s id (s.fieldSequencer id pulse)
        (if s.sequencer.rephaseDue id pulse then none else s.sequencer.firstFieldFrame) absent := by
  let taken := s.settle { s with sequencer := s.fieldSequencer id pulse }
  let first := if s.sequencer.rephaseDue id pulse then none else s.sequencer.firstFieldFrame
  have hrestored : sequencerRecord taken .reference [2, identityCode id] =
      { kind := .reference, frame := s.position.frame, slot := none, serial := 0
        detail := [2, match id with | .field1 => 1 | .field2 => 2] } := by
    cases id <;> rfl
  obtain ⟨absent, hlock⟩ := lockRecord_eq taken (lockCauseOf taken.sequencer.phase taken.sequencer.locked)
    taken.sequencer.phase first
  rw [lockCauseOf_code] at hlock
  have heq : (s.takeField id pulse).2 =
      if taken.sequencer.locked = s.sequencer.locked then
        (if s.sequencer.reference = .lost then [sequencerRecord taken .reference [2, identityCode id]] else [])
      else
        (if s.sequencer.reference = .lost then [sequencerRecord taken .reference [2, identityCode id]] else []) ++
          [(taken.lockRecord (lockCauseOf taken.sequencer.phase taken.sequencer.locked) taken.sequencer.phase first).1] := by
    unfold State.takeField
    dsimp only
    split
    · rfl
    · rfl
  refine ⟨absent, heq.trans ?_⟩
  rw [hlock, hrestored]
  unfold sequencerReports
  have hlocked : taken.sequencer.locked = (s.fieldSequencer id pulse).locked := rfl
  by_cases hsame : (s.fieldSequencer id pulse).locked = s.sequencer.locked
  · rw [if_pos (hlocked.trans hsame), if_pos hsame, List.append_nil]
  · rw [if_neg fun h => hsame (hlocked.symm.trans h), if_neg hsame]
    rfl

end Sequencer

/-! ### The tracker's records -/

/-- The records of the tracker at a field: HOLD of a lag entered or ended, SCENE of a scene change (R68, R69), each
where it is called for. -/
def trackerReports (m : Memory) (frame : Int) (before : Tracker) (limit : Nat) (lagging change holdOn sceneOn : Bool) (r : Resolution)
    (absent : DWord) : List Record :=
  let report (kind : ReportKind) (detail : List Word) : Record :=
    { kind := kind, frame := frame, slot := some r.slot, serial := r.serial, detail := detail }
  let last := before.lastResolved
  let tag := sceneTag m r.slot
  (if holdOn = true ∧ before.lagging ≠ lagging then
    [report .hold
      (if lagging then [1, 1, slotWord (last.map Prod.fst), natWord limit]
      else [2, 0, 0, 0, natWord before.heldCount, natWord r.steps])]
  else []) ++
    if sceneOn = true ∧ change = true then
      [report .scene
        ([slotWord (last.map Prod.fst), (last.map Prod.snd).getD 0] ++ bothWords (signedDWord (sceneStart m r.slot)) ++
          [natWord r.dEff, (slotWordAt m r.slot 6 &&& 3) ||| (if tag.isSome then 0x8000 else 0)] ++
          bothWords (match tag with | some v => v | none => absent))]
    else []

section Tracker
variable {s : State}

theorem sceneRecord_eq (s : State) (before : Tracker) (r : Resolution) :
    ∃ absent, (s.sceneRecord before r).1 =
      { kind := .scene, frame := r.fieldFrame, slot := some r.slot, serial := r.serial
        detail :=
          [slotWord (before.lastResolved.map Prod.fst), (before.lastResolved.map Prod.snd).getD 0] ++
            bothWords (signedDWord (sceneStart s.cue r.slot)) ++
            [natWord r.dEff, (slotWordAt s.cue r.slot 6 &&& 3) ||| (if (sceneTag s.cue r.slot).isSome then 0x8000 else 0)] ++
            bothWords (match sceneTag s.cue r.slot with | some v => v | none => absent) } := by
  refine ⟨s.drawDWord.1, ?_⟩
  unfold State.sceneRecord
  dsimp only
  cases sceneTag s.cue r.slot with
  | none => rfl
  | some v => rfl

theorem resolve_records (hrun : s.port.run = .running) :
    ∃ r absent, s.resolve.state.tracker.latest = some r ∧
      s.resolve.records =
        trackerReports s.cue s.sequencer.fieldFrame s.tracker s.setup.walkLimit s.resolve.state.tracker.lagging
          s.resolve.sceneChange true true r absent := by
  cases hcovers : covers s.cue (State.fieldWalk s).1 s.sequencer.fieldFrame with
  | true =>
    let r := resolvedRecord s.cue s.sequencer (State.fieldWalk s).1 (State.fieldWalk s).2
    let s' := s.settle { s with tracker := s.tracker.afterResolved r }
    obtain ⟨absent, hscene⟩ := sceneRecord_eq s' s.tracker r
    have hrecords : (s.resolveCovered (State.fieldWalk s).1 (State.fieldWalk s).2).records =
        (if s.tracker.lagging then [holdResumedRecord s.tracker r] else []) ++
          if s.tracker.sceneChange r then [(s'.sceneRecord s.tracker r).1] else [] := by
      unfold State.resolveCovered
      dsimp only
      split
      · rfl
      · rw [List.append_nil]
    rw [resolve_of_covers hrun hcovers, resolveCovered_tracker, resolveCovered_sceneChange, hrecords, hscene]
    refine ⟨r, absent, rfl, ?_⟩
    unfold trackerReports
    have hlagging : (s.tracker.afterResolved r).lagging = false := rfl
    have hframe : r.fieldFrame = s.sequencer.fieldFrame := rfl
    rw [hlagging, ← hframe]
    cases s.tracker.lagging <;> cases s.tracker.sceneChange r <;> simp [holdResumedRecord, s']
  | false =>
    let r := heldRecord s.cue s.sequencer (State.fieldWalk s).1 (State.fieldWalk s).2
    have hrecords : (s.resolveHeld (State.fieldWalk s).1 (State.fieldWalk s).2).records =
        if s.tracker.lagging then [] else [holdEnteredRecord s.tracker r s.setup.walkLimit] := by
      unfold State.resolveHeld
      dsimp only
      split
      · rfl
      · rfl
    rw [resolve_of_not_covers hrun hcovers, resolveHeld_tracker, resolveHeld_sceneChange, hrecords]
    refine ⟨r, 0, rfl, ?_⟩
    unfold trackerReports
    have hframe : r.fieldFrame = s.sequencer.fieldFrame := rfl
    rw [← hframe]
    cases s.tracker.lagging <;> simp [Tracker.afterHeld, holdEnteredRecord, lastSlotWord]

theorem filter_ite_singleton {p : Record → Bool} {c : Prop} [Decidable c] {on : Bool} {x : Record} (hx : p x = on) :
    (if true = true ∧ c then [x] else []).filter p = if on = true ∧ c then [x] else [] := by
  cases on <;> by_cases hc : c <;> simp [hc, hx]

theorem length_ite_singleton_le (c : Prop) [Decidable c] (x : Record) : (if c then [x] else []).length ≤ 1 := by
  split <;> simp

/-- The writer takes of the tracker's records those the mask admits (R165). -/
theorem filter_trackerReports {u : State} (hrun : u.port.run = .running) (m : Memory) (frame : Int) (before : Tracker)
    (limit : Nat) (lagging change : Bool) (r : Resolution) (absent : DWord) :
    (trackerReports m frame before limit lagging change true true r absent).filter (fun q => u.takes q.kind) =
      trackerReports m frame before limit lagging change u.setup.holdEnable u.setup.sceneEnable r absent := by
  unfold trackerReports
  dsimp only
  rw [List.filter_append]
  congr 1
  · exact filter_ite_singleton (by simp [State.takes, hrun])
  · exact filter_ite_singleton (by simp [State.takes, hrun])

theorem length_trackerReports_le (m : Memory) (frame : Int) (before : Tracker) (limit : Nat)
    (lagging change holdOn sceneOn : Bool) (r : Resolution) (absent : DWord) :
    (trackerReports m frame before limit lagging change holdOn sceneOn r absent).length ≤ 2 := by
  unfold trackerReports
  dsimp only
  rw [List.length_append]
  exact Nat.add_le_add (length_ite_singleton_le _ _) (length_ite_singleton_le _ _)

end Tracker

/-! ### The records of the split, the pass and the MARK user -/

section Others
variable {s : State}

/-- The SPLIT record of a pulse that finds a split pending (R132, R134). -/
def busyRecord (f : Int) : Record := splitRecord f none 0 .busy none 0 false 0

theorem splitPulse_records (hrun : s.port.run = .running) (pulse : Bool) :
    (s.splitPulse pulse).2 =
      if pulse = true ∧ s.requests.splitPending ≠ none then [busyRecord s.sequencer.fieldFrame] else [] := by
  unfold State.splitPulse
  cases pulse with
  | false => simp
  | true =>
    rw [if_pos ⟨rfl, hrun⟩]
    cases s.requests.splitPending with
    | none => simp
    | some f => simp [busyRecord]

/-- The PASS record of a judgement that changes the pass state (R150). -/
theorem judgePass_records (s : State) :
    s.judgePass.2 =
      if s.judgePass.1.pass.state = s.pass.state then []
      else [passReport s.sequencer.fieldFrame s.pass.state s.judgePass.1.pass] := by
  rcases judgePass_cases s with h | ⟨draws, p, hstate, h⟩ | ⟨draws, p, hrec, hstate, h⟩
  · rw [h, if_pos rfl]
  · rw [h, changePass_pass, if_neg hstate]
    exact changePass_snd { s with draws := draws } p
  · have hpass : (({ s with draws := draws } : State).setPass p).pass = p := by simp
    rw [h, hpass, if_pos (hstate.trans hrec.symm)]

/-- PASS STOP leaves what a PASS record carries. -/
theorem passStopPulse_report (pulse : Bool) :
    (s.passStopPulse pulse).pass.state = s.pass.state ∧
      ∀ f before, passReport f before (s.passStopPulse pulse).pass = passReport f before s.pass := by
  unfold State.passStopPulse State.setStopPending
  split
  · exact ⟨by simp, fun f before => by simp [passReport]⟩
  · exact ⟨rfl, fun _ _ => rfl⟩

/-- The MARK records of a field (R159). -/
def markReports (s : State) (pulse : Bool) (frame : Int) (last : Option (Slot × Word)) (p : Pass) : List Record :=
  match s.setup.userSelection[7] with
  | some c =>
    if pulse = true then
      [{ kind := .mark, frame := frame, slot := last.map Prod.fst, serial := (last.map Prod.snd).getD 0
         detail :=
           [natWord c.val, natWord ((s.setup.channelSelection[c].map Generator.number).getD 0),
             natWord p.state.code] ++ bothWords (natDWord p.recorded) }]
    else []
  | none => []

theorem markRecords_eq (s : State) (pulse : Bool) :
    s.markRecords pulse = markReports s pulse s.sequencer.fieldFrame s.tracker.lastResolved s.pass := by
  have huser : s.setup.userSelection[userMark] = s.setup.userSelection[7] := rfl
  unfold State.markRecords markReports
  rw [huser]
  cases pulse with
  | false =>
    cases s.setup.userSelection[7] <;> rfl
  | true =>
    cases s.setup.userSelection[7] <;> rfl

end Others

end Sys2Proof.Proofs

/-! O58: the records a FIELD START writes, put together. -/

namespace Sys2Proof.Proofs
open Sys2Proof.Machine

/-! ### The kinds of the blocks' records -/

section Kinds
variable {s : State} {x : Record}

theorem kind_of_mem_ite {c : Prop} [Decidable c] {y : Record} (h : x ∈ if c then [y] else []) : x.kind = y.kind := by
  split at h
  · rw [List.mem_singleton.mp h]
  · cases h

theorem kind_of_mem_sequencerReports {id : FieldIdentity} {q : Sequencer} {first : Option Int} {absent : DWord}
    (h : x ∈ sequencerReports s id q first absent) : x.kind = .reference ∨ x.kind = .lock := by
  unfold sequencerReports at h
  rcases List.mem_append.mp h with h | h
  · have hkind := kind_of_mem_ite h
    exact .inl hkind
  · split at h
    · cases h
    · rw [List.mem_singleton.mp h]
      exact .inr rfl

theorem length_sequencerReports_le (s : State) (id : FieldIdentity) (q : Sequencer) (first : Option Int) (absent : DWord) :
    (sequencerReports s id q first absent).length ≤ 2 := by
  unfold sequencerReports
  split_ifs <;> simp

theorem kind_of_mem_trackerReports {m : Memory} {frame : Int} {before : Tracker} {limit : Nat}
    {lagging change holdOn sceneOn : Bool} {r : Resolution} {absent : DWord}
    (h : x ∈ trackerReports m frame before limit lagging change holdOn sceneOn r absent) :
    x.kind = .hold ∨ x.kind = .scene := by
  unfold trackerReports at h
  rcases List.mem_append.mp h with h | h
  · have hkind := kind_of_mem_ite h
    exact .inl hkind
  · have hkind := kind_of_mem_ite h
    exact .inr hkind

theorem kind_of_mem_markReports {pulse : Bool} {frame : Int} {last : Option (Slot × Word)} {p : Pass}
    (h : x ∈ markReports s pulse frame last p) : x.kind = .mark := by
  unfold markReports at h
  split at h
  · have hkind := kind_of_mem_ite h
    exact hkind
  · cases h

theorem length_markReports_le (s : State) (pulse : Bool) (frame : Int) (last : Option (Slot × Word)) (p : Pass) :
    (markReports s pulse frame last p).length ≤ 1 := by
  unfold markReports
  split
  · exact length_ite_singleton_le _ _
  · simp

/-- The writer of a RUNNING part takes every record the mask does not concern (R165). -/
theorem filter_takes_eq_self {q : List Record} (hrun : s.port.run = .running)
    (h : ∀ x ∈ q, x.kind ≠ .scene ∧ x.kind ≠ .hold) : q.filter (fun x => s.takes x.kind) = q :=
  List.filter_eq_self.mpr fun x hx => takes_of_running hrun (h x hx).1 (h x hx).2

end Kinds

/-! ### The records of the field, from the part as the FIELD START found it -/

section Field
variable (s : State) (id : FieldIdentity)

/-- The first-field frame of the field, absent where a re-phase falls due (R26). -/
def fieldFirst : Option Int :=
  if s.sequencer.alignPending = true ∨ s.sequencer.reference = .lost ∨ s.sequencer.lastIdentity = some id ∨
      s.turnInversions.presentsPulse 10 = true then none
  else s.sequencer.firstFieldFrame

/-- The records of the SPLIT user's pulse. -/
def splitReports (busy : Record) : List Record :=
  if s.turnInversions.presentsPulse 6 = true ∧ s.requests.splitPending ≠ none then [busy] else []

/-- The records of a judgement. -/
def passReports (p : Pass) : List Record :=
  if p.state = s.pass.state then [] else [passReport s.position.frame s.pass.state p]

theorem fieldPlaced_records :
    ∃ absent, (State.fieldPlaced s id).2 = sequencerReports s id (s.fieldStart id).sequencer (fieldFirst s id) absent := by
  obtain ⟨absent, h⟩ := takeField_records (State.fieldTurned s).formPresentation id
    ((State.fieldTurned s).presentsPulse userCadenceAlign)
  have hsequencer : (State.fieldTurned s).formPresentation.sequencer = s.sequencer := by simp
  have hposition : (State.fieldTurned s).formPresentation.position = s.position := by simp
  have hsetup : (State.fieldTurned s).formPresentation.setup = s.setup := by simp
  have hafter : (State.fieldTurned s).formPresentation.fieldSequencer id ((State.fieldTurned s).presentsPulse userCadenceAlign) =
      (s.fieldStart id).sequencer := by
    rw [fieldStart_sequencer, presentsPulse_fieldTurned]
    exact fieldSequencer_congr hposition hsequencer hsetup id _
  have hfirst : (if (State.fieldTurned s).formPresentation.sequencer.rephaseDue id
        ((State.fieldTurned s).presentsPulse userCadenceAlign) then none
      else (State.fieldTurned s).formPresentation.sequencer.firstFieldFrame) = fieldFirst s id := by
    rw [hsequencer, presentsPulse_fieldTurned]
    exact if_congr rephaseDue_iff rfl rfl
  refine ⟨absent, h.trans ?_⟩
  rw [hafter, hfirst]
  unfold sequencerReports
  rw [hsequencer, hposition]

variable (hrun : s.port.run = .running)
include hrun

theorem fieldCut_records : (State.fieldCut s id).2 = splitReports s (busyRecord s.position.frame) := by
  have hframe : (State.fieldPlaced s id).1.sequencer.fieldFrame = s.position.frame := by
    rw [fieldPlaced_sequencer]; rfl
  rw [State.fieldCut, splitPulse_records (by simpa using hrun), presentsPulse_fieldTurned, hframe]
  simp only [fieldPlaced_frame]
  rfl

theorem fieldResolved_records :
    ∃ r absent, (s.fieldStart id).tracker.latest = some r ∧
      (State.fieldResolved s id).records =
        trackerReports s.cue s.position.frame s.tracker s.setup.walkLimit (s.fieldStart id).tracker.lagging
          (s.fieldStart id).matrix.pulses.sceneChange true true r absent := by
  obtain ⟨r, absent, hlatest, hrecords⟩ := resolve_records (s := (State.fieldCut s id).1) (by simpa using hrun)
  have hsame := sameScenes_fieldCut s id
  obtain ⟨-, htracker, -⟩ := fieldStart_blocks s id
  refine ⟨r, absent, by rw [htracker]; exact hlatest, hrecords.trans ?_⟩
  rw [htracker, fieldStart_sceneChange, fieldCut_fieldFrame]
  unfold trackerReports
  dsimp only
  rw [hsame.tag, hsame.start, hsame.word r.slot (by omega)]
  simp only [fieldCut_frame]
  rfl

omit hrun in
theorem fieldJudged_records : (State.fieldJudged s id).2 = passReports s (s.fieldStart id).pass := by
  have hframe : (State.fieldResolved s id).state.sequencer.fieldFrame = s.position.frame := by
    simp only [fieldResolved_frame, fieldPlaced_sequencer]
    rfl
  have hpass : (State.fieldResolved s id).state.pass = s.pass := by simp
  obtain ⟨-, -, -, hafter, -⟩ := fieldStart_blocks s id
  obtain ⟨hstate, hreport⟩ := passStopPulse_report (s := (State.fieldJudged s id).1)
    ((State.fieldTurned s).presentsPulse userPassStop)
  have hstopped : (s.fieldStart id).pass =
      ((State.fieldJudged s id).1.passStopPulse ((State.fieldTurned s).presentsPulse userPassStop)).pass := hafter
  unfold passReports
  rw [hstopped, hstate, hreport, State.fieldJudged, judgePass_records, hframe, hpass]

omit hrun in
theorem fieldStopped_marks :
    (State.fieldStopped s id).markRecords ((State.fieldTurned s).presentsPulse userMark) =
      markReports s (s.turnInversions.presentsPulse 7) s.position.frame (s.fieldStart id).tracker.lastResolved
        (s.fieldStart id).pass := by
  have hframe : (State.fieldStopped s id).sequencer.fieldFrame = s.position.frame := by
    simp only [fieldStopped_frame, fieldPlaced_sequencer]
    rfl
  obtain ⟨-, htracker, -, hpass, -⟩ := fieldStart_blocks s id
  have htracker' : (State.fieldStopped s id).tracker = (s.fieldStart id).tracker := by rw [htracker]; simp
  rw [markRecords_eq, presentsPulse_fieldTurned, hframe, htracker', ← hpass]
  unfold markReports
  rw [fieldStopped_setup]
  rfl

end Field

/-! ### The records as they are written -/

/-- A record with its detail words shortened by zeros that are written all the same (R181). -/
def shortened (long short r : Record) : Record := if r = long then short else r

theorem recordStands_of_detail {m : Memory} {place : Nat} {sequence : Word} {count : DWord} {r q : Record}
    (hkind : q.kind = r.kind) (hframe : q.frame = r.frame) (hslot : q.slot = r.slot) (hserial : q.serial = r.serial)
    (hdetail : ∀ k, k < 8 → q.detail.getD k 0 = r.detail.getD k 0) (h : recordStands m place sequence count r) :
    recordStands m place sequence count q := by
  obtain ⟨hseq, hk, hcount, hf, hs, he, hd⟩ := h
  exact ⟨hseq, by rw [hkind]; exact hk, hcount, by rw [hframe]; exact hf, by rw [hslot]; exact hs,
    by rw [hserial]; exact he, fun k hk8 => (hd k hk8).trans (hdetail k hk8).symm⟩

theorem wrote_map {s t : State} {rs : List Record} {g : Record → Record} (h : s.wrote t rs)
    (hg : ∀ m place sequence count r, recordStands m place sequence count r → recordStands m place sequence count (g r)) :
    s.wrote t (rs.map g) := by
  obtain ⟨hwriter, hstand, hread⟩ := h
  unfold State.wrote
  rw [List.length_map]
  refine ⟨hwriter, fun n q hq => ?_, hread⟩
  rw [List.getElem?_map] at hq
  obtain ⟨r, hr, rfl⟩ := Option.map_eq_some_iff.mp hq
  exact hg _ _ _ _ r (hstand n r hr)

/-- The SPLIT report of reason BUSY, its words not given being 0 (R134, R186). -/
def busyReport (f : Int) : Record := { kind := .split, frame := f, slot := none, serial := 0, detail := [4, 0xFFFF] }

theorem recordStands_shortened (f : Int) (m : Memory) (place : Nat) (sequence : Word) (count : DWord) (r : Record)
    (h : recordStands m place sequence count r) :
    recordStands m place sequence count (shortened (busyRecord f) (busyReport f) r) := by
  unfold shortened
  split
  · next heq =>
    subst heq
    refine recordStands_of_detail (r := busyRecord f) rfl rfl rfl rfl (fun k hk => ?_) h
    interval_cases k <;> rfl
  · exact h

theorem map_shortened_eq_self {f : Int} {q : List Record} (h : ∀ x ∈ q, x.kind ≠ .split) :
    q.map (shortened (busyRecord f) (busyReport f)) = q := by
  refine (List.map_congr_left (g := id) fun x hx => if_neg fun heq => h x hx ?_).trans (List.map_id _)
  rw [heq]
  rfl

theorem map_shortened_splitReports (s : State) (f : Int) :
    (splitReports s (busyRecord f)).map (shortened (busyRecord f) (busyReport f)) = splitReports s (busyReport f) := by
  unfold splitReports
  split
  · simp [shortened]
  · rfl

/-! ### All of them -/

section All
variable (s : State) (id : FieldIdentity)

/-- The records of the field, block by block, with the values the model leaves free. -/
def fieldReports (busy : Record) (r : Resolution) (absentFirst absentTag : DWord) : List (List Record) :=
  [sequencerReports s id (s.fieldStart id).sequencer (fieldFirst s id) absentFirst, splitReports s busy,
    trackerReports s.cue s.position.frame s.tracker s.setup.walkLimit (s.fieldStart id).tracker.lagging
      (s.fieldStart id).matrix.pulses.sceneChange s.setup.holdEnable s.setup.sceneEnable r absentTag,
    passReports s (s.fieldStart id).pass,
    markReports s (s.turnInversions.presentsPulse 7) s.position.frame (s.fieldStart id).tracker.lastResolved
      (s.fieldStart id).pass]

theorem length_fieldReports_le (busy : Record) (r : Resolution) (absentFirst absentTag : DWord) :
    (fieldReports s id busy r absentFirst absentTag).flatten.length ≤ 7 := by
  have hsequencer := length_sequencerReports_le s id (s.fieldStart id).sequencer (fieldFirst s id) absentFirst
  have hsplit : (splitReports s busy).length ≤ 1 := length_ite_singleton_le _ _
  have htracker := length_trackerReports_le s.cue s.position.frame s.tracker s.setup.walkLimit
    (s.fieldStart id).tracker.lagging (s.fieldStart id).matrix.pulses.sceneChange s.setup.holdEnable s.setup.sceneEnable r
    absentTag
  have hpass : (passReports s (s.fieldStart id).pass).length ≤ 1 := by
    unfold passReports
    split <;> simp
  have hmark := length_markReports_le s (s.turnInversions.presentsPulse 7) s.position.frame
    (s.fieldStart id).tracker.lastResolved (s.fieldStart id).pass
  unfold fieldReports
  simp only [List.flatten_cons, List.flatten_nil, List.length_append, List.length_nil]
  omega

/-- The records that the writer takes of those the blocks hand (R165). -/
theorem fieldRecords_taken (hrun : s.port.run = .running) :
    ∃ r absentFirst absentTag, (s.fieldStart id).tracker.latest = some r ∧
      (State.fieldRecords s id).map (fun q => q.filter fun x => (State.fieldRaised s id).takes x.kind) =
        fieldReports s id (busyRecord s.position.frame) r absentFirst absentTag := by
  obtain ⟨absentFirst, hsequencer⟩ := fieldPlaced_records s id
  obtain ⟨r, absentTag, hlatest, htracker⟩ := fieldResolved_records s id hrun
  have hraised : (State.fieldRaised s id).port.run = .running := by simpa using hrun
  have hsetup : (State.fieldRaised s id).setup = s.setup := by simp
  refine ⟨r, absentFirst, absentTag, hlatest, ?_⟩
  unfold State.fieldRecords fieldReports
  rw [hsequencer, fieldCut_records s id hrun, htracker, fieldJudged_records, fieldStopped_marks, List.map_cons, List.map_cons,
    List.map_cons, List.map_cons, List.map_cons, List.map_nil, filter_trackerReports hraised, hsetup,
    filter_takes_eq_self hraised, filter_takes_eq_self hraised, filter_takes_eq_self hraised, filter_takes_eq_self hraised]
  · intro x hx
    rw [kind_of_mem_markReports hx]
    exact ⟨nofun, nofun⟩
  · intro x hx
    unfold passReports at hx
    split at hx
    · cases hx
    · rw [List.mem_singleton.mp hx]
      exact ⟨nofun, nofun⟩
  · intro x hx
    rw [kind_of_mem_ite hx]
    exact ⟨nofun, nofun⟩
  · intro x hx
    rcases kind_of_mem_sequencerReports hx with h | h
    · rw [h]
      exact ⟨nofun, nofun⟩
    · rw [h]
      exact ⟨nofun, nofun⟩

/-- The BUSY record shortened, the rest as they are. -/
theorem map_shortened_fieldReports (r : Resolution) (absentFirst absentTag : DWord) :
    (fieldReports s id (busyRecord s.position.frame) r absentFirst absentTag).map
        (List.map (shortened (busyRecord s.position.frame) (busyReport s.position.frame))) =
      fieldReports s id (busyReport s.position.frame) r absentFirst absentTag := by
  unfold fieldReports
  rw [List.map_cons, List.map_cons, List.map_cons, List.map_cons, List.map_cons, List.map_nil, map_shortened_splitReports,
    map_shortened_eq_self, map_shortened_eq_self, map_shortened_eq_self, map_shortened_eq_self]
  · intro x hx
    rw [kind_of_mem_markReports hx]
    exact nofun
  · intro x hx
    unfold passReports at hx
    split at hx
    · cases hx
    · rw [List.mem_singleton.mp hx]
      exact nofun
  · intro x hx
    rcases kind_of_mem_trackerReports hx with h | h
    · rw [h]
      exact nofun
    · rw [h]
      exact nofun
  · intro x hx
    rcases kind_of_mem_sequencerReports hx with h | h
    · rw [h]
      exact nofun
    · rw [h]
      exact nofun

/-- What a FIELD START writes into the ring, with room for it (R165, R166). -/
theorem wrote_fieldStart (hroom : s.hasRoom 7) (hread : s.engine.read = none) :
    ∃ r absentFirst absentTag rs, (s.fieldStart id).tracker.latest = some r ∧ s.wrote (s.fieldStart id) rs ∧
      rs.Perm (fieldReports s id (busyReport s.position.frame) r absentFirst absentTag).flatten ∧
      ∀ q ∈ fieldReports s id (busyReport s.position.frame) r absentFirst absentTag, q.Sublist rs := by
  obtain ⟨r, absentFirst, absentTag, hlatest, htaken⟩ := fieldRecords_taken s id hroom.1
  have hflat : ((State.fieldRecords s id).flatten.filter fun x => (State.fieldRaised s id).takes x.kind) =
      (fieldReports s id (busyRecord s.position.frame) r absentFirst absentTag).flatten := by
    rw [List.filter_flatten, htaken]
  have hwriter : (State.fieldRaised s id).writer = s.writer := by simp [fieldTurned_eq_of_none hread]
  obtain ⟨rs, hwrote, hperm, hsub⟩ := exists_wrote_handTogether (s := State.fieldRaised s id) (qs := State.fieldRecords s id)
    (by
      rw [hflat]
      exact hasRoom_congr (hasRoom_mono hroom (length_fieldReports_le s id _ r absentFirst absentTag)) (by simp) hwriter)
  rw [hflat] at hperm
  have hbefore : s.wrote (State.fieldHanded s id) rs := wrote_before hwrote hwriter fun a ha => by
    have hcue : (State.fieldRaised s id).cue = (State.fieldStopped s id).cue := by simp
    rw [hcue, read_fieldStopped hread (not_inPassBlock_of_inRing ha)]
  have hafter : s.wrote (s.fieldStart id) rs := by
    refine wrote_after hbefore ?_ (fun a ha => ?_) ?_
    · rw [fieldStart_writer_eq_handed]
    · rw [fieldStart_eq]
      exact (changesWithin_engineField _ _).read fun h => not_inRing_of_inStatus h ha
    · rw [(fieldStart_blocks s id).1]
      simp
  refine ⟨r, absentFirst, absentTag, rs.map (shortened (busyRecord s.position.frame) (busyReport s.position.frame)), hlatest,
    wrote_map hafter (recordStands_shortened s.position.frame), ?_, fun q hq => ?_⟩
  · have hmapped := hperm.map (shortened (busyRecord s.position.frame) (busyReport s.position.frame))
    rw [List.map_flatten, map_shortened_fieldReports] at hmapped
    exact hmapped
  · rw [← map_shortened_fieldReports, ← htaken, List.map_map] at hq
    obtain ⟨q', hq', rfl⟩ := List.mem_map.mp hq
    exact (hsub q' hq').map _

end All

/-- Settles O58: the five blocks' records, in the order in which the writer takes them. -/
theorem fieldStartWritesItsReports : Obligations.FieldStartWritesItsReports := by
  unfold Obligations.FieldStartWritesItsReports
  intro id s hroom hread
  obtain ⟨r, absentFirst, absentTag, rs, hlatest, hwrote, hperm, hsub⟩ := wrote_fieldStart s id hroom hread
  refine ⟨s.fieldStart id, rs, absentFirst, absentTag, exec_fieldStart s id, hwrote, ?_⟩
  have hflat : (fieldReports s id (busyReport s.position.frame) r absentFirst absentTag).flatten =
      sequencerReports s id (s.fieldStart id).sequencer (fieldFirst s id) absentFirst ++
        splitReports s (busyReport s.position.frame) ++
        trackerReports s.cue s.position.frame s.tracker s.setup.walkLimit (s.fieldStart id).tracker.lagging
          (s.fieldStart id).matrix.pulses.sceneChange s.setup.holdEnable s.setup.sceneEnable r absentTag ++
        passReports s (s.fieldStart id).pass ++
        markReports s (s.turnInversions.presentsPulse 7) s.position.frame (s.fieldStart id).tracker.lastResolved
          (s.fieldStart id).pass := by
    simp [fieldReports]
  rw [hflat] at hperm
  have hsequencer := hsub (sequencerReports s id (s.fieldStart id).sequencer (fieldFirst s id) absentFirst)
    (by simp [fieldReports])
  have htracker := hsub (trackerReports s.cue s.position.frame s.tracker s.setup.walkLimit (s.fieldStart id).tracker.lagging
    (s.fieldStart id).matrix.pulses.sceneChange s.setup.holdEnable s.setup.sceneEnable r absentTag) (by simp [fieldReports])
  dsimp only
  rw [hlatest]
  exact ⟨hperm, hsequencer, htracker⟩

end Sys2Proof.Proofs
